-- ==== Sys2Proof/Word.lean ====
section
/-! DEFINITION. The machine word, the byte and the port, core and channel names that every file shares. -/

namespace Sys2Proof

/-- A 32-bit register word (R30). -/
abbrev Word := BitVec 32

/-- One byte. -/
abbrev Byte := BitVec 8

/-- The three host ports, in the port order of R374. -/
inductive Port where
  | twa | twb | hsp
  deriving DecidableEq, Repr

/-- The two cores (R431). -/
inductive CoreId where
  | sc | ac
  deriving DecidableEq, Repr

/-- A rail, A = 0 to D = 3 (R384). -/
abbrev Rail := Fin 4

/-- A PWM channel: 0 to 31 are P00 to P31, 32 is H0 and 33 is H1 (R31). -/
abbrev Chan := Fin 34

/-- The index of a port: TWA 0, TWB 1, HSP 2 (R381). -/
def Port.idx : Port → Nat
  | .twa => 0
  | .twb => 1
  | .hsp => 2

/-- The index of a core: SC 0, AC 1 (R446 TGT). -/
def CoreId.idx : CoreId → Nat
  | .sc => 0
  | .ac => 1

/-- The other core (R435, R441). -/
def CoreId.other : CoreId → CoreId
  | .sc => .ac
  | .ac => .sc

/-- The port of an index; an index that names none answers HSP. -/
def Port.ofIdx : Nat → Port
  | 0 => .twa
  | 1 => .twb
  | _ => .hsp

end Sys2Proof
end

