-- ==== Sys2Proof/Syntax.lean ====
section
/-!
DEFINITION. The commands of the block: one constructor of `Instr` per row of spec/opcode_table.json.
A row that stands for an event inside the part carries what the event brings from outside (a converted code, a pin, a measured result); a row of "Command Reference" carries the port it arrives on, the header fields of R353 and the payload bytes.
Where several rows share one opcode (an ACT byte selects the row), the payload of the row is what follows the ACT byte.
-/

namespace Sys2Proof

/-- The header fields of a command packet that the host chooses (R353); the opcode is the row's and LEN is the payload's length. -/
structure Hdr where
  /-- Byte 0: protocol version, reserved flags, RPLY. -/
  verFlags : Byte
  tag : Byte
  objId : BitVec 16
  seq : BitVec 16
  deriving DecidableEq, Repr

/-- An instance of an arrayed block with the carrier time, in PWM ticks, at which its channel's pulse meets the event (R116, R298). -/
structure Timed (n : Nat) where
  no : Fin n
  t : Nat
  deriving DecidableEq, Repr

/-- A read of MRAM whose error code reports an error: its address, and whether the code corrected it (R450). -/
structure MramRead where
  addr : Word
  corrected : Bool
  deriving DecidableEq, Repr

/-- The condition on which the reference monitor declares a clock failure (R25). -/
inductive ClockFault where
  | noEdge | countOut | lockDrop
  deriving DecidableEq, Repr

/-- The inputs that can trip a channel: the two comparator paths of TRIPSEL and the stage's fault pin (R118, R119). -/
inductive TripPath where
  | filtered | asynchronous | faultPin
  deriving DecidableEq, Repr

/-- The check that a received Cue packet failed (R224). -/
inductive CueErr where
  | framing | crc | type | format
  deriving DecidableEq, Repr

/-- Why the Cue link is lost (R223). -/
inductive CueLoss where
  | noClock | frequency | laneViolations | errorRate
  deriving DecidableEq, Repr

/-- How a TWX transaction ended (R415, R416). -/
inductive TwxEnd where
  | ok | nack | stuck
  deriving DecidableEq, Repr

/-- What discovery found at one stage address (R418, R419): the address was acknowledged, the 16 bytes of the identity block as last read, and the version that the stage read back. -/
structure StageProbe where
  acked : Bool
  block : List Byte
  readback : Byte
  deriving DecidableEq, Repr

/-- One stage's answer to a telemetry poll (R422). -/
structure TelemReading where
  ok : Bool
  status : Byte
  temp : Byte
  vin : BitVec 16
  iout : BitVec 16
  deriving DecidableEq, Repr

/-- One calibration result of a converter (R99, R100). -/
structure CalFactor where
  offset : Int
  gain : Nat
  deriving DecidableEq, Repr

/-- The result of one self-test (R479). -/
structure BistResult where
  sig : Word
  nfail : BitVec 16
  time : BitVec 16
  faddr : Word
  deriving DecidableEq, Repr

/-- The commands of the AL3296 (spec/opcode_table.json, in the table's order). -/
inductive Instr where
  -- power, reset and start
  | powerOn
  | supplyLoss
  | resetNAssert
  | resetRelease
  | pllLock (addr0 addr1 safev : BitVec 16)
  | pllLockTimeout
  | bootTimerExpiry
  | bootComplete
  | clockFailure (why : ClockFault)
  | deferredReset
  | watchdogKick (core : CoreId) (value : Word)
  | watchdogPrewarning (core : CoreId)
  | watchdogExpiry (core : CoreId)
  | fatalCoreFault (core : CoreId)
  | coreSleep (core : CoreId)
  -- PWM array
  | pwmReload (ch : Chan)
  | pwmPeakReload (ch : Chan)
  | pwmTrip (ch : Chan) (path : TripPath) (t : Nat)
  | fltRegistered (ch : Timed 32)
  | syncEvent (ch : Chan) (carrier : BitVec 13)
  | synciEdge (carrier : BitVec 13) (t : Nat)
  | synciLoss
  | fineDelayMeasure (ch : Chan) (map : List Byte)
  | fdstaleTimeout (ch : Chan)
  -- sensing
  | csaSample (ch : Chan) (raw : BitVec 12) (t : Nat)
  | csaSlopeSample (ch : Chan) (second : Bool) (raw : BitVec 12) (toff t : Nat)
  | vscConversion (vb : Bool) (slot : Fin 16) (raw : BitVec 14)
  | judgementVerdict (readings : List (BitVec 16))
  | checkSourceRotate
  | leUpdate (ctx : Fin 5) (t : Nat)
  | headroomWithdraw
  -- rail timers
  | endlyExpiry (r : Rail)
  | pgdlyExpiry (r : Rail)
  | rampdownTimeout (r : Rail)
  | hiccupOffExpiry (r : Rail)
  | retryClearTimer (r : Rail)
  -- comparators, housekeeping converter, coulomb counter
  | comparatorAssert (inst : Timed 48)
  | comparatorRelease (inst : Timed 48)
  | comparatorRawEdge (inst : Fin 48) (passed : Bool)
  | hkaConversion (inst : Fin 40) (x : Int)
  | cctSample (x : BitVec 16)
  -- phase manager
  | shedDwellExpiry (r : Rail)
  | holdExpiry (r : Rail)
  | chargeBalanceWindow (qmeas : Int)
  | phaseTableSaveTimer
  | staleCheck
  | swapCopyDone
  -- identification
  | identChip
  | identRecordEnd (bandH : Bool)
  | fftDone
  | identPublish
  | autoRetuneRetry
  -- Cue link
  | cueClockQualified
  | cueDeskewDone
  | cueTrain (vmax vmin rails : Byte)
  | cueVcmd (seq : BitVec 4) (rail : BitVec 2) (code : BitVec 12) (vid : Byte)
  | cueSlew (seq : BitVec 4) (rail : BitVec 2) (slew : BitVec 10)
  | cueFcst (seq : BitVec 4) (rail : BitVec 2) (fid : BitVec 4) (di lead : BitVec 16) (lc dur : Byte) (t : Nat)
  | cueCancel (seq : BitVec 4) (rail : BitVec 2) (fid : BitVec 4) (t : Nat)
  | cueState (seq : BitVec 4) (lp : Bool)
  | cueQuiet (seq : BitVec 4) (start : Byte) (qdur : BitVec 16)
  | cuePing (seq : BitVec 4) (token : Byte)
  | cueBadPacket (err : CueErr)
  | cueCodeViolation
  | cueLinkLoss (why : CueLoss)
  | returnPacketStart
  | telemTimer
  | statusTimer
  | throttleRepeat
  | forecastRampStart (r : Rail)
  | forecastWindowClose (r : Rail)
  -- Hamper and curtain
  | ibQualified
  | holdmaxExpiry
  | curtainGapExpiry
  -- reservoir estimator
  | gaugeUpdate
  | startupReconcile (vocMv : Nat)
  | relaxExpiry
  | restAnchorReading (vrvMv : Nat)
  | restWindowStart
  | restWindowEnd
  | restGrantLapse
  | stateRecordTimer
  -- non-volatile store and recorder
  | brownoutWarning
  | brownoutRelease
  | writeInhibit
  | slotWriteDone
  | eventRecordWrite
  | bucketRefill (code : BitVec 16)
  | mramReadError (read : MramRead)
  -- capture, health, procedures
  | captureStall (ch : Fin 16)
  | healthPeriod
  | spectrumDone
  | calAdcDone (factors : List CalFactor)
  | characterisePoint (phase bin : Fin 32) (trim : Int)
  | characteriseDone
  | bistDone (results : List BistResult)
  | updateCommitDone
  | discoveryDone (probes : List StageProbe)
  -- two-wire ports and HSP
  | twxTransactionEnd (how : TwxEnd) (cleared : Bool) (data : Word)
  | twxArbLost
  | twxLowTimeout (released : Bool)
  | twxBusyTimeout
  | telemetryPoll (readings : List TelemReading) (late : Bool)
  | twPointerWrite (p : Port) (ptr : Byte) (extra : List Byte)
  | twPacketWrite (p : Port) (bytes : List Byte)
  | twReplyRead (p : Port) (n : Nat)
  | twSummaryRead (p : Port) (n : Nat)
  | twReplyReread (p : Port) (n : Nat)
  | twBusError (p : Port)
  | twSmbusTimeout (p : Port)
  | hspPacketWrite (bytes : List Byte)
  | hspReplyRead (n : Nat)
  | hspSummaryRead (n : Nat)
  | hspReplyReread (n : Nat)
  -- sessions and ownership
  | sessionTimeout (p : Port)
  | leaseLapse
  | handoverComplete
  | drainEnd
  -- interrupts and debug
  | interruptEntry (core : CoreId)
  | interruptReturn (core : CoreId)
  | wakeFallback (src : Fin 128)
  | systemTick
  | breakpointHit (bp : Fin 24)
  | tapReset
  | tapUpdateIr (ir : BitVec 5)
  | tapDbgacc (addr data : Word) (size : BitVec 2) (write : Bool)
  -- writes of register fields
  | expertUnlock (p : Port) (h : Hdr)
  | expertLock (p : Port) (h : Hdr)
  | commitGo (p : Port) (h : Hdr)
  | leSwapArm (p : Port) (h : Hdr)
  | leHalt (p : Port) (h : Hdr) (halt : Bool)
  | cctSnap (p : Port) (h : Hdr)
  | cctEnable (p : Port) (h : Hdr) (en : Bool)
  | capJobFire (p : Port) (h : Hdr) (job : Fin 8)
  | twxRedisc (p : Port) (h : Hdr)
  | twxHxfrGo (p : Port) (h : Hdr) (words : List Word)
  | softwareInterrupt (core : CoreId)
  | icuEoi (core : CoreId) (src : Byte)
  | icuSetpend (src : Fin 128)
  | icuClrpend (src : Fin 128)
  | icuEnset (src : Fin 128)
  | icuEnclr (src : Fin 128)
  | dbgDrst
  | dbgHalt (sc ac : Bool)
  | dbgStep (core : CoreId)
  | dbgLeHaltreq (req : Bool)
  | dbgLeStep
  | registerWrite (byDebug : Bool) (obj : BitVec 16) (inst : Byte) (word : BitVec 4) (value : Word)
  -- host opcodes
  | hello (p : Port) (h : Hdr) (pl : List Byte)
  | claim (p : Port) (h : Hdr) (pl : List Byte)
  | yield (p : Port) (h : Hdr) (pl : List Byte)
  | grant (p : Port) (h : Hdr) (pl : List Byte)
  | heartbeat (p : Port) (h : Hdr) (pl : List Byte)
  | fence (p : Port) (h : Hdr) (pl : List Byte)
  | abort (p : Port) (h : Hdr) (pl : List Byte)
  | creditsReport (p : Port) (h : Hdr) (pl : List Byte)
  | creditsReclaim (p : Port) (h : Hdr) (pl : List Byte)
  | get (p : Port) (h : Hdr) (pl : List Byte)
  | set (p : Port) (h : Hdr) (pl : List Byte)
  | getblk (p : Port) (h : Hdr) (pl : List Byte)
  | setblk (p : Port) (h : Hdr) (pl : List Byte)
  | peek (p : Port) (h : Hdr) (pl : List Byte)
  | poke (p : Port) (h : Hdr) (pl : List Byte)
  | railCfg (p : Port) (h : Hdr) (pl : List Byte)
  | railOn (p : Port) (h : Hdr) (pl : List Byte)
  | railOff (p : Port) (h : Hdr) (pl : List Byte)
  | setv (p : Port) (h : Hdr) (pl : List Byte)
  | setslew (p : Port) (h : Hdr) (pl : List Byte)
  | loadline (p : Port) (h : Hdr) (pl : List Byte)
  | phaseMap (p : Port) (h : Hdr) (pl : List Byte)
  | shedPolicy (p : Port) (h : Hdr) (pl : List Byte)
  | understudyName (p : Port) (h : Hdr) (pl : List Byte)
  | understudyWithdraw (p : Port) (h : Hdr) (pl : List Byte)
  | understudyRetire (p : Port) (h : Hdr) (pl : List Byte)
  | hamperCfg (p : Port) (h : Hdr) (pl : List Byte)
  | gaugeRead (p : Port) (h : Hdr) (pl : List Byte)
  | restGrantNow (p : Port) (h : Hdr) (pl : List Byte)
  | restGrantAtQuiet (p : Port) (h : Hdr) (pl : List Byte)
  | restDeny (p : Port) (h : Hdr) (pl : List Byte)
  | restCancel (p : Port) (h : Hdr) (pl : List Byte)
  | protCfg (p : Port) (h : Hdr) (pl : List Byte)
  | faultClear (p : Port) (h : Hdr) (pl : List Byte)
  | thermCfg (p : Port) (h : Hdr) (pl : List Byte)
  | captureArm (p : Port) (h : Hdr) (pl : List Byte)
  | captureFire (p : Port) (h : Hdr) (pl : List Byte)
  | captureCancel (p : Port) (h : Hdr) (pl : List Byte)
  | captureRead (p : Port) (h : Hdr) (pl : List Byte)
  | spectrum (p : Port) (h : Hdr) (pl : List Byte)
  | healthRead (p : Port) (h : Hdr) (pl : List Byte)
  | healthBaseline (p : Port) (h : Hdr) (pl : List Byte)
  | healthEsrArm (p : Port) (h : Hdr) (pl : List Byte)
  | healthEsrDisarm (p : Port) (h : Hdr) (pl : List Byte)
  | identRun (p : Port) (h : Hdr) (pl : List Byte)
  | identRead (p : Port) (h : Hdr) (pl : List Byte)
  | retune (p : Port) (h : Hdr) (pl : List Byte)
  | logOpen (p : Port) (h : Hdr) (pl : List Byte)
  | logRead (p : Port) (h : Hdr) (pl : List Byte)
  | logClose (p : Port) (h : Hdr) (pl : List Byte)
  | logClear (p : Port) (h : Hdr) (pl : List Byte)
  | logPolicy (p : Port) (h : Hdr) (pl : List Byte)
  | mode (p : Port) (h : Hdr) (pl : List Byte)
  | reset (p : Port) (h : Hdr) (pl : List Byte)
  | identify (p : Port) (h : Hdr) (pl : List Byte)
  | status (p : Port) (h : Hdr) (pl : List Byte)
  | calAdc (p : Port) (h : Hdr) (pl : List Byte)
  | bist (p : Port) (h : Hdr) (pl : List Byte)
  | characterise (p : Port) (h : Hdr) (pl : List Byte)
  | updateBegin (p : Port) (h : Hdr) (pl : List Byte)
  | updateData (p : Port) (h : Hdr) (pl : List Byte)
  | updateCommit (p : Port) (h : Hdr) (pl : List Byte)
  -- rows that stand last in the table
  | referenceRecovery
  | fltRelease (ch : Timed 32)
  deriving DecidableEq, Repr

end Sys2Proof
end

