-- ==== Sys2Proof/Decode.lean ====
section
/-!
DEFINITION. Reading a command from the bits of an opcode table row.
-/

namespace Sys2Proof

/-- The command that a word spells by the table's bits: spec/opcode_table.json gives no row any bits, so no word spells a command; commands reach the block through its queue. -/
def decodeTableWord (_nbits _w : Nat) : Option Instr := none

end Sys2Proof
end

