-- ==== Sys2Proof/Machine/Bits.lean ====
section
/-!
DEFINITION. Byte order, two's-complement codes, saturation, rounding and the cyclic redundancy checks.
-/

namespace Sys2Proof.Machine

/-- The `n` low bytes of `v`, least significant first (R3). -/
def leBytes : Nat → Nat → List Byte
  | 0, _ => []
  | n + 1, v => BitVec.ofNat 8 v :: leBytes n (v / 256)

/-- The number that little-endian bytes spell (R3). -/
def leNat : List Byte → Nat
  | [] => 0
  | b :: bs => b.toNat + 256 * leNat bs

/-- The value of an unsigned code read as two's complement in `w` bits (R4). -/
def sgn (w n : Nat) : Int := if 2 ^ (w - 1) ≤ n then (n : Int) - 2 ^ w else n

/-- The two's-complement code of `v` in `w` bits. -/
def code (w : Nat) (v : Int) : Nat := (v % 2 ^ w).toNat

/-- `v` limited to `lo` to `hi`. -/
def clamp (lo hi v : Int) : Int := if v < lo then lo else if hi < v then hi else v

/-- `v` saturated to a signed code of `w` bits. -/
def satS (w : Nat) (v : Int) : Int := clamp (-(2 ^ (w - 1))) (2 ^ (w - 1) - 1) v

/-- `a / b` rounded to the nearest integer, halves up. -/
def rdiv (a b : Int) : Int := if b = 0 then 0 else (2 * a + b) / (2 * b)

/-- `a / b` rounded to the nearest integer, halves away from zero (R79, R82). -/
def rdivAway (a b : Int) : Int := if a < 0 then -rdiv (-a) b else rdiv a b

/-- Bits `hi` to `lo` of `n`. -/
def bits (n hi lo : Nat) : Nat := n / 2 ^ lo % 2 ^ (hi + 1 - lo)

/-- Bit `i` of `n`. -/
def bit (n i : Nat) : Bool := n / 2 ^ i % 2 == 1

/-- 1 for true. -/
def b2n (b : Bool) : Nat := if b then 1 else 0

/-- The numbers below `n` whose bit is set in `m`, rising. -/
def maskList (n m : Nat) : List Nat := (List.range n).filter (bit m)

/-- The mask with the listed bits set. -/
def listMask (l : List Nat) : Nat := l.foldl (fun m i => if bit m i then m else m + 2 ^ i) 0

/-- One byte into CRC-16/CCITT-FALSE: polynomial 0x1021, no reflection (R353). -/
def crc16Byte (c : BitVec 16) (b : Byte) : BitVec 16 :=
  (List.range 8).foldl (fun c _ => if c.msb then (c <<< 1) ^^^ 0x1021#16 else c <<< 1) (c ^^^ (b.setWidth 16 <<< 8))

/-- CRC-16/CCITT-FALSE with initial value 0xFFFF and no final XOR (R353). -/
def crc16 (bs : List Byte) : Nat := (bs.foldl crc16Byte 0xFFFF#16).toNat

/-- One byte into the reflected CRC-32 of polynomial 0x04C11DB7 (R59). -/
def crc32Byte (c : BitVec 32) (b : Byte) : BitVec 32 :=
  (List.range 8).foldl (fun c _ => if c.getLsbD 0 then (c >>> 1) ^^^ 0xEDB88320#32 else c >>> 1) (c ^^^ b.setWidth 32)

/-- CRC-32 with initial value and final XOR 0xFFFFFFFF (R59). -/
def crc32 (bs : List Byte) : Nat := ((bs.foldl crc32Byte 0xFFFFFFFF#32) ^^^ 0xFFFFFFFF#32).toNat

/-- The 32-bit words of a byte list, little-endian; a short last group counts as it is. -/
def leWords : List Byte → List Nat
  | a :: b :: c :: d :: r => leNat [a, b, c, d] :: leWords r
  | [] => []
  | l => [leNat l]

/-- The bytes of a list of 32-bit words. -/
def wordBytes (ws : List Nat) : List Byte := ws.flatMap (leBytes 4)

/-- The integer square root by bits, high bit first. -/
def isqrt (n : Nat) : Nat :=
  ((List.range (n.log2 / 2 + 1)).reverse).foldl (fun r k => if (r + 2 ^ k) * (r + 2 ^ k) ≤ n then r + 2 ^ k else r) 0

end Sys2Proof.Machine
end

