-- ==== Sys2Proof/Config.lean ====
section
/-!
DEFINITION. What one implementation fixes and what the spec leaves open. Every value here is opaque: nothing can be proved of it, so a claim holds whatever it is.
-/

namespace Sys2Proof.Config

/-- A fresh free value each time it is asked for: applied to the state's counter `freeCtr` (log entry 1). -/
opaque freeValue : Nat → Nat

/-- What a byte of SRAM, MRAM, microcode store, coefficient RAM, phase table or capture RAM holds before anything is written to it, by address (log entry 5). For the firmware banks it is the factory content (log entry 7). -/
opaque powerUpByte : Nat → BitVec 8

/-- SYS_ID.DIEREV, a fuse (R33, log entry 3). -/
opaque dieRev : BitVec 8

/-- SYS_ID.GRADE, a fuse (R33, log entry 3). -/
opaque grade : BitVec 4

/-- The die identifier of IDENTIFY, unique per device (R402, log entry 3). -/
opaque uid : BitVec 64

/-- The version of the boot ROM's fall-back firmware, which the manual does not fix (R64). -/
opaque fallbackVersion : BitVec 16

/-- The boot ROM's content, which the manual does not give (R27). -/
opaque romByte : Nat → BitVec 8

/-- The factory calibration factors of a converter from production test, which the manual does not give: offset in the converter's raw codes (R101, log entry 19). -/
opaque factoryOffset : Nat → BitVec 12

/-- The factory gain factor of a converter, UQ1.15 (R101, log entry 19). -/
opaque factoryGain : Nat → BitVec 16

/-- The entry of the supervisor image's profile table that a stage's VEND, MODEL and REV fall within: IRATE, GAIN, TONMIN and TVMASK; the manual does not give the table (R418, log entry 20). -/
opaque stageProfile : Nat → Nat → Nat → Option (Nat × Nat × Nat × Nat)

/-- The expected signature of a logic test for the die revision, which the boot ROM holds (R479, log entry 20). -/
opaque bistExpected : Nat → Nat

end Sys2Proof.Config
end

