-- ==== Sys2Proof/Machine/RegMap.lean ====
section
/-!
DEFINITION. The register map: every field of every register object of the spec's field tables, with its place, its access code and its reset value, and the object families that hold them.
A family is a run of scalar objects with consecutive object IDs, or an arrayed frame (R30, R31).
The rule that gives a family's table is named above its fields.
-/

namespace Sys2Proof.Machine

/-- Access codes (R6). -/
inductive Acc where
  | ro | rw | wo | w1c | rws | rwl
  deriving DecidableEq, Repr

/-- A register field: object ID of the family's first object, word, bit range, access code, and its reset value by instance. -/
structure Fld where
  obj : Nat
  word : Nat
  hi : Nat
  lo : Nat
  acc : Acc
  rst : Nat → Nat

/-- The width of a field in bits. -/
def Fld.width (f : Fld) : Nat := f.hi + 1 - f.lo

/-- The store key of a field of an instance. -/
def Fld.key (f : Fld) (i : Nat) : Nat := ((f.obj * 16 + f.word) * 32 + f.lo) * 256 + i

/-- A family of register objects: `stride` 0 for scalar objects with consecutive IDs, else an arrayed frame with that stride in bytes. -/
structure Fam where
  obj : Nat
  count : Nat
  stride : Nat
  words : Nat
  fields : List Fld

/-- SENSE at reset: level 0, rising 1, falling 2, both 3 (R435); reserved sources 0. -/
def icuSenseReset : List Nat :=
  [1,1,3,0,0,0,0,0, 0,0,0,1,1,0,1,0, 0,1,0,2,1,0,0,0, 0,0,0,0,0,0,0,0] ++
  [0,0,2,1,3,1,0,0, 0,0,3,0,1,3,0,1, 1,0,0,1,1,1,1,0, 0,0,0,3,1,3,3,0] ++
  [1,1,3,0,0,0,0,0, 1,1,1,1,1,0,0,0, 0,0,1,1,1,1,0,0, 0,1,1,0,0,0,0,0] ++
  [0,0,0,1,1,1,0,0, 1,0,1,1,0,1,1,0, 1,1,1,1,1,0,0,0, 1,1,1,1,1,1,1,1]

/-- Directory ID of an NVS directory index (R452). -/
def nvsIdReset (i : Nat) : Nat :=
  if i < 64 then 0x0100 + i else if i = 64 then 0x0001 else if i ≤ 72 then 0x0010 + (i - 65)
  else if i = 73 then 0x0020 else if i = 74 then 0x0030 else if i = 75 then 0x0031 else 0x0040

namespace Reg

/-! CLK_STATUS: R26. -/
def CLK_STATUS_FAILCNT : Fld := ⟨0x0001, 0, 7, 4, .ro, fun _ => 0x0⟩
def CLK_STATUS_ONRC : Fld := ⟨0x0001, 0, 3, 3, .ro, fun _ => 1⟩
def CLK_STATUS_CLKFAIL : Fld := ⟨0x0001, 0, 2, 2, .w1c, fun _ => 0⟩
def CLK_STATUS_REFOK : Fld := ⟨0x0001, 0, 1, 1, .ro, fun _ => 0⟩
def CLK_STATUS_LOCK : Fld := ⟨0x0001, 0, 0, 0, .ro, fun _ => 0⟩
def fam_CLK_STATUS : Fam := ⟨0x0001, 1, 0, 1, [CLK_STATUS_FAILCNT, CLK_STATUS_ONRC, CLK_STATUS_CLKFAIL, CLK_STATUS_REFOK, CLK_STATUS_LOCK]⟩

/-! SYS_ID: R33. -/
def SYS_ID_PART : Fld := ⟨0x1500, 0, 31, 16, .ro, fun _ => 0x3296⟩
def SYS_ID_DIEREV : Fld := ⟨0x1500, 0, 15, 8, .ro, fun _ => Config.dieRev.toNat⟩
def SYS_ID_GRADE : Fld := ⟨0x1500, 0, 3, 0, .ro, fun _ => Config.grade.toNat⟩
def fam_SYS_ID : Fam := ⟨0x1500, 1, 0, 1, [SYS_ID_PART, SYS_ID_DIEREV, SYS_ID_GRADE]⟩

/-! EXPERT_CTL: R35. -/
def EXPERT_CTL_XON : Fld := ⟨0x1510, 0, 16, 16, .ro, fun _ => 0⟩
def EXPERT_CTL_XKEY : Fld := ⟨0x1510, 0, 15, 0, .wo, fun _ => 0x0000⟩
def fam_EXPERT_CTL : Fam := ⟨0x1510, 1, 0, 1, [EXPERT_CTL_XON, EXPERT_CTL_XKEY]⟩

/-! SYS_MODE: R40. -/
def SYS_MODE_CAUSE : Fld := ⟨0x1501, 0, 23, 16, .ro, fun _ => 0x00⟩
def SYS_MODE_TRANS : Fld := ⟨0x1501, 0, 8, 8, .ro, fun _ => 0⟩
def SYS_MODE_PREV : Fld := ⟨0x1501, 0, 7, 4, .ro, fun _ => 0x0⟩
def SYS_MODE_MODE : Fld := ⟨0x1501, 0, 3, 0, .ro, fun _ => 0x1⟩
def fam_SYS_MODE : Fam := ⟨0x1501, 1, 0, 1, [SYS_MODE_CAUSE, SYS_MODE_TRANS, SYS_MODE_PREV, SYS_MODE_MODE]⟩

/-! SYS_BOOT: R49. -/
def SYS_BOOT_MINREASON : Fld := ⟨0x1502, 0, 23, 16, .ro, fun _ => 0x00⟩
def SYS_BOOT_RSTCAUSE : Fld := ⟨0x1502, 0, 15, 12, .ro, fun _ => 0x0⟩
def SYS_BOOT_STREAK : Fld := ⟨0x1502, 0, 9, 8, .ro, fun _ => 0b00⟩
def SYS_BOOT_TRIALFAIL : Fld := ⟨0x1502, 0, 3, 3, .w1c, fun _ => 0⟩
def SYS_BOOT_BANKB : Fld := ⟨0x1502, 0, 2, 2, .ro, fun _ => 0⟩
def SYS_BOOT_LOOPSTAT : Fld := ⟨0x1502, 0, 1, 0, .ro, fun _ => 0b00⟩
def fam_SYS_BOOT : Fam := ⟨0x1502, 1, 0, 1, [SYS_BOOT_MINREASON, SYS_BOOT_RSTCAUSE, SYS_BOOT_STREAK, SYS_BOOT_TRIALFAIL, SYS_BOOT_BANKB, SYS_BOOT_LOOPSTAT]⟩

/-! SYS_FAILLOG: R54. -/
def SYS_FAILLOG_REASON2 : Fld := ⟨0x1504, 0, 23, 16, .ro, fun _ => 0x00⟩
def SYS_FAILLOG_REASON1 : Fld := ⟨0x1504, 0, 15, 8, .ro, fun _ => 0x00⟩
def SYS_FAILLOG_REASON0 : Fld := ⟨0x1504, 0, 7, 0, .ro, fun _ => 0x00⟩
def fam_SYS_FAILLOG : Fam := ⟨0x1504, 1, 0, 1, [SYS_FAILLOG_REASON2, SYS_FAILLOG_REASON1, SYS_FAILLOG_REASON0]⟩

/-! SYS_STRAP: R58. -/
def SYS_STRAP_SAFEV : Fld := ⟨0x1505, 0, 10, 8, .ro, fun _ => 0⟩
def SYS_STRAP_ADDR1 : Fld := ⟨0x1505, 0, 6, 4, .ro, fun _ => 0⟩
def SYS_STRAP_ADDR0 : Fld := ⟨0x1505, 0, 2, 0, .ro, fun _ => 0⟩
def fam_SYS_STRAP : Fam := ⟨0x1505, 1, 0, 1, [SYS_STRAP_SAFEV, SYS_STRAP_ADDR1, SYS_STRAP_ADDR0]⟩

/-! SYS_IMAGE: R64. -/
def SYS_IMAGE_FLOOR : Fld := ⟨0x1503, 0, 31, 24, .ro, fun _ => 0x00⟩
def SYS_IMAGE_SUPIL : Fld := ⟨0x1503, 0, 23, 16, .ro, fun _ => 0x00⟩
def SYS_IMAGE_SUPVER : Fld := ⟨0x1503, 0, 15, 0, .ro, fun _ => 0x0000⟩
def SYS_IMAGE_EFFIL : Fld := ⟨0x1503, 1, 31, 24, .ro, fun _ => 0x00⟩
def SYS_IMAGE_LOOPIL : Fld := ⟨0x1503, 1, 23, 16, .ro, fun _ => 0x00⟩
def SYS_IMAGE_LOOPVER : Fld := ⟨0x1503, 1, 15, 0, .ro, fun _ => 0x0000⟩
def fam_SYS_IMAGE : Fam := ⟨0x1503, 1, 0, 2, [SYS_IMAGE_FLOOR, SYS_IMAGE_SUPIL, SYS_IMAGE_SUPVER, SYS_IMAGE_EFFIL, SYS_IMAGE_LOOPIL, SYS_IMAGE_LOOPVER]⟩

/-! SYS_RAILST: R70. -/
def SYS_RAILST_DOWN : Fld := ⟨0x1506, 0, 19, 16, .ro, fun _ => 0x0⟩
def SYS_RAILST_STATE_D : Fld := ⟨0x1506, 0, 15, 12, .ro, fun _ => 0x0⟩
def SYS_RAILST_STATE_C : Fld := ⟨0x1506, 0, 11, 8, .ro, fun _ => 0x0⟩
def SYS_RAILST_STATE_B : Fld := ⟨0x1506, 0, 7, 4, .ro, fun _ => 0x0⟩
def SYS_RAILST_STATE_A : Fld := ⟨0x1506, 0, 3, 0, .ro, fun _ => 0x0⟩
def fam_SYS_RAILST : Fam := ⟨0x1506, 1, 0, 1, [SYS_RAILST_DOWN, SYS_RAILST_STATE_D, SYS_RAILST_STATE_C, SYS_RAILST_STATE_B, SYS_RAILST_STATE_A]⟩

/-! CSA: R80. -/
def CSA_SGAIN : Fld := ⟨0x02C0, 0, 31, 16, .rws, fun _ => 0x0500⟩
def CSA_EN : Fld := ⟨0x02C0, 0, 15, 15, .rws, fun _ => 0⟩
def CSA_AVGN : Fld := ⟨0x02C0, 0, 14, 12, .rws, fun _ => 0b100⟩
def CSA_SLOPE : Fld := ⟨0x02C0, 0, 11, 11, .rws, fun _ => 0⟩
def CSA_SPM : Fld := ⟨0x02C0, 0, 10, 8, .rws, fun _ => 0b000⟩
def CSA_SDLY : Fld := ⟨0x02C0, 1, 13, 8, .rwl, fun _ => 0x00⟩
def CSA_OFFS : Fld := ⟨0x02C0, 1, 7, 0, .rwl, fun _ => 0x00⟩
def CSA_SEQ : Fld := ⟨0x02C0, 2, 31, 24, .ro, fun _ => 0x00⟩
def CSA_SAT : Fld := ⟨0x02C0, 2, 23, 23, .ro, fun _ => 0⟩
def CSA_NOPULSE : Fld := ⟨0x02C0, 2, 22, 22, .ro, fun _ => 0⟩
def CSA_TRIP : Fld := ⟨0x02C0, 2, 21, 21, .ro, fun _ => 0⟩
def CSA_CUR : Fld := ⟨0x02C0, 2, 15, 0, .ro, fun _ => 0x0000⟩
def CSA_RAW : Fld := ⟨0x02C0, 3, 27, 16, .ro, fun _ => 0x000⟩
def CSA_AVG : Fld := ⟨0x02C0, 3, 15, 0, .ro, fun _ => 0x0000⟩
def CSA_S2 : Fld := ⟨0x02C0, 4, 31, 16, .ro, fun _ => 0x0000⟩
def CSA_S1 : Fld := ⟨0x02C0, 4, 15, 0, .ro, fun _ => 0x0000⟩
def CSA_GAIN : Fld := ⟨0x02C0, 5, 31, 16, .ro, fun _ => 0x8000⟩
def CSA_OFS : Fld := ⟨0x02C0, 5, 11, 0, .ro, fun _ => 0x000⟩
def CSA_SATF : Fld := ⟨0x02C0, 6, 31, 31, .w1c, fun _ => 0⟩
def CSA_UNCAL : Fld := ⟨0x02C0, 6, 30, 30, .ro, fun _ => 1⟩
def CSA_CALFAIL : Fld := ⟨0x02C0, 6, 29, 29, .ro, fun _ => 0⟩
def CSA_CLRCNT : Fld := ⟨0x02C0, 6, 28, 28, .wo, fun _ => 0⟩
def CSA_SLOPESKIP : Fld := ⟨0x02C0, 6, 15, 8, .ro, fun _ => 0x00⟩
def CSA_MISSCNT : Fld := ⟨0x02C0, 6, 7, 0, .ro, fun _ => 0x00⟩
def fam_CSA : Fam := ⟨0x02C0, 34, 0x40, 7, [CSA_SGAIN, CSA_EN, CSA_AVGN, CSA_SLOPE, CSA_SPM, CSA_SDLY, CSA_OFFS, CSA_SEQ, CSA_SAT, CSA_NOPULSE, CSA_TRIP, CSA_CUR, CSA_RAW, CSA_AVG, CSA_S2, CSA_S1, CSA_GAIN, CSA_OFS, CSA_SATF, CSA_UNCAL, CSA_CALFAIL, CSA_CLRCNT, CSA_SLOPESKIP, CSA_MISSCNT]⟩

/-! VSC_CHECK: R89. -/
def VSC_CHECK_MISLIM : Fld := ⟨0x0304, 0, 23, 16, .rws, fun _ => 0x10⟩
def VSC_CHECK_WIN : Fld := ⟨0x0304, 0, 15, 8, .rws, fun _ => 0x18⟩
def VSC_CHECK_CHKSRC : Fld := ⟨0x0304, 0, 3, 0, .rws, fun _ => 0x0⟩
def fam_VSC_CHECK : Fam := ⟨0x0304, 1, 0, 1, [VSC_CHECK_MISLIM, VSC_CHECK_WIN, VSC_CHECK_CHKSRC]⟩

/-! VSC_STATUS: R89. -/
def VSC_STATUS_MIS : Fld := ⟨0x0305, 0, 31, 24, .ro, fun _ => 0x00⟩
def VSC_STATUS_BADA : Fld := ⟨0x0305, 0, 23, 16, .ro, fun _ => 0x00⟩
def VSC_STATUS_BADB : Fld := ⟨0x0305, 0, 15, 8, .ro, fun _ => 0x00⟩
def VSC_STATUS_JUDGE : Fld := ⟨0x0305, 0, 5, 5, .ro, fun _ => 0⟩
def VSC_STATUS_SOLO : Fld := ⟨0x0305, 0, 4, 4, .ro, fun _ => 0⟩
def VSC_STATUS_VBBAD : Fld := ⟨0x0305, 0, 3, 3, .ro, fun _ => 0⟩
def VSC_STATUS_VABAD : Fld := ⟨0x0305, 0, 2, 2, .ro, fun _ => 0⟩
def VSC_STATUS_UNRES : Fld := ⟨0x0305, 0, 1, 1, .w1c, fun _ => 0⟩
def VSC_STATUS_MISF : Fld := ⟨0x0305, 0, 0, 0, .w1c, fun _ => 0⟩
def fam_VSC_STATUS : Fam := ⟨0x0305, 1, 0, 1, [VSC_STATUS_MIS, VSC_STATUS_BADA, VSC_STATUS_BADB, VSC_STATUS_JUDGE, VSC_STATUS_SOLO, VSC_STATUS_VBBAD, VSC_STATUS_VABAD, VSC_STATUS_UNRES, VSC_STATUS_MISF]⟩

/-! VSC_RES: R91. -/
def VSC_RES_CONV : Fld := ⟨0x0310, 0, 27, 27, .ro, fun _ => 0⟩
def VSC_RES_SAT : Fld := ⟨0x0310, 0, 26, 26, .ro, fun _ => 0⟩
def VSC_RES_SEQ : Fld := ⟨0x0310, 0, 23, 16, .ro, fun _ => 0x00⟩
def VSC_RES_VAL : Fld := ⟨0x0310, 0, 15, 0, .ro, fun _ => 0x0000⟩
def fam_VSC_RES : Fam := ⟨0x0310, 7, 0, 1, [VSC_RES_CONV, VSC_RES_SAT, VSC_RES_SEQ, VSC_RES_VAL]⟩

/-! HKA: R94. -/
def HKA_WEIGHT : Fld := ⟨0x04C0, 0, 7, 6, .rws, fun i => if i ≤ 10 then 2 else if i ≤ 38 then 1 else 0⟩
def HKA_FILT : Fld := ⟨0x04C0, 0, 5, 4, .rws, fun _ => 0b00⟩
def HKA_TYPE : Fld := ⟨0x04C0, 0, 3, 0, .rws, fun _ => 0x0⟩
def HKA_SEQ : Fld := ⟨0x04C0, 1, 31, 24, .ro, fun _ => 0x00⟩
def HKA_VALID : Fld := ⟨0x04C0, 1, 16, 16, .ro, fun _ => 0⟩
def HKA_VAL : Fld := ⟨0x04C0, 1, 15, 0, .ro, fun _ => 0x0000⟩
def fam_HKA : Fam := ⟨0x04C0, 40, 0x10, 2, [HKA_WEIGHT, HKA_FILT, HKA_TYPE, HKA_SEQ, HKA_VALID, HKA_VAL]⟩

/-! CCT_CTL: R97. -/
def CCT_CTL_SNAP : Fld := ⟨0x0A00, 0, 1, 1, .wo, fun _ => 0⟩
def CCT_CTL_EN : Fld := ⟨0x0A00, 0, 0, 0, .rw, fun _ => 1⟩
def fam_CCT_CTL : Fam := ⟨0x0A00, 1, 0, 1, [CCT_CTL_SNAP, CCT_CTL_EN]⟩

/-! CCT_SNAP: R97. -/
def CCT_SNAP_ACC_LO : Fld := ⟨0x0A01, 0, 31, 0, .ro, fun _ => 0x00000000⟩
def CCT_SNAP_ACC_HI : Fld := ⟨0x0A01, 1, 15, 0, .ro, fun _ => 0x0000⟩
def CCT_SNAP_NSAMP : Fld := ⟨0x0A01, 2, 31, 0, .ro, fun _ => 0x00000000⟩
def CCT_SNAP_LAST : Fld := ⟨0x0A01, 3, 15, 0, .ro, fun _ => 0x0000⟩
def fam_CCT_SNAP : Fam := ⟨0x0A01, 1, 0, 4, [CCT_SNAP_ACC_LO, CCT_SNAP_ACC_HI, CCT_SNAP_NSAMP, CCT_SNAP_LAST]⟩

/-! CAL_STAT: R103. -/
def CAL_STAT_BANDS : Fld := ⟨0x0308, 0, 23, 16, .ro, fun _ => 0x00⟩
def CAL_STAT_BUSY : Fld := ⟨0x0308, 0, 11, 11, .ro, fun _ => 0⟩
def CAL_STAT_LASTBAND : Fld := ⟨0x0308, 0, 10, 8, .ro, fun _ => 0b000⟩
def CAL_STAT_CCTF : Fld := ⟨0x0308, 0, 6, 6, .ro, fun _ => 0⟩
def CAL_STAT_HKAF : Fld := ⟨0x0308, 0, 5, 5, .ro, fun _ => 0⟩
def CAL_STAT_CSAF : Fld := ⟨0x0308, 0, 4, 4, .ro, fun _ => 0⟩
def CAL_STAT_VBF : Fld := ⟨0x0308, 0, 3, 3, .ro, fun _ => 0⟩
def CAL_STAT_VAF : Fld := ⟨0x0308, 0, 2, 2, .ro, fun _ => 0⟩
def fam_CAL_STAT : Fam := ⟨0x0308, 1, 0, 1, [CAL_STAT_BANDS, CAL_STAT_BUSY, CAL_STAT_LASTBAND, CAL_STAT_CCTF, CAL_STAT_HKAF, CAL_STAT_CSAF, CAL_STAT_VBF, CAL_STAT_VAF]⟩

/-! PWM_DT: R109. -/
def PWM_DT_DTF : Fld := ⟨0x0110, 0, 25, 16, .rws, fun i => if i < 8 then 0x000 else 0x100⟩
def PWM_DT_DTR : Fld := ⟨0x0110, 0, 9, 0, .rws, fun i => if i < 8 then 0x000 else 0x100⟩
def PWM_DT_MINOFF : Fld := ⟨0x0110, 1, 23, 16, .rws, fun i => if i < 8 then 0x50 else 0x28⟩
def PWM_DT_MINP : Fld := ⟨0x0110, 1, 7, 0, .rws, fun i => if i < 8 then 0x18 else 0x28⟩
def fam_PWM_DT : Fam := ⟨0x0110, 16, 0, 2, [PWM_DT_DTF, PWM_DT_DTR, PWM_DT_MINOFF, PWM_DT_MINP]⟩

/-! PWM_REF: R126. -/
def PWM_REF_SYNCOEN : Fld := ⟨0x0100, 0, 31, 31, .rws, fun _ => 0⟩
def PWM_REF_SYNCIM : Fld := ⟨0x0100, 0, 29, 28, .rws, fun _ => 0b00⟩
def PWM_REF_PRD : Fld := ⟨0x0100, 0, 27, 16, .rws, fun _ => 0x190⟩
def PWM_REF_SYNCPH : Fld := ⟨0x0100, 0, 15, 8, .rws, fun _ => 0x00⟩
def PWM_REF_SYNCOFS : Fld := ⟨0x0100, 0, 7, 0, .rws, fun _ => 0x00⟩
def fam_PWM_REF : Fam := ⟨0x0100, 1, 0, 1, [PWM_REF_SYNCOEN, PWM_REF_SYNCIM, PWM_REF_PRD, PWM_REF_SYNCPH, PWM_REF_SYNCOFS]⟩

/-! PWM_SYNCST: R127. -/
def PWM_SYNCST_MEAS : Fld := ⟨0x0101, 0, 31, 16, .ro, fun _ => 0x0000⟩
def PWM_SYNCST_SLEWING : Fld := ⟨0x0101, 0, 3, 3, .ro, fun _ => 0⟩
def PWM_SYNCST_LOSTF : Fld := ⟨0x0101, 0, 2, 2, .w1c, fun _ => 0⟩
def PWM_SYNCST_RANGEF : Fld := ⟨0x0101, 0, 1, 1, .w1c, fun _ => 0⟩
def PWM_SYNCST_LOCK : Fld := ⟨0x0101, 0, 0, 0, .ro, fun _ => 0⟩
def fam_PWM_SYNCST : Fam := ⟨0x0101, 1, 0, 1, [PWM_SYNCST_MEAS, PWM_SYNCST_SLEWING, PWM_SYNCST_LOSTF, PWM_SYNCST_RANGEF, PWM_SYNCST_LOCK]⟩

/-! PWM: R128. -/
def PWM_CEN : Fld := ⟨0x01C0, 0, 31, 31, .rws, fun _ => 0⟩
def PWM_OUTM : Fld := ⟨0x01C0, 0, 30, 29, .rws, fun i => if i < 32 then 0 else 1⟩
def PWM_OST : Fld := ⟨0x01C0, 0, 28, 27, .ro, fun _ => 0b00⟩
def PWM_SYNCSEL : Fld := ⟨0x01C0, 0, 26, 25, .rws, fun _ => 0b00⟩
def PWM_RLDM : Fld := ⟨0x01C0, 0, 24, 24, .rws, fun _ => 0⟩
def PWM_PFP : Fld := ⟨0x01C0, 0, 23, 22, .rws, fun _ => 0b00⟩
def PWM_DITH : Fld := ⟨0x01C0, 0, 21, 21, .rwl, fun _ => 1⟩
def PWM_DOFS : Fld := ⟨0x01C0, 0, 20, 17, .rwl, fun _ => 0x0⟩
def PWM_TRIPSEL : Fld := ⟨0x01C0, 0, 16, 15, .rws, fun _ => 0b10⟩
def PWM_FLTTRIP : Fld := ⟨0x01C0, 0, 14, 14, .rws, fun _ => 1⟩
def PWM_SWAP : Fld := ⟨0x01C0, 0, 13, 13, .rws, fun _ => 0⟩
def PWM_PRD : Fld := ⟨0x01C0, 0, 11, 0, .rws, fun _ => 0x190⟩
def PWM_PHSV : Fld := ⟨0x01C0, 1, 28, 16, .rws, fun _ => 0x0000⟩
def PWM_BLANK : Fld := ⟨0x01C0, 1, 15, 8, .rwl, fun _ => 0x18⟩
def PWM_WSH : Fld := ⟨0x01C0, 2, 20, 0, .ro, fun _ => 0x00000⟩
def PWM_WACT : Fld := ⟨0x01C0, 3, 20, 0, .ro, fun _ => 0x00000⟩
def PWM_TRIPF : Fld := ⟨0x01C0, 4, 31, 31, .w1c, fun _ => 0⟩
def PWM_FLTF : Fld := ⟨0x01C0, 4, 30, 30, .w1c, fun _ => 0⟩
def PWM_FLTLIVE : Fld := ⟨0x01C0, 4, 29, 29, .ro, fun _ => 0⟩
def PWM_PINLOST : Fld := ⟨0x01C0, 4, 28, 28, .ro, fun _ => 0⟩
def PWM_FDSTALE : Fld := ⟨0x01C0, 4, 27, 27, .ro, fun _ => 0⟩
def PWM_SLEWING : Fld := ⟨0x01C0, 4, 26, 26, .ro, fun _ => 0⟩
def PWM_DTBAND : Fld := ⟨0x01C0, 4, 25, 23, .ro, fun _ => 0b000⟩
def PWM_ACC : Fld := ⟨0x01C0, 4, 20, 0, .ro, fun _ => 0x00000⟩
def PWM_TRIPCNT : Fld := ⟨0x01C0, 5, 31, 24, .ro, fun _ => 0x00⟩
def PWM_DROPCNT : Fld := ⟨0x01C0, 5, 23, 16, .ro, fun _ => 0x00⟩
def PWM_STRCNT : Fld := ⟨0x01C0, 5, 15, 8, .ro, fun _ => 0x00⟩
def PWM_CLAMPCNT : Fld := ⟨0x01C0, 5, 7, 0, .ro, fun _ => 0x00⟩
def PWM_CLRCNT : Fld := ⟨0x01C0, 6, 31, 31, .wo, fun _ => 0⟩
def fam_PWM : Fam := ⟨0x01C0, 34, 0x40, 7, [PWM_CEN, PWM_OUTM, PWM_OST, PWM_SYNCSEL, PWM_RLDM, PWM_PFP, PWM_DITH, PWM_DOFS, PWM_TRIPSEL, PWM_FLTTRIP, PWM_SWAP, PWM_PRD, PWM_PHSV, PWM_BLANK, PWM_WSH, PWM_WACT, PWM_TRIPF, PWM_FLTF, PWM_FLTLIVE, PWM_PINLOST, PWM_FDSTALE, PWM_SLEWING, PWM_DTBAND, PWM_ACC, PWM_TRIPCNT, PWM_DROPCNT, PWM_STRCNT, PWM_CLAMPCNT, PWM_CLRCNT]⟩

/-! LE_CTL: R156. -/
def LE_CTL_SWAP : Fld := ⟨0x0600, 0, 7, 7, .wo, fun _ => 0⟩
def LE_CTL_SWPEND : Fld := ⟨0x0600, 0, 6, 6, .ro, fun _ => 0⟩
def LE_CTL_HALT : Fld := ⟨0x0600, 0, 4, 4, .rw, fun _ => 0⟩
def LE_CTL_HALTED : Fld := ⟨0x0600, 0, 3, 3, .ro, fun _ => 0⟩
def LE_CTL_OVRFLT : Fld := ⟨0x0600, 0, 2, 2, .ro, fun _ => 0⟩
def fam_LE_CTL : Fam := ⟨0x0600, 1, 0, 1, [LE_CTL_SWAP, LE_CTL_SWPEND, LE_CTL_HALT, LE_CTL_HALTED, LE_CTL_OVRFLT]⟩

/-! LE_BASE: R157. -/
def LE_BASE_BLEN : Fld := ⟨0x0601, 0, 27, 16, .ro, fun _ => 0x000⟩
def LE_BASE_BENTRY : Fld := ⟨0x0601, 0, 11, 0, .ro, fun _ => 0x000⟩
def LE_BASE_HLEN : Fld := ⟨0x0601, 1, 27, 16, .ro, fun _ => 0x000⟩
def LE_BASE_HENTRY : Fld := ⟨0x0601, 1, 11, 0, .ro, fun _ => 0x000⟩
def fam_LE_BASE : Fam := ⟨0x0601, 1, 0, 2, [LE_BASE_BLEN, LE_BASE_BENTRY, LE_BASE_HLEN, LE_BASE_HENTRY]⟩

/-! LE: R158, R171. -/
def LE_LAW : Fld := ⟨0x06C0, 0, 31, 30, .rws, fun _ => 0b00⟩
def LE_VSRC : Fld := ⟨0x06C0, 0, 29, 29, .rws, fun _ => 0⟩
def LE_PREBIAS : Fld := ⟨0x06C0, 0, 28, 28, .rws, fun _ => 1⟩
def LE_LEN : Fld := ⟨0x06C0, 0, 23, 12, .rws, fun _ => 0x000⟩
def LE_ENTRY : Fld := ⟨0x06C0, 0, 11, 0, .rws, fun _ => 0x000⟩
def LE_BUDGET : Fld := ⟨0x06C0, 1, 31, 24, .rws, fun _ => 0x20⟩
def LE_SSSLEW : Fld := ⟨0x06C0, 1, 19, 10, .rws, fun _ => 0x00A⟩
def LE_RDSLEW : Fld := ⟨0x06C0, 1, 9, 0, .rws, fun _ => 0x00A⟩
def LE_SLEW : Fld := ⟨0x06C0, 2, 25, 16, .rws, fun _ => 0x064⟩
def LE_VTGT : Fld := ⟨0x06C0, 2, 11, 0, .rws, fun _ => 0x000⟩
def LE_VMAX : Fld := ⟨0x06C0, 3, 27, 16, .rws, fun _ => 0xC80⟩
def LE_VMIN : Fld := ⟨0x06C0, 3, 11, 0, .rws, fun _ => 0x000⟩
def LE_PGHI : Fld := ⟨0x06C0, 4, 31, 24, .rws, fun _ => 0x32⟩
def LE_PGLO : Fld := ⟨0x06C0, 4, 23, 16, .rws, fun _ => 0x32⟩
def LE_PGDLY : Fld := ⟨0x06C0, 4, 15, 8, .rws, fun _ => 0x08⟩
def LE_ENDLY : Fld := ⟨0x06C0, 4, 7, 0, .rws, fun _ => 0x32⟩
def LE_PRETIME : Fld := ⟨0x06C0, 5, 31, 24, .rws, fun _ => 0x00⟩
def LE_VPMAX : Fld := ⟨0x06C0, 5, 23, 16, .rws, fun _ => 0x00⟩
def LE_RDYN : Fld := ⟨0x06C0, 5, 10, 0, .rws, fun _ => 0x000⟩
def LE_PG : Fld := ⟨0x06C0, 6, 31, 31, .ro, fun _ => 0⟩
def LE_SLEWING : Fld := ⟨0x06C0, 6, 30, 30, .ro, fun _ => 0⟩
def LE_ATTGT : Fld := ⟨0x06C0, 6, 29, 29, .ro, fun _ => 0⟩
def LE_CLAMPF : Fld := ⟨0x06C0, 6, 28, 28, .w1c, fun _ => 0⟩
def LE_DUPF : Fld := ⟨0x06C0, 6, 27, 27, .w1c, fun _ => 0⟩
def LE_WINERR : Fld := ⟨0x06C0, 6, 26, 26, .w1c, fun _ => 0⟩
def LE_BUDF : Fld := ⟨0x06C0, 6, 25, 25, .w1c, fun _ => 0⟩
def LE_SATF : Fld := ⟨0x06C0, 6, 24, 24, .w1c, fun _ => 0⟩
def LE_VREFNOW : Fld := ⟨0x06C0, 6, 15, 0, .ro, fun _ => 0x0000⟩
def LE_DOUT : Fld := ⟨0x06C0, 7, 23, 0, .ro, fun _ => 0x000000⟩
def LE_OVRCNT : Fld := ⟨0x06C0, 8, 31, 24, .ro, fun _ => 0x00⟩
def LE_BUDCNT : Fld := ⟨0x06C0, 8, 23, 16, .ro, fun _ => 0x00⟩
def LE_CMDREJ : Fld := ⟨0x06C0, 8, 15, 8, .ro, fun _ => 0x00⟩
def LE_STEPCNT : Fld := ⟨0x06C0, 8, 7, 0, .ro, fun _ => 0x00⟩
def LE_CLRCNT : Fld := ⟨0x06C0, 9, 31, 31, .wo, fun _ => 0⟩
def LE_TGTNOW : Fld := ⟨0x06C0, 9, 11, 0, .ro, fun _ => 0x000⟩
def LE_ENV : Fld := ⟨0x06C0, 10, 31, 31, .rws, fun _ => 0⟩
def LE_AUTO : Fld := ⟨0x06C0, 10, 30, 30, .rws, fun _ => 0⟩
def LE_FCT : Fld := ⟨0x06C0, 10, 25, 16, .rws, fun _ => 0x0C8⟩
def LE_PMMIN : Fld := ⟨0x06C0, 10, 15, 8, .rws, fun _ => 0x2D⟩
def LE_GSTEP : Fld := ⟨0x06C0, 10, 7, 0, .rws, fun _ => 0x19⟩
def LE_GHI : Fld := ⟨0x06C0, 11, 31, 16, .rws, fun _ => 0x2000⟩
def LE_GLO : Fld := ⟨0x06C0, 11, 15, 0, .rws, fun _ => 0x0800⟩
def LE_BASEKP : Fld := ⟨0x06C0, 12, 31, 0, .ro, fun _ => 0x00000000⟩
def LE_TOTG : Fld := ⟨0x06C0, 13, 31, 16, .ro, fun _ => 0x0000⟩
def fam_LE : Fam := ⟨0x06C0, 5, 0x40, 14, [LE_LAW, LE_VSRC, LE_PREBIAS, LE_LEN, LE_ENTRY, LE_BUDGET, LE_SSSLEW, LE_RDSLEW, LE_SLEW, LE_VTGT, LE_VMAX, LE_VMIN, LE_PGHI, LE_PGLO, LE_PGDLY, LE_ENDLY, LE_PRETIME, LE_VPMAX, LE_RDYN, LE_PG, LE_SLEWING, LE_ATTGT, LE_CLAMPF, LE_DUPF, LE_WINERR, LE_BUDF, LE_SATF, LE_VREFNOW, LE_DOUT, LE_OVRCNT, LE_BUDCNT, LE_CMDREJ, LE_STEPCNT, LE_CLRCNT, LE_TGTNOW, LE_ENV, LE_AUTO, LE_FCT, LE_PMMIN, LE_GSTEP, LE_GHI, LE_GLO, LE_BASEKP, LE_TOTG]⟩

/-! IDENT_CFG: R175. -/
def IDENT_CFG_RAIL : Fld := ⟨0x0620, 0, 31, 30, .ro, fun _ => 0b00⟩
def IDENT_CFG_COHMIN : Fld := ⟨0x0620, 0, 23, 16, .ro, fun _ => 0x80⟩
def IDENT_CFG_NAVG : Fld := ⟨0x0620, 0, 15, 8, .ro, fun _ => 0x10⟩
def IDENT_CFG_AMP : Fld := ⟨0x0620, 0, 3, 0, .ro, fun _ => 0x4⟩
def fam_IDENT_CFG : Fam := ⟨0x0620, 1, 0, 1, [IDENT_CFG_RAIL, IDENT_CFG_COHMIN, IDENT_CFG_NAVG, IDENT_CFG_AMP]⟩

/-! IDENT_STAT: R176. -/
def IDENT_STAT_RUN : Fld := ⟨0x0621, 0, 31, 31, .ro, fun _ => 0⟩
def IDENT_STAT_DONE : Fld := ⟨0x0621, 0, 30, 30, .w1c, fun _ => 0⟩
def IDENT_STAT_ABRT : Fld := ⟨0x0621, 0, 29, 29, .w1c, fun _ => 0⟩
def IDENT_STAT_REASON : Fld := ⟨0x0621, 0, 28, 26, .ro, fun _ => 0b000⟩
def IDENT_STAT_PROPV : Fld := ⟨0x0621, 0, 25, 25, .ro, fun _ => 0⟩
def IDENT_STAT_OOE : Fld := ⟨0x0621, 0, 24, 24, .ro, fun _ => 0⟩
def IDENT_STAT_APPLIED : Fld := ⟨0x0621, 0, 23, 23, .w1c, fun _ => 0⟩
def IDENT_STAT_DEFER : Fld := ⟨0x0621, 0, 22, 22, .ro, fun _ => 0⟩
def IDENT_STAT_NOXOVER : Fld := ⟨0x0621, 0, 21, 21, .ro, fun _ => 0⟩
def IDENT_STAT_MULTIX : Fld := ⟨0x0621, 0, 20, 20, .ro, fun _ => 0⟩
def IDENT_STAT_LOWREC : Fld := ⟨0x0621, 0, 19, 19, .ro, fun _ => 0⟩
def IDENT_STAT_GOODL : Fld := ⟨0x0621, 0, 15, 8, .ro, fun _ => 0x00⟩
def IDENT_STAT_DISC : Fld := ⟨0x0621, 0, 7, 0, .ro, fun _ => 0x00⟩
def IDENT_STAT_GOODH : Fld := ⟨0x0621, 1, 31, 16, .ro, fun _ => 0x0000⟩
def IDENT_STAT_DROPREC : Fld := ⟨0x0621, 1, 15, 8, .ro, fun _ => 0x00⟩
def fam_IDENT_STAT : Fam := ⟨0x0621, 1, 0, 2, [IDENT_STAT_RUN, IDENT_STAT_DONE, IDENT_STAT_ABRT, IDENT_STAT_REASON, IDENT_STAT_PROPV, IDENT_STAT_OOE, IDENT_STAT_APPLIED, IDENT_STAT_DEFER, IDENT_STAT_NOXOVER, IDENT_STAT_MULTIX, IDENT_STAT_LOWREC, IDENT_STAT_GOODL, IDENT_STAT_DISC, IDENT_STAT_GOODH, IDENT_STAT_DROPREC]⟩

/-! PHM_CTL: R205. -/
def PHM_CTL_CBEN : Fld := ⟨0x0700, 0, 31, 31, .rws, fun _ => 1⟩
def PHM_CTL_CBWIN : Fld := ⟨0x0700, 0, 23, 16, .rws, fun _ => 0x08⟩
def PHM_CTL_CBLOSS : Fld := ⟨0x0700, 0, 15, 8, .rws, fun _ => 0x05⟩
def PHM_CTL_CBN : Fld := ⟨0x0700, 0, 7, 4, .rws, fun _ => 0x4⟩
def PHM_CTL_CBF : Fld := ⟨0x0700, 0, 3, 3, .ro, fun _ => 0⟩
def PHM_CTL_CBFL : Fld := ⟨0x0700, 0, 2, 2, .w1c, fun _ => 0⟩
def fam_PHM_CTL : Fam := ⟨0x0700, 1, 0, 1, [PHM_CTL_CBEN, PHM_CTL_CBWIN, PHM_CTL_CBLOSS, PHM_CTL_CBN, PHM_CTL_CBF, PHM_CTL_CBFL]⟩

/-! PHM_TAB: R206. -/
def PHM_TAB_STALE : Fld := ⟨0x0701, 0, 31, 31, .ro, fun _ => 0⟩
def PHM_TAB_SAVEPEND : Fld := ⟨0x0701, 0, 30, 30, .ro, fun _ => 0⟩
def PHM_TAB_HITPCT : Fld := ⟨0x0701, 0, 23, 16, .ro, fun _ => 0x00⟩
def PHM_TAB_NVALID : Fld := ⟨0x0701, 0, 15, 0, .ro, fun _ => 0x0000⟩
def fam_PHM_TAB : Fam := ⟨0x0701, 1, 0, 1, [PHM_TAB_STALE, PHM_TAB_SAVEPEND, PHM_TAB_HITPCT, PHM_TAB_NVALID]⟩

/-! PHM_CHAR: R206. -/
def PHM_CHAR_RUN : Fld := ⟨0x0703, 0, 31, 31, .ro, fun _ => 0⟩
def PHM_CHAR_DONE : Fld := ⟨0x0703, 0, 30, 30, .w1c, fun _ => 0⟩
def PHM_CHAR_ABRT : Fld := ⟨0x0703, 0, 29, 29, .w1c, fun _ => 0⟩
def PHM_CHAR_REASON : Fld := ⟨0x0703, 0, 28, 26, .ro, fun _ => 0b000⟩
def PHM_CHAR_RAIL : Fld := ⟨0x0703, 0, 25, 24, .ro, fun _ => 0b00⟩
def PHM_CHAR_BANDS : Fld := ⟨0x0703, 0, 23, 16, .ro, fun _ => 0x00⟩
def PHM_CHAR_POINTS : Fld := ⟨0x0703, 0, 15, 0, .ro, fun _ => 0x0000⟩
def fam_PHM_CHAR : Fam := ⟨0x0703, 1, 0, 1, [PHM_CHAR_RUN, PHM_CHAR_DONE, PHM_CHAR_ABRT, PHM_CHAR_REASON, PHM_CHAR_RAIL, PHM_CHAR_BANDS, PHM_CHAR_POINTS]⟩

/-! PHM_LEDG: R207. -/
def PHM_LEDG_FAILED : Fld := ⟨0x0710, 0, 29, 24, .ro, fun _ => 0x00⟩
def PHM_LEDG_USTUDY : Fld := ⟨0x0710, 0, 21, 16, .ro, fun _ => 0x00⟩
def PHM_LEDG_PARKED : Fld := ⟨0x0710, 0, 13, 8, .ro, fun _ => 0x00⟩
def PHM_LEDG_ACTIVE : Fld := ⟨0x0710, 0, 5, 0, .ro, fun _ => 0x00⟩
def PHM_LEDG_ASSIGNED : Fld := ⟨0x0710, 1, 25, 20, .ro, fun _ => 0x00⟩
def PHM_LEDG_SHEDDING : Fld := ⟨0x0710, 1, 19, 19, .ro, fun _ => 0⟩
def PHM_LEDG_REVERSED : Fld := ⟨0x0710, 1, 18, 18, .w1c, fun _ => 0⟩
def PHM_LEDG_DERATE : Fld := ⟨0x0710, 1, 17, 17, .ro, fun _ => 0⟩
def PHM_LEDG_HOLDING : Fld := ⟨0x0710, 1, 16, 16, .ro, fun _ => 0⟩
def PHM_LEDG_RAILSUS : Fld := ⟨0x0710, 1, 15, 8, .ro, fun _ => 0x00⟩
def PHM_LEDG_REVCNT : Fld := ⟨0x0710, 1, 7, 0, .ro, fun _ => 0x00⟩
def fam_PHM_LEDG : Fam := ⟨0x0710, 4, 0, 2, [PHM_LEDG_FAILED, PHM_LEDG_USTUDY, PHM_LEDG_PARKED, PHM_LEDG_ACTIVE, PHM_LEDG_ASSIGNED, PHM_LEDG_SHEDDING, PHM_LEDG_REVERSED, PHM_LEDG_DERATE, PHM_LEDG_HOLDING, PHM_LEDG_RAILSUS, PHM_LEDG_REVCNT]⟩

/-! PHM_SHED: R208. -/
def PHM_SHED_SHEN : Fld := ⟨0x0714, 0, 31, 31, .rws, fun _ => 0⟩
def PHM_SHED_BURST : Fld := ⟨0x0714, 0, 30, 30, .rws, fun _ => 1⟩
def PHM_SHED_NMIN : Fld := ⟨0x0714, 0, 29, 24, .rws, fun _ => 0x01⟩
def PHM_SHED_NINT : Fld := ⟨0x0714, 0, 21, 16, .rws, fun _ => 0x01⟩
def PHM_SHED_SHRAMP : Fld := ⟨0x0714, 0, 15, 8, .rws, fun _ => 0x04⟩
def PHM_SHED_DWELL : Fld := ⟨0x0714, 0, 7, 0, .rws, fun _ => 0x14⟩
def PHM_SHED_IADD : Fld := ⟨0x0714, 1, 31, 16, .rws, fun _ => 0x0380⟩
def PHM_SHED_ISHED : Fld := ⟨0x0714, 1, 15, 0, .rws, fun _ => 0x0280⟩
def PHM_SHED_HOLD : Fld := ⟨0x0714, 2, 31, 24, .rws, fun _ => 0x0A⟩
def PHM_SHED_SHREQEN : Fld := ⟨0x0714, 2, 23, 23, .rws, fun _ => 0⟩
def fam_PHM_SHED : Fam := ⟨0x0714, 4, 0, 3, [PHM_SHED_SHEN, PHM_SHED_BURST, PHM_SHED_NMIN, PHM_SHED_NINT, PHM_SHED_SHRAMP, PHM_SHED_DWELL, PHM_SHED_IADD, PHM_SHED_ISHED, PHM_SHED_HOLD, PHM_SHED_SHREQEN]⟩

/-! PHM_BAL: R209. -/
def PHM_BAL_KBAL : Fld := ⟨0x0718, 0, 31, 24, .rws, fun _ => 0x20⟩
def PHM_BAL_TRIMMAX : Fld := ⟨0x0718, 0, 23, 16, .rws, fun _ => 0x80⟩
def PHM_BAL_RESFRAC : Fld := ⟨0x0718, 0, 15, 8, .rws, fun _ => 0x80⟩
def PHM_BAL_IDETMIN : Fld := ⟨0x0718, 0, 7, 0, .rws, fun _ => 0x28⟩
def PHM_BAL_NDET : Fld := ⟨0x0718, 1, 25, 24, .rws, fun _ => 0b10⟩
def PHM_BAL_LEARN : Fld := ⟨0x0718, 1, 23, 23, .rws, fun _ => 1⟩
def PHM_BAL_ROFS : Fld := ⟨0x0718, 1, 15, 8, .rws, fun _ => 0x00⟩
def PHM_BAL_RESOK : Fld := ⟨0x0718, 1, 7, 0, .rws, fun _ => 0x08⟩
def fam_PHM_BAL : Fam := ⟨0x0718, 4, 0, 2, [PHM_BAL_KBAL, PHM_BAL_TRIMMAX, PHM_BAL_RESFRAC, PHM_BAL_IDETMIN, PHM_BAL_NDET, PHM_BAL_LEARN, PHM_BAL_ROFS, PHM_BAL_RESOK]⟩

/-! PHM: R210. -/
def PHM_ROLE : Fld := ⟨0x07C0, 0, 31, 29, .ro, fun i => if i < 32 then 0 else 6⟩
def PHM_DEPART : Fld := ⟨0x07C0, 0, 28, 28, .ro, fun _ => 0⟩
def PHM_RAIL : Fld := ⟨0x07C0, 0, 27, 26, .rws, fun _ => 0b00⟩
def PHM_ASSIGN : Fld := ⟨0x07C0, 0, 25, 25, .rws, fun _ => 0⟩
def PHM_USTUDY : Fld := ⟨0x07C0, 0, 24, 24, .rws, fun _ => 0⟩
def PHM_SLOT : Fld := ⟨0x07C0, 0, 21, 16, .ro, fun _ => 0x00⟩
def PHM_IBINMAX : Fld := ⟨0x07C0, 0, 15, 8, .rws, fun i => if i < 32 then 0x50 else 0x00⟩
def PHM_TTAB : Fld := ⟨0x07C0, 1, 31, 16, .ro, fun _ => 0x0000⟩
def PHM_TINT : Fld := ⟨0x07C0, 1, 15, 0, .ro, fun _ => 0x0000⟩
def PHM_RESID : Fld := ⟨0x07C0, 2, 31, 16, .ro, fun _ => 0x0000⟩
def PHM_BIN : Fld := ⟨0x07C0, 2, 12, 8, .ro, fun _ => 0x00⟩
def PHM_FAILF : Fld := ⟨0x07C0, 3, 31, 31, .w1c, fun _ => 0⟩
def PHM_FCAUSE : Fld := ⟨0x07C0, 3, 30, 28, .ro, fun _ => 0b000⟩
def PHM_SENSEQ : Fld := ⟨0x07C0, 3, 27, 27, .ro, fun _ => 0⟩
def PHM_DETCNT : Fld := ⟨0x07C0, 3, 15, 8, .ro, fun _ => 0x00⟩
def PHM_ALMCNT : Fld := ⟨0x07C0, 3, 7, 0, .ro, fun _ => 0x00⟩
def PHM_CLRCNT : Fld := ⟨0x07C0, 4, 31, 31, .wo, fun _ => 0⟩
def fam_PHM : Fam := ⟨0x07C0, 34, 0x40, 5, [PHM_ROLE, PHM_DEPART, PHM_RAIL, PHM_ASSIGN, PHM_USTUDY, PHM_SLOT, PHM_IBINMAX, PHM_TTAB, PHM_TINT, PHM_RESID, PHM_BIN, PHM_FAILF, PHM_FCAUSE, PHM_SENSEQ, PHM_DETCNT, PHM_ALMCNT, PHM_CLRCNT]⟩

/-! CUE_CTL: R239. -/
def CUE_CTL_CUEEN : Fld := ⟨0x0800, 0, 31, 31, .rws, fun _ => 0⟩
def CUE_CTL_INTREQ : Fld := ⟨0x0800, 0, 30, 30, .rws, fun _ => 0⟩
def CUE_CTL_CUEVMAX : Fld := ⟨0x0800, 0, 29, 28, .rws, fun _ => 0b11⟩
def CUE_CTL_CUEVMIN : Fld := ⟨0x0800, 0, 27, 26, .rws, fun _ => 0b01⟩
def CUE_CTL_TELPER : Fld := ⟨0x0800, 0, 23, 16, .rws, fun _ => 0x0A⟩
def CUE_CTL_STATPER : Fld := ⟨0x0800, 0, 15, 8, .rws, fun _ => 0x0A⟩
def CUE_CTL_THRREP : Fld := ⟨0x0800, 0, 7, 0, .rws, fun _ => 0x0A⟩
def fam_CUE_CTL : Fam := ⟨0x0800, 1, 0, 1, [CUE_CTL_CUEEN, CUE_CTL_INTREQ, CUE_CTL_CUEVMAX, CUE_CTL_CUEVMIN, CUE_CTL_TELPER, CUE_CTL_STATPER, CUE_CTL_THRREP]⟩

/-! CUE_LINK: R240. -/
def CUE_LINK_STATE : Fld := ⟨0x0801, 0, 28, 26, .ro, fun _ => 0b000⟩
def CUE_LINK_AV : Fld := ⟨0x0801, 0, 25, 24, .ro, fun _ => 0b00⟩
def CUE_LINK_LDMAX : Fld := ⟨0x0801, 0, 23, 20, .ro, fun _ => 0x0⟩
def CUE_LINK_LDMIN : Fld := ⟨0x0801, 0, 19, 16, .ro, fun _ => 0x0⟩
def CUE_LINK_LRAILS : Fld := ⟨0x0801, 0, 15, 12, .ro, fun _ => 0x0⟩
def CUE_LINK_NOVERF : Fld := ⟨0x0801, 0, 11, 11, .w1c, fun _ => 0⟩
def CUE_LINK_LOSSF : Fld := ⟨0x0801, 0, 10, 10, .w1c, fun _ => 0⟩
def CUE_LINK_THRNV : Fld := ⟨0x0801, 0, 9, 9, .w1c, fun _ => 0⟩
def CUE_LINK_RETRAIN : Fld := ⟨0x0801, 0, 7, 0, .ro, fun _ => 0x00⟩
def fam_CUE_LINK : Fam := ⟨0x0801, 1, 0, 1, [CUE_LINK_STATE, CUE_LINK_AV, CUE_LINK_LDMAX, CUE_LINK_LDMIN, CUE_LINK_LRAILS, CUE_LINK_NOVERF, CUE_LINK_LOSSF, CUE_LINK_THRNV, CUE_LINK_RETRAIN]⟩

/-! CUE_ERR: R241. -/
def CUE_ERR_CVERR : Fld := ⟨0x0802, 0, 31, 24, .ro, fun _ => 0x00⟩
def CUE_ERR_FRMERR : Fld := ⟨0x0802, 0, 23, 16, .ro, fun _ => 0x00⟩
def CUE_ERR_CRCERR : Fld := ⟨0x0802, 0, 15, 8, .ro, fun _ => 0x00⟩
def CUE_ERR_SEQERR : Fld := ⟨0x0802, 0, 7, 0, .ro, fun _ => 0x00⟩
def CUE_ERR_CLRCNT : Fld := ⟨0x0802, 1, 31, 31, .wo, fun _ => 0⟩
def CUE_ERR_STREJ : Fld := ⟨0x0802, 1, 23, 16, .ro, fun _ => 0x00⟩
def CUE_ERR_TYPEERR : Fld := ⟨0x0802, 1, 15, 8, .ro, fun _ => 0x00⟩
def CUE_ERR_FMTERR : Fld := ⟨0x0802, 1, 7, 0, .ro, fun _ => 0x00⟩
def fam_CUE_ERR : Fam := ⟨0x0802, 1, 0, 2, [CUE_ERR_CVERR, CUE_ERR_FRMERR, CUE_ERR_CRCERR, CUE_ERR_SEQERR, CUE_ERR_CLRCNT, CUE_ERR_STREJ, CUE_ERR_TYPEERR, CUE_ERR_FMTERR]⟩

/-! CUE_FWIN: R242. -/
def CUE_FWIN_WINMIN : Fld := ⟨0x0803, 0, 31, 24, .rws, fun _ => 0x14⟩
def CUE_FWIN_WINFRAC : Fld := ⟨0x0803, 0, 23, 16, .rws, fun _ => 0x80⟩
def CUE_FWIN_ARRF : Fld := ⟨0x0803, 0, 15, 8, .rws, fun _ => 0x80⟩
def CUE_FWIN_HITSH : Fld := ⟨0x0803, 0, 7, 4, .rws, fun _ => 0x3⟩
def CUE_FWIN_MISSH : Fld := ⟨0x0803, 0, 3, 0, .rws, fun _ => 0x2⟩
def fam_CUE_FWIN : Fam := ⟨0x0803, 1, 0, 1, [CUE_FWIN_WINMIN, CUE_FWIN_WINFRAC, CUE_FWIN_ARRF, CUE_FWIN_HITSH, CUE_FWIN_MISSH]⟩

/-! CUE_THR: R243. -/
def CUE_THR_CAP_B : Fld := ⟨0x0804, 0, 31, 16, .rws, fun _ => 0xFFFF⟩
def CUE_THR_CAP_A : Fld := ⟨0x0804, 0, 15, 0, .rws, fun _ => 0xFFFF⟩
def CUE_THR_CAP_D : Fld := ⟨0x0804, 1, 31, 16, .rws, fun _ => 0xFFFF⟩
def CUE_THR_CAP_C : Fld := ⟨0x0804, 1, 15, 0, .rws, fun _ => 0xFFFF⟩
def fam_CUE_THR : Fam := ⟨0x0804, 1, 0, 2, [CUE_THR_CAP_B, CUE_THR_CAP_A, CUE_THR_CAP_D, CUE_THR_CAP_C]⟩

/-! CUE_QUIET: R244. -/
def CUE_QUIET_QDUR : Fld := ⟨0x0805, 0, 31, 16, .ro, fun _ => 0x0000⟩
def CUE_QUIET_START : Fld := ⟨0x0805, 0, 15, 8, .ro, fun _ => 0x00⟩
def CUE_QUIET_VALID : Fld := ⟨0x0805, 0, 0, 0, .ro, fun _ => 0⟩
def fam_CUE_QUIET : Fam := ⟨0x0805, 1, 0, 1, [CUE_QUIET_QDUR, CUE_QUIET_START, CUE_QUIET_VALID]⟩

/-! CUE: R245. -/
def CUE_SCORE : Fld := ⟨0x08C0, 0, 31, 16, .ro, fun _ => 0xFFFF⟩
def CUE_FID : Fld := ⟨0x08C0, 0, 15, 12, .ro, fun _ => 0x0⟩
def CUE_OPEN : Fld := ⟨0x08C0, 0, 11, 11, .ro, fun _ => 0⟩
def CUE_LASTOUT : Fld := ⟨0x08C0, 0, 10, 8, .ro, fun _ => 0b000⟩
def CUE_ODI : Fld := ⟨0x08C0, 1, 31, 16, .ro, fun _ => 0x0000⟩
def CUE_OC : Fld := ⟨0x08C0, 1, 15, 0, .ro, fun _ => 0x0000⟩
def CUE_FCNT : Fld := ⟨0x08C0, 2, 31, 24, .ro, fun _ => 0x00⟩
def CUE_HITCNT : Fld := ⟨0x08C0, 2, 23, 16, .ro, fun _ => 0x00⟩
def CUE_MISSCNT : Fld := ⟨0x08C0, 2, 15, 8, .ro, fun _ => 0x00⟩
def CUE_DISCNT : Fld := ⟨0x08C0, 2, 7, 0, .ro, fun _ => 0x00⟩
def CUE_CANCNT : Fld := ⟨0x08C0, 3, 31, 24, .ro, fun _ => 0x00⟩
def CUE_SUPCNT : Fld := ⟨0x08C0, 3, 23, 16, .ro, fun _ => 0x00⟩
def CUE_CLOSCNT : Fld := ⟨0x08C0, 3, 15, 8, .ro, fun _ => 0x00⟩
def CUE_CAP : Fld := ⟨0x08C0, 4, 31, 16, .ro, fun _ => 0xFFFF⟩
def CUE_REASON : Fld := ⟨0x08C0, 4, 15, 13, .ro, fun _ => 0b000⟩
def CUE_RMASK : Fld := ⟨0x08C0, 4, 12, 8, .ro, fun _ => 0x00⟩
def CUE_CLRCNT : Fld := ⟨0x08C0, 5, 31, 31, .wo, fun _ => 0⟩
def CUE_SCRST : Fld := ⟨0x08C0, 5, 30, 30, .wo, fun _ => 0⟩
def fam_CUE : Fam := ⟨0x08C0, 4, 0x40, 6, [CUE_SCORE, CUE_FID, CUE_OPEN, CUE_LASTOUT, CUE_ODI, CUE_OC, CUE_FCNT, CUE_HITCNT, CUE_MISSCNT, CUE_DISCNT, CUE_CANCNT, CUE_SUPCNT, CUE_CLOSCNT, CUE_CAP, CUE_REASON, CUE_RMASK, CUE_CLRCNT, CUE_SCRST]⟩

/-! HAM_CTL: R260. -/
def HAM_CTL_AMODE : Fld := ⟨0x0900, 0, 18, 16, .ro, fun _ => 0b000⟩
def HAM_CTL_ICAUSE : Fld := ⟨0x0900, 0, 10, 8, .ro, fun _ => 0b001⟩
def HAM_CTL_PRE : Fld := ⟨0x0900, 0, 3, 3, .rws, fun _ => 1⟩
def HAM_CTL_H1EN : Fld := ⟨0x0900, 0, 2, 2, .rws, fun _ => 1⟩
def HAM_CTL_SMODE : Fld := ⟨0x0900, 0, 1, 0, .rws, fun _ => 0b00⟩
def fam_HAM_CTL : Fam := ⟨0x0900, 1, 0, 1, [HAM_CTL_AMODE, HAM_CTL_ICAUSE, HAM_CTL_PRE, HAM_CTL_H1EN, HAM_CTL_SMODE]⟩

/-! HAM_SHAPE: R261. -/
def HAM_SHAPE_SLIM : Fld := ⟨0x0901, 0, 25, 16, .rws, fun _ => 0x064⟩
def HAM_SHAPE_RCMAX : Fld := ⟨0x0901, 0, 15, 0, .rws, fun _ => 0x0140⟩
def HAM_SHAPE_VRVTGT : Fld := ⟨0x0901, 1, 31, 16, .rws, fun _ => 0x2328⟩
def HAM_SHAPE_HROOM : Fld := ⟨0x0901, 1, 15, 8, .rws, fun _ => 0x0A⟩
def HAM_SHAPE_ETA : Fld := ⟨0x0901, 1, 7, 0, .rws, fun _ => 0xE6⟩
def HAM_SHAPE_TRC : Fld := ⟨0x0901, 2, 7, 0, .rws, fun _ => 0x0A⟩
def fam_HAM_SHAPE : Fam := ⟨0x0901, 1, 0, 3, [HAM_SHAPE_SLIM, HAM_SHAPE_RCMAX, HAM_SHAPE_VRVTGT, HAM_SHAPE_HROOM, HAM_SHAPE_ETA, HAM_SHAPE_TRC]⟩

/-! HAM_LIM: R262. -/
def HAM_LIM_VRVMAX : Fld := ⟨0x0902, 0, 31, 16, .rws, fun _ => 0x2580⟩
def HAM_LIM_VRVMIN : Fld := ⟨0x0902, 0, 15, 0, .rws, fun _ => 0x1388⟩
def HAM_LIM_VCURT : Fld := ⟨0x0902, 1, 31, 16, .rws, fun _ => 0x1770⟩
def HAM_LIM_IHMAX : Fld := ⟨0x0902, 1, 15, 8, .rws, fun _ => 0x3C⟩
def HAM_LIM_TCHLO : Fld := ⟨0x0902, 2, 31, 24, .rws, fun _ => 0x00⟩
def HAM_LIM_TCHHI : Fld := ⟨0x0902, 2, 23, 16, .rws, fun _ => 0x2D⟩
def HAM_LIM_TDSLO : Fld := ⟨0x0902, 2, 15, 8, .rws, fun _ => 0xEC⟩
def HAM_LIM_TDSHI : Fld := ⟨0x0902, 2, 7, 0, .rws, fun _ => 0x3C⟩
def fam_HAM_LIM : Fam := ⟨0x0902, 1, 0, 3, [HAM_LIM_VRVMAX, HAM_LIM_VRVMIN, HAM_LIM_VCURT, HAM_LIM_IHMAX, HAM_LIM_TCHLO, HAM_LIM_TCHHI, HAM_LIM_TDSLO, HAM_LIM_TDSHI]⟩

/-! HAM_IB: R263. -/
def HAM_IB_VLOSS : Fld := ⟨0x0903, 0, 31, 16, .rws, fun _ => 0x2A30⟩
def HAM_IB_VRES : Fld := ⟨0x0903, 0, 15, 0, .rws, fun _ => 0x2CEC⟩
def HAM_IB_VHOLD : Fld := ⟨0x0903, 1, 31, 16, .rws, fun _ => 0x2904⟩
def HAM_IB_TQUAL : Fld := ⟨0x0903, 1, 15, 8, .rws, fun _ => 0x0A⟩
def HAM_IB_HOLDMAX : Fld := ⟨0x0903, 1, 7, 0, .rws, fun _ => 0x14⟩
def fam_HAM_IB : Fam := ⟨0x0903, 1, 0, 2, [HAM_IB_VLOSS, HAM_IB_VRES, HAM_IB_VHOLD, HAM_IB_TQUAL, HAM_IB_HOLDMAX]⟩

/-! HAM_STAT: R264. -/
def HAM_STAT_IH : Fld := ⟨0x0904, 0, 31, 16, .ro, fun _ => 0x0000⟩
def HAM_STAT_ITGT : Fld := ⟨0x0904, 0, 15, 0, .ro, fun _ => 0x0000⟩
def HAM_STAT_QD : Fld := ⟨0x0904, 1, 31, 16, .ro, fun _ => 0x0000⟩
def HAM_STAT_HOLDT : Fld := ⟨0x0904, 1, 15, 0, .ro, fun _ => 0x0000⟩
def HAM_STAT_HOLDF : Fld := ⟨0x0904, 2, 31, 31, .w1c, fun _ => 0⟩
def HAM_STAT_EXHF : Fld := ⟨0x0904, 2, 30, 30, .w1c, fun _ => 0⟩
def HAM_STAT_RESTF : Fld := ⟨0x0904, 2, 29, 29, .w1c, fun _ => 0⟩
def HAM_STAT_HDR : Fld := ⟨0x0904, 2, 28, 28, .ro, fun _ => 0⟩
def HAM_STAT_CHLIMA : Fld := ⟨0x0904, 2, 27, 27, .ro, fun _ => 1⟩
def HAM_STAT_DSLIMA : Fld := ⟨0x0904, 2, 26, 26, .ro, fun _ => 1⟩
def HAM_STAT_CLRCNT : Fld := ⟨0x0904, 2, 25, 25, .wo, fun _ => 0⟩
def HAM_STAT_SBCNT : Fld := ⟨0x0904, 2, 7, 0, .ro, fun _ => 0x00⟩
def fam_HAM_STAT : Fam := ⟨0x0904, 1, 0, 3, [HAM_STAT_IH, HAM_STAT_ITGT, HAM_STAT_QD, HAM_STAT_HOLDT, HAM_STAT_HOLDF, HAM_STAT_EXHF, HAM_STAT_RESTF, HAM_STAT_HDR, HAM_STAT_CHLIMA, HAM_STAT_DSLIMA, HAM_STAT_CLRCNT, HAM_STAT_SBCNT]⟩

/-! HAM_CURT: R264. -/
def HAM_CURT_GAP : Fld := ⟨0x0905, 0, 15, 8, .rws, fun _ => 0x00⟩
def HAM_CURT_ORDER : Fld := ⟨0x0905, 0, 7, 0, .rws, fun _ => 0xE4⟩
def fam_HAM_CURT : Fam := ⟨0x0905, 1, 0, 1, [HAM_CURT_GAP, HAM_CURT_ORDER]⟩

/-! HAM_SHUNT: R264. -/
def HAM_SHUNT_RRV : Fld := ⟨0x0906, 0, 31, 16, .rws, fun _ => 0x0190⟩
def HAM_SHUNT_RIIB : Fld := ⟨0x0906, 0, 15, 0, .rws, fun _ => 0x00FA⟩
def fam_HAM_SHUNT : Fam := ⟨0x0906, 1, 0, 1, [HAM_SHUNT_RRV, HAM_SHUNT_RIIB]⟩

/-! GAU_CFG: R285. -/
def GAU_CFG_CAPR : Fld := ⟨0x0A10, 0, 31, 16, .rws, fun _ => 0x0000⟩
def GAU_CFG_DCRR : Fld := ⟨0x0A10, 0, 15, 0, .rws, fun _ => 0x01F4⟩
def GAU_CFG_VFULL : Fld := ⟨0x0A10, 1, 31, 16, .rws, fun _ => 0x251C⟩
def GAU_CFG_VEMPTY : Fld := ⟨0x0A10, 1, 15, 0, .rws, fun _ => 0x1388⟩
def GAU_CFG_GERR : Fld := ⟨0x0A10, 2, 31, 24, .rws, fun _ => 0x32⟩
def GAU_CFG_IOFS : Fld := ⟨0x0A10, 2, 23, 16, .rws, fun _ => 0x05⟩
def GAU_CFG_OCVERR : Fld := ⟨0x0A10, 2, 15, 8, .rws, fun _ => 0x0A⟩
def GAU_CFG_UREQ : Fld := ⟨0x0A10, 2, 7, 0, .rws, fun _ => 0x05⟩
def GAU_CFG_ITAIL : Fld := ⟨0x0A10, 3, 31, 24, .rws, fun _ => 0x32⟩
def GAU_CFG_RELAX : Fld := ⟨0x0A10, 3, 23, 16, .rws, fun _ => 0x1E⟩
def GAU_CFG_TFULL : Fld := ⟨0x0A10, 3, 15, 8, .rws, fun _ => 0x0A⟩
def GAU_CFG_LEARN : Fld := ⟨0x0A10, 3, 7, 7, .rws, fun _ => 1⟩
def GAU_CFG_RWFAB : Fld := ⟨0x0A10, 3, 6, 6, .rws, fun _ => 1⟩
def fam_GAU_CFG : Fam := ⟨0x0A10, 1, 0, 4, [GAU_CFG_CAPR, GAU_CFG_DCRR, GAU_CFG_VFULL, GAU_CFG_VEMPTY, GAU_CFG_GERR, GAU_CFG_IOFS, GAU_CFG_OCVERR, GAU_CFG_UREQ, GAU_CFG_ITAIL, GAU_CFG_RELAX, GAU_CFG_TFULL, GAU_CFG_LEARN, GAU_CFG_RWFAB]⟩

/-! GAU_HCFG: R286. -/
def GAU_HCFG_CEFF : Fld := ⟨0x0A11, 0, 31, 16, .rws, fun _ => 0xFFBE⟩
def GAU_HCFG_SDR : Fld := ⟨0x0A11, 0, 15, 0, .rws, fun _ => 0x000A⟩
def GAU_HCFG_SOHWARN : Fld := ⟨0x0A11, 1, 31, 24, .rws, fun _ => 0x50⟩
def GAU_HCFG_RWWAIT : Fld := ⟨0x0A11, 1, 23, 16, .rws, fun _ => 0x3C⟩
def GAU_HCFG_DCRWARN : Fld := ⟨0x0A11, 1, 15, 0, .rws, fun _ => 0x03E8⟩
def fam_GAU_HCFG : Fam := ⟨0x0A11, 1, 0, 2, [GAU_HCFG_CEFF, GAU_HCFG_SDR, GAU_HCFG_SOHWARN, GAU_HCFG_RWWAIT, GAU_HCFG_DCRWARN]⟩

/-! GAU_STATE: R287. -/
def GAU_STATE_SOC : Fld := ⟨0x0A12, 0, 31, 16, .ro, fun _ => 0x0000⟩
def GAU_STATE_UPCT : Fld := ⟨0x0A12, 0, 15, 0, .ro, fun _ => 0x0000⟩
def GAU_STATE_STORED : Fld := ⟨0x0A12, 1, 31, 0, .ro, fun _ => 0x00000000⟩
def GAU_STATE_U : Fld := ⟨0x0A12, 2, 31, 0, .ro, fun _ => 0x00000000⟩
def GAU_STATE_ACTIVE : Fld := ⟨0x0A12, 3, 31, 31, .ro, fun _ => 0⟩
def GAU_STATE_GAPF : Fld := ⟨0x0A12, 3, 30, 30, .ro, fun _ => 1⟩
def GAU_STATE_INSF : Fld := ⟨0x0A12, 3, 29, 29, .ro, fun _ => 0⟩
def GAU_STATE_REPLF : Fld := ⟨0x0A12, 3, 28, 28, .w1c, fun _ => 0⟩
def GAU_STATE_LSUSP : Fld := ⟨0x0A12, 3, 27, 27, .ro, fun _ => 0⟩
def GAU_STATE_CCTOFF : Fld := ⟨0x0A12, 3, 26, 26, .ro, fun _ => 0⟩
def GAU_STATE_OCVBAD : Fld := ⟨0x0A12, 3, 25, 25, .ro, fun _ => 0⟩
def GAU_STATE_CAPV : Fld := ⟨0x0A12, 3, 24, 24, .ro, fun _ => 0⟩
def GAU_STATE_LASTANCH : Fld := ⟨0x0A12, 3, 23, 21, .ro, fun _ => 0b000⟩
def GAU_STATE_ANAGE : Fld := ⟨0x0A12, 3, 15, 0, .ro, fun _ => 0x0000⟩
def fam_GAU_STATE : Fam := ⟨0x0A12, 1, 0, 4, [GAU_STATE_SOC, GAU_STATE_UPCT, GAU_STATE_STORED, GAU_STATE_U, GAU_STATE_ACTIVE, GAU_STATE_GAPF, GAU_STATE_INSF, GAU_STATE_REPLF, GAU_STATE_LSUSP, GAU_STATE_CCTOFF, GAU_STATE_OCVBAD, GAU_STATE_CAPV, GAU_STATE_LASTANCH, GAU_STATE_ANAGE]⟩

/-! GAU_LEDG: R288. -/
def GAU_LEDG_IN : Fld := ⟨0x0A13, 0, 31, 0, .ro, fun _ => 0x00000000⟩
def GAU_LEDG_OUT : Fld := ⟨0x0A13, 1, 31, 0, .ro, fun _ => 0x00000000⟩
def GAU_LEDG_STORED0 : Fld := ⟨0x0A13, 2, 31, 0, .ro, fun _ => 0x00000000⟩
def GAU_LEDG_LOSS : Fld := ⟨0x0A13, 3, 31, 0, .ro, fun _ => 0x00000000⟩
def fam_GAU_LEDG : Fam := ⟨0x0A13, 1, 0, 4, [GAU_LEDG_IN, GAU_LEDG_OUT, GAU_LEDG_STORED0, GAU_LEDG_LOSS]⟩

/-! GAU_HLTH: R289. -/
def GAU_HLTH_CAP : Fld := ⟨0x0A14, 0, 31, 16, .ro, fun _ => 0x0000⟩
def GAU_HLTH_DCR : Fld := ⟨0x0A14, 0, 15, 0, .ro, fun _ => 0x0000⟩
def GAU_HLTH_SOH : Fld := ⟨0x0A14, 1, 31, 16, .ro, fun _ => 0x0000⟩
def GAU_HLTH_NLEARN : Fld := ⟨0x0A14, 1, 15, 8, .ro, fun _ => 0x00⟩
def GAU_HLTH_CAPREJ : Fld := ⟨0x0A14, 1, 7, 0, .ro, fun _ => 0x00⟩
def GAU_HLTH_THRU : Fld := ⟨0x0A14, 2, 31, 0, .ro, fun _ => 0x00000000⟩
def GAU_HLTH_EFC : Fld := ⟨0x0A14, 3, 31, 16, .ro, fun _ => 0x0000⟩
def GAU_HLTH_DCRW : Fld := ⟨0x0A14, 3, 1, 1, .ro, fun _ => 0⟩
def GAU_HLTH_SOHW : Fld := ⟨0x0A14, 3, 0, 0, .ro, fun _ => 0⟩
def fam_GAU_HLTH : Fam := ⟨0x0A14, 1, 0, 4, [GAU_HLTH_CAP, GAU_HLTH_DCR, GAU_HLTH_SOH, GAU_HLTH_NLEARN, GAU_HLTH_CAPREJ, GAU_HLTH_THRU, GAU_HLTH_EFC, GAU_HLTH_DCRW, GAU_HLTH_SOHW]⟩

/-! GAU_REST: R290. -/
def GAU_REST_REQ : Fld := ⟨0x0A15, 0, 31, 31, .ro, fun _ => 0⟩
def GAU_REST_GRANTED : Fld := ⟨0x0A15, 0, 30, 30, .ro, fun _ => 0⟩
def GAU_REST_PH : Fld := ⟨0x0A15, 0, 29, 28, .ro, fun _ => 0b00⟩
def GAU_REST_QONLY : Fld := ⟨0x0A15, 0, 27, 27, .ro, fun _ => 0⟩
def GAU_REST_DENIED : Fld := ⟨0x0A15, 0, 26, 26, .w1c, fun _ => 0⟩
def GAU_REST_LAPSF : Fld := ⟨0x0A15, 0, 25, 25, .w1c, fun _ => 0⟩
def GAU_REST_ABRTF : Fld := ⟨0x0A15, 0, 24, 24, .w1c, fun _ => 0⟩
def GAU_REST_ABRTR : Fld := ⟨0x0A15, 0, 23, 21, .ro, fun _ => 0b000⟩
def GAU_REST_NREST : Fld := ⟨0x0A15, 0, 15, 8, .ro, fun _ => 0x00⟩
def GAU_REST_NDENY : Fld := ⟨0x0A15, 0, 7, 0, .ro, fun _ => 0x00⟩
def GAU_REST_RLEFT : Fld := ⟨0x0A15, 1, 31, 16, .ro, fun _ => 0x0000⟩
def GAU_REST_RSTART : Fld := ⟨0x0A15, 1, 15, 0, .ro, fun _ => 0x0000⟩
def fam_GAU_REST : Fam := ⟨0x0A15, 1, 0, 2, [GAU_REST_REQ, GAU_REST_GRANTED, GAU_REST_PH, GAU_REST_QONLY, GAU_REST_DENIED, GAU_REST_LAPSF, GAU_REST_ABRTF, GAU_REST_ABRTR, GAU_REST_NREST, GAU_REST_NDENY, GAU_REST_RLEFT, GAU_REST_RSTART]⟩

/-! GAU_OCV: R291. -/
def GAU_OCV_OCV : Fld := ⟨0x0AC0, 0, 31, 16, .rws, fun i => 5000 + (9200 * i + 31) / 62⟩
def GAU_OCV_SOCP : Fld := ⟨0x0AC0, 0, 15, 0, .rws, fun i => (131070 * i + 31) / 62⟩
def fam_GAU_OCV : Fam := ⟨0x0AC0, 32, 0x10, 1, [GAU_OCV_OCV, GAU_OCV_SOCP]⟩

/-! CMP: R301. -/
def CMP_EN : Fld := ⟨0x05C0, 0, 31, 31, .rws, fun _ => 1⟩
def CMP_CONT : Fld := ⟨0x05C0, 0, 30, 30, .rws, fun i => if (34 ≤ i ∧ i ≤ 37) ∨ i = 42 then 1 else 0⟩
def CMP_WAKE : Fld := ⟨0x05C0, 0, 29, 29, .rws, fun _ => 1⟩
def CMP_LMODE : Fld := ⟨0x05C0, 0, 28, 27, .rws, fun i => if i ≤ 33 ∨ i = 44 ∨ i = 45 then 1 else 0⟩
def CMP_TRACK : Fld := ⟨0x05C0, 0, 26, 26, .rws, fun i => if 38 ≤ i ∧ i ≤ 41 then 1 else 0⟩
def CMP_FILT : Fld := ⟨0x05C0, 0, 25, 24, .rws, fun i => if i ≤ 33 ∨ i = 44 ∨ i = 45 then 0 else if i ≤ 37 then 1 else 3⟩
def CMP_HYS : Fld := ⟨0x05C0, 0, 21, 16, .rws, fun i => if i ≤ 37 ∨ i = 43 ∨ i = 44 ∨ i = 45 then 0x0A else if i ≤ 42 then 0x05 else 0x04⟩
def CMP_DAC : Fld := ⟨0x05C0, 0, 9, 0, .rws, fun i => if i ≤ 31 then 0x1F4 else if i ≤ 33 then 0x190 else if i ≤ 37 then 0x1F4 else if i ≤ 41 then 0x032 else if i = 42 then 0x2A3 else if i = 43 then 0x36B else if i ≤ 45 then 0x190 else if i = 46 then 0x271 else 0x120⟩
def CMP_OUT : Fld := ⟨0x05C0, 1, 31, 31, .ro, fun _ => 1⟩
def CMP_RAW : Fld := ⟨0x05C0, 1, 30, 30, .ro, fun _ => 0⟩
def CMP_LAT : Fld := ⟨0x05C0, 1, 29, 29, .w1c, fun _ => 0⟩
def CMP_EDGEF : Fld := ⟨0x05C0, 1, 28, 28, .w1c, fun _ => 0⟩
def CMP_EDGECNT : Fld := ⟨0x05C0, 1, 23, 16, .ro, fun _ => 0x00⟩
def CMP_ASSERTCNT : Fld := ⟨0x05C0, 1, 15, 8, .ro, fun _ => 0x00⟩
def CMP_CLRCNT : Fld := ⟨0x05C0, 1, 0, 0, .wo, fun _ => 0⟩
def fam_CMP : Fam := ⟨0x05C0, 48, 0x10, 2, [CMP_EN, CMP_CONT, CMP_WAKE, CMP_LMODE, CMP_TRACK, CMP_FILT, CMP_HYS, CMP_DAC, CMP_OUT, CMP_RAW, CMP_LAT, CMP_EDGEF, CMP_EDGECNT, CMP_ASSERTCNT, CMP_CLRCNT]⟩

/-! PROT_CTL: R321. -/
def PROT_CTL_IBOVPOL : Fld := ⟨0x1000, 0, 31, 30, .rws, fun _ => 0b01⟩
def PROT_CTL_FNRAIL : Fld := ⟨0x1000, 0, 29, 29, .rws, fun _ => 1⟩
def PROT_CTL_FNHAM : Fld := ⟨0x1000, 0, 28, 28, .rws, fun _ => 0⟩
def PROT_CTL_HTRIPN : Fld := ⟨0x1000, 0, 23, 16, .rws, fun _ => 0x08⟩
def PROT_CTL_THRPCT : Fld := ⟨0x1000, 0, 15, 8, .rws, fun _ => 0x4B⟩
def fam_PROT_CTL : Fam := ⟨0x1000, 1, 0, 1, [PROT_CTL_IBOVPOL, PROT_CTL_FNRAIL, PROT_CTL_FNHAM, PROT_CTL_HTRIPN, PROT_CTL_THRPCT]⟩

/-! PROT_LATCH: R322. -/
def PROT_LATCH_RAILS : Fld := ⟨0x1001, 0, 27, 24, .ro, fun _ => 0x0⟩
def PROT_LATCH_FIRST : Fld := ⟨0x1001, 0, 23, 16, .ro, fun _ => 0x00⟩
def PROT_LATCH_ACT : Fld := ⟨0x1001, 0, 14, 8, .ro, fun _ => 0x00⟩
def PROT_LATCH_HAMLAT : Fld := ⟨0x1001, 0, 7, 7, .ro, fun _ => 0⟩
def PROT_LATCH_CAUSE : Fld := ⟨0x1001, 0, 6, 0, .ro, fun _ => 0x00⟩
def fam_PROT_LATCH : Fam := ⟨0x1001, 1, 0, 1, [PROT_LATCH_RAILS, PROT_LATCH_FIRST, PROT_LATCH_ACT, PROT_LATCH_HAMLAT, PROT_LATCH_CAUSE]⟩

/-! PROT_ARB: R323. -/
def PROT_ARB_LOSSCNT : Fld := ⟨0x1002, 0, 31, 24, .ro, fun _ => 0x00⟩
def PROT_ARB_RES : Fld := ⟨0x1002, 0, 23, 16, .ro, fun _ => 0x00⟩
def PROT_ARB_WINNER : Fld := ⟨0x1002, 0, 15, 8, .ro, fun _ => 0x00⟩
def PROT_ARB_LOSER : Fld := ⟨0x1002, 0, 7, 0, .ro, fun _ => 0x00⟩
def PROT_ARB_ARBF : Fld := ⟨0x1002, 1, 0, 0, .w1c, fun _ => 0⟩
def fam_PROT_ARB : Fam := ⟨0x1002, 1, 0, 2, [PROT_ARB_LOSSCNT, PROT_ARB_RES, PROT_ARB_WINNER, PROT_ARB_LOSER, PROT_ARB_ARBF]⟩

/-! PROT: R324. -/
def PROT_OVPOL : Fld := ⟨0x10C0, 0, 30, 30, .rws, fun _ => 0⟩
def PROT_UVPOL : Fld := ⟨0x10C0, 0, 29, 28, .rws, fun _ => 0b01⟩
def PROT_HOFF : Fld := ⟨0x10C0, 0, 27, 16, .rws, fun _ => 0x014⟩
def PROT_HRETRY : Fld := ⟨0x10C0, 0, 15, 8, .rws, fun _ => 0x00⟩
def PROT_HN : Fld := ⟨0x10C0, 0, 7, 0, .rws, fun _ => 0x08⟩
def PROT_HICF : Fld := ⟨0x10C0, 1, 31, 31, .w1c, fun _ => 0⟩
def PROT_FOCAUSE : Fld := ⟨0x10C0, 1, 30, 28, .ro, fun _ => 0b000⟩
def PROT_HICTOT : Fld := ⟨0x10C0, 1, 23, 16, .ro, fun _ => 0x00⟩
def PROT_RETRYCNT : Fld := ⟨0x10C0, 1, 15, 8, .ro, fun _ => 0x00⟩
def PROT_HCNT : Fld := ⟨0x10C0, 1, 7, 0, .ro, fun _ => 0x00⟩
def fam_PROT : Fam := ⟨0x10C0, 4, 0x10, 2, [PROT_OVPOL, PROT_UVPOL, PROT_HOFF, PROT_HRETRY, PROT_HN, PROT_HICF, PROT_FOCAUSE, PROT_HICTOT, PROT_RETRYCNT, PROT_HCNT]⟩

/-! THM_BAND: R325. -/
def THM_BAND_B4 : Fld := ⟨0x0F00, 0, 31, 24, .rws, fun _ => 0x72⟩
def THM_BAND_B3 : Fld := ⟨0x0F00, 0, 23, 16, .rws, fun _ => 0x5E⟩
def THM_BAND_B2 : Fld := ⟨0x0F00, 0, 15, 8, .rws, fun _ => 0x4A⟩
def THM_BAND_B1 : Fld := ⟨0x0F00, 0, 7, 0, .rws, fun _ => 0x36⟩
def THM_BAND_BAND : Fld := ⟨0x0F00, 1, 31, 29, .ro, fun _ => 0b000⟩
def THM_BAND_BHYS : Fld := ⟨0x0F00, 1, 28, 24, .rws, fun _ => 0x02⟩
def THM_BAND_B7 : Fld := ⟨0x0F00, 1, 23, 16, .rws, fun _ => 0xAE⟩
def THM_BAND_B6 : Fld := ⟨0x0F00, 1, 15, 8, .rws, fun _ => 0x9A⟩
def THM_BAND_B5 : Fld := ⟨0x0F00, 1, 7, 0, .rws, fun _ => 0x86⟩
def fam_THM_BAND : Fam := ⟨0x0F00, 1, 0, 2, [THM_BAND_B4, THM_BAND_B3, THM_BAND_B2, THM_BAND_B1, THM_BAND_BAND, THM_BAND_BHYS, THM_BAND_B7, THM_BAND_B6, THM_BAND_B5]⟩

/-! THM: R326. -/
def THM_SD : Fld := ⟨0x0FC0, 0, 31, 24, .rws, fun i => if i = 0 then 0xC2 else 0xBD⟩
def THM_THR : Fld := ⟨0x0FC0, 0, 23, 16, .rws, fun i => if i = 0 then 0xBA else 0xAE⟩
def THM_WARN : Fld := ⟨0x0FC0, 0, 15, 8, .rws, fun i => if i = 0 then 0xB3 else 0xA4⟩
def THM_HYS : Fld := ⟨0x0FC0, 0, 7, 4, .rws, fun _ => 0x5⟩
def THM_RNOM : Fld := ⟨0x0FC0, 1, 31, 16, .rws, fun _ => 0x03E8⟩
def THM_BETA : Fld := ⟨0x0FC0, 1, 15, 0, .rws, fun _ => 0x0D6B⟩
def THM_RPU : Fld := ⟨0x0FC0, 2, 31, 16, .rws, fun _ => 0x03E8⟩
def THM_NF : Fld := ⟨0x0FC0, 2, 15, 8, .rws, fun _ => 0x81⟩
def THM_RAILMASK : Fld := ⟨0x0FC0, 2, 7, 4, .rws, fun _ => 0x0⟩
def THM_SDA : Fld := ⟨0x0FC0, 3, 31, 31, .ro, fun i => if i = 0 then 1 else 0⟩
def THM_THRA : Fld := ⟨0x0FC0, 3, 30, 30, .ro, fun i => if i = 0 then 1 else 0⟩
def THM_WARNA : Fld := ⟨0x0FC0, 3, 29, 29, .ro, fun _ => 0⟩
def THM_SDF : Fld := ⟨0x0FC0, 3, 28, 28, .w1c, fun _ => 0⟩
def THM_THRF : Fld := ⟨0x0FC0, 3, 27, 27, .w1c, fun _ => 0⟩
def THM_WARNF : Fld := ⟨0x0FC0, 3, 26, 26, .w1c, fun _ => 0⟩
def THM_OPENF : Fld := ⟨0x0FC0, 3, 25, 25, .ro, fun _ => 0⟩
def THM_TEMP : Fld := ⟨0x0FC0, 3, 15, 0, .ro, fun _ => 0x0000⟩
def fam_THM : Fam := ⟨0x0FC0, 9, 0x10, 4, [THM_SD, THM_THR, THM_WARN, THM_HYS, THM_RNOM, THM_BETA, THM_RPU, THM_NF, THM_RAILMASK, THM_SDA, THM_THRA, THM_WARNA, THM_SDF, THM_THRF, THM_WARNF, THM_OPENF, THM_TEMP]⟩

/-! CAP_TOK: R346. -/
def CAP_TOK_ESR : Fld := ⟨0x0B00, 0, 30, 24, .ro, fun _ => 0x00⟩
def CAP_TOK_IDENT : Fld := ⟨0x0B00, 0, 22, 16, .ro, fun _ => 0x00⟩
def CAP_TOK_JOBS : Fld := ⟨0x0B00, 0, 14, 8, .ro, fun _ => 0x00⟩
def CAP_TOK_FREE : Fld := ⟨0x0B00, 0, 6, 0, .ro, fun _ => 0x40⟩
def CAP_TOK_CESR : Fld := ⟨0x0B00, 1, 28, 24, .ro, fun _ => 0x00⟩
def CAP_TOK_CIDENT : Fld := ⟨0x0B00, 1, 20, 16, .ro, fun _ => 0x00⟩
def CAP_TOK_CJOBS : Fld := ⟨0x0B00, 1, 12, 8, .ro, fun _ => 0x00⟩
def CAP_TOK_CFREE : Fld := ⟨0x0B00, 1, 4, 0, .ro, fun _ => 0x10⟩
def fam_CAP_TOK : Fam := ⟨0x0B00, 1, 0, 2, [CAP_TOK_ESR, CAP_TOK_IDENT, CAP_TOK_JOBS, CAP_TOK_FREE, CAP_TOK_CESR, CAP_TOK_CIDENT, CAP_TOK_CJOBS, CAP_TOK_CFREE]⟩

/-! CAP_HCFG: R347. -/
def CAP_HCFG_LWARN : Fld := ⟨0x0B05, 0, 31, 24, .rws, fun _ => 0x0A⟩
def CAP_HCFG_KWARN : Fld := ⟨0x0B05, 0, 23, 16, .rws, fun _ => 0x0A⟩
def CAP_HCFG_SWARN : Fld := ⟨0x0B05, 0, 15, 8, .rws, fun _ => 0x14⟩
def CAP_HCFG_EWARN : Fld := ⟨0x0B05, 0, 7, 0, .rws, fun _ => 0x32⟩
def CAP_HCFG_HPER : Fld := ⟨0x0B05, 1, 7, 0, .rws, fun _ => 0x0A⟩
def fam_CAP_HCFG : Fam := ⟨0x0B05, 1, 0, 2, [CAP_HCFG_LWARN, CAP_HCFG_KWARN, CAP_HCFG_SWARN, CAP_HCFG_EWARN, CAP_HCFG_HPER]⟩

/-! CAP_JOB: R348. -/
def CAP_JOB_STATE : Fld := ⟨0x0B10, 0, 31, 28, .ro, fun _ => 0x0⟩
def CAP_JOB_PORT : Fld := ⟨0x0B10, 0, 27, 24, .ro, fun _ => 0x0⟩
def CAP_JOB_TRIG : Fld := ⟨0x0B10, 0, 23, 16, .ro, fun _ => 0x00⟩
def CAP_JOB_TARG : Fld := ⟨0x0B10, 0, 15, 8, .ro, fun _ => 0x00⟩
def CAP_JOB_PRE : Fld := ⟨0x0B10, 0, 7, 5, .ro, fun _ => 0b000⟩
def CAP_JOB_FIRE : Fld := ⟨0x0B10, 0, 0, 0, .wo, fun _ => 0⟩
def CAP_JOB_LEVEL : Fld := ⟨0x0B10, 1, 31, 16, .ro, fun _ => 0x0000⟩
def CAP_JOB_CHMASK : Fld := ⟨0x0B10, 1, 15, 0, .ro, fun _ => 0x0000⟩
def CAP_JOB_TSLO : Fld := ⟨0x0B10, 2, 31, 0, .ro, fun _ => 0x00000000⟩
def CAP_JOB_TSHI : Fld := ⟨0x0B10, 3, 31, 0, .ro, fun _ => 0x00000000⟩
def fam_CAP_JOB : Fam := ⟨0x0B10, 8, 0, 4, [CAP_JOB_STATE, CAP_JOB_PORT, CAP_JOB_TRIG, CAP_JOB_TARG, CAP_JOB_PRE, CAP_JOB_FIRE, CAP_JOB_LEVEL, CAP_JOB_CHMASK, CAP_JOB_TSLO, CAP_JOB_TSHI]⟩

/-! CAP: R349. -/
def CAP_HOLD : Fld := ⟨0x0BC0, 0, 31, 28, .ro, fun _ => 0x0⟩
def CAP_JOB : Fld := ⟨0x0BC0, 0, 27, 24, .ro, fun _ => 0x0⟩
def CAP_SRC : Fld := ⟨0x0BC0, 0, 23, 16, .ro, fun _ => 0x00⟩
def CAP_DECN : Fld := ⟨0x0BC0, 0, 15, 12, .ro, fun _ => 0x0⟩
def CAP_DMODE : Fld := ⟨0x0BC0, 0, 11, 10, .ro, fun _ => 0b00⟩
def CAP_LEN : Fld := ⟨0x0BC0, 0, 6, 0, .ro, fun _ => 0x00⟩
def CAP_NSAMP : Fld := ⟨0x0BC0, 1, 16, 0, .ro, fun _ => 0x00000⟩
def CAP_TIDX : Fld := ⟨0x0BC0, 2, 31, 16, .ro, fun _ => 0x0000⟩
def CAP_OLDEST : Fld := ⟨0x0BC0, 2, 15, 0, .ro, fun _ => 0x0000⟩
def CAP_RATE : Fld := ⟨0x0BC0, 3, 31, 0, .ro, fun _ => 0x00000000⟩
def CAP_TOK0 : Fld := ⟨0x0BC0, 4, 31, 26, .ro, fun _ => 0x00⟩
def CAP_PRESHORT : Fld := ⟨0x0BC0, 4, 3, 3, .ro, fun _ => 0⟩
def CAP_STALL : Fld := ⟨0x0BC0, 4, 2, 2, .ro, fun _ => 0⟩
def CAP_RATECHG : Fld := ⟨0x0BC0, 4, 1, 1, .ro, fun _ => 0⟩
def CAP_SATS : Fld := ⟨0x0BC0, 4, 0, 0, .ro, fun _ => 0⟩
def fam_CAP : Fam := ⟨0x0BC0, 16, 0x20, 5, [CAP_HOLD, CAP_JOB, CAP_SRC, CAP_DECN, CAP_DMODE, CAP_LEN, CAP_NSAMP, CAP_TIDX, CAP_OLDEST, CAP_RATE, CAP_TOK0, CAP_PRESHORT, CAP_STALL, CAP_RATECHG, CAP_SATS]⟩

/-! CAP_ESR: R350. -/
def CAP_ESR_ESR : Fld := ⟨0x0B20, 0, 31, 16, .ro, fun _ => 0x0000⟩
def CAP_ESR_ESRBASE : Fld := ⟨0x0B20, 0, 15, 0, .ro, fun _ => 0x0000⟩
def CAP_ESR_ESRD : Fld := ⟨0x0B20, 1, 31, 16, .ro, fun _ => 0x0000⟩
def CAP_ESR_NPTS : Fld := ⟨0x0B20, 1, 15, 8, .ro, fun _ => 0x00⟩
def CAP_ESR_ARMED : Fld := ⟨0x0B20, 1, 2, 2, .ro, fun _ => 0⟩
def CAP_ESR_EW : Fld := ⟨0x0B20, 1, 1, 1, .ro, fun _ => 0⟩
def CAP_ESR_ESRV : Fld := ⟨0x0B20, 1, 0, 0, .ro, fun _ => 0⟩
def fam_CAP_ESR : Fam := ⟨0x0B20, 4, 0, 2, [CAP_ESR_ESR, CAP_ESR_ESRBASE, CAP_ESR_ESRD, CAP_ESR_NPTS, CAP_ESR_ARMED, CAP_ESR_EW, CAP_ESR_ESRV]⟩

/-! SYS_COMMIT: R380. -/
def SYS_COMMIT_PUBSEQ : Fld := ⟨0x1511, 0, 31, 16, .ro, fun _ => 0x0000⟩
def SYS_COMMIT_GO : Fld := ⟨0x1511, 0, 0, 0, .wo, fun _ => 0⟩
def fam_SYS_COMMIT : Fam := ⟨0x1511, 1, 0, 1, [SYS_COMMIT_PUBSEQ, SYS_COMMIT_GO]⟩

/-! SYS_OWNER: R381. -/
def SYS_OWNER_OWNED : Fld := ⟨0x1512, 0, 31, 31, .ro, fun _ => 0⟩
def SYS_OWNER_HAND : Fld := ⟨0x1512, 0, 30, 30, .ro, fun _ => 0⟩
def SYS_OWNER_OWNPORT : Fld := ⟨0x1512, 0, 29, 28, .ro, fun _ => 0b00⟩
def SYS_OWNER_NEXTPORT : Fld := ⟨0x1512, 0, 27, 26, .ro, fun _ => 0b00⟩
def SYS_OWNER_NWAIT : Fld := ⟨0x1512, 0, 25, 24, .ro, fun _ => 0b00⟩
def SYS_OWNER_OWNCHG : Fld := ⟨0x1512, 0, 23, 16, .ro, fun _ => 0x00⟩
def SYS_OWNER_LEASE : Fld := ⟨0x1512, 0, 15, 0, .ro, fun _ => 0x0000⟩
def fam_SYS_OWNER : Fam := ⟨0x1512, 1, 0, 1, [SYS_OWNER_OWNED, SYS_OWNER_HAND, SYS_OWNER_OWNPORT, SYS_OWNER_NEXTPORT, SYS_OWNER_NWAIT, SYS_OWNER_OWNCHG, SYS_OWNER_LEASE]⟩

/-! SESS: R382. -/
def SESS_OPEN : Fld := ⟨0x15C0, 0, 31, 31, .ro, fun _ => 0⟩
def SESS_OWNER : Fld := ⟨0x15C0, 0, 30, 30, .ro, fun _ => 0⟩
def SESS_WAIT : Fld := ⟨0x15C0, 0, 29, 29, .ro, fun _ => 0⟩
def SESS_XON : Fld := ⟨0x15C0, 0, 28, 28, .ro, fun _ => 0⟩
def SESS_AV : Fld := ⟨0x15C0, 0, 27, 26, .ro, fun _ => 0b00⟩
def SESS_CRED : Fld := ⟨0x15C0, 0, 23, 20, .ro, fun _ => 0x0⟩
def SESS_OUTST : Fld := ⟨0x15C0, 0, 19, 16, .ro, fun _ => 0x0⟩
def SESS_FIN : Fld := ⟨0x15C0, 0, 15, 12, .ro, fun _ => 0x0⟩
def SESS_UFIN : Fld := ⟨0x15C0, 0, 11, 8, .ro, fun _ => 0x0⟩
def SESS_DONEQ : Fld := ⟨0x15C0, 0, 7, 4, .ro, fun _ => 0x0⟩
def SESS_ALCAUSE : Fld := ⟨0x15C0, 1, 31, 16, .ro, fun _ => 0x0000⟩
def SESS_ALMASK : Fld := ⟨0x15C0, 1, 15, 0, .ro, fun _ => 0x0000⟩
def SESS_NONCE : Fld := ⟨0x15C0, 2, 31, 0, .ro, fun _ => 0x00000000⟩
def SESS_PRIO : Fld := ⟨0x15C0, 3, 31, 24, .ro, fun _ => 0x00⟩
def SESS_SEQGAP : Fld := ⟨0x15C0, 3, 23, 16, .ro, fun _ => 0x00⟩
def SESS_LASTSEQ : Fld := ⟨0x15C0, 3, 15, 0, .ro, fun _ => 0x0000⟩
def SESS_CRCCNT : Fld := ⟨0x15C0, 4, 31, 24, .ro, fun _ => 0x00⟩
def SESS_REFCNT : Fld := ⟨0x15C0, 4, 23, 16, .ro, fun _ => 0x00⟩
def SESS_DUPCNT : Fld := ⟨0x15C0, 4, 15, 8, .ro, fun _ => 0x00⟩
def SESS_REPLOST : Fld := ⟨0x15C0, 4, 7, 0, .ro, fun _ => 0x00⟩
def fam_SESS : Fam := ⟨0x15C0, 3, 0x40, 5, [SESS_OPEN, SESS_OWNER, SESS_WAIT, SESS_XON, SESS_AV, SESS_CRED, SESS_OUTST, SESS_FIN, SESS_UFIN, SESS_DONEQ, SESS_ALCAUSE, SESS_ALMASK, SESS_NONCE, SESS_PRIO, SESS_SEQGAP, SESS_LASTSEQ, SESS_CRCCNT, SESS_REFCNT, SESS_DUPCNT, SESS_REPLOST]⟩

/-! TWI_CFG: R424. -/
def TWI_CFG_SMBTB : Fld := ⟨0x0D00, 0, 1, 1, .rws, fun _ => 0⟩
def TWI_CFG_SMBTA : Fld := ⟨0x0D00, 0, 0, 0, .rws, fun _ => 0⟩
def fam_TWI_CFG : Fam := ⟨0x0D00, 1, 0, 1, [TWI_CFG_SMBTB, TWI_CFG_SMBTA]⟩

/-! TWI_PSTAT: R425. -/
def TWI_PSTAT_CLRCNT : Fld := ⟨0x0D01, 0, 31, 31, .wo, fun _ => 0⟩
def TWI_PSTAT_PROTERR : Fld := ⟨0x0D01, 0, 23, 16, .ro, fun _ => 0x00⟩
def TWI_PSTAT_TOUT : Fld := ⟨0x0D01, 0, 15, 8, .ro, fun _ => 0x00⟩
def TWI_PSTAT_NACKCNT : Fld := ⟨0x0D01, 0, 7, 0, .ro, fun _ => 0x00⟩
def TWI_PSTAT_PTR : Fld := ⟨0x0D01, 1, 15, 8, .ro, fun _ => 0x00⟩
def TWI_PSTAT_ADDR : Fld := ⟨0x0D01, 1, 6, 0, .ro, fun _ => 0⟩
def fam_TWI_PSTAT : Fam := ⟨0x0D01, 2, 0, 2, [TWI_PSTAT_CLRCNT, TWI_PSTAT_PROTERR, TWI_PSTAT_TOUT, TWI_PSTAT_NACKCNT, TWI_PSTAT_PTR, TWI_PSTAT_ADDR]⟩

/-! TWX_CTL: R426. -/
def TWX_CTL_STBASE : Fld := ⟨0x0D10, 0, 31, 25, .rws, fun _ => 0x10⟩
def TWX_CTL_LOWTO : Fld := ⟨0x0D10, 0, 23, 16, .rws, fun _ => 0x64⟩
def TWX_CTL_TPOLL : Fld := ⟨0x0D10, 0, 15, 8, .rws, fun _ => 0x0A⟩
def TWX_CTL_RATE : Fld := ⟨0x0D10, 0, 7, 6, .rws, fun _ => 0b01⟩
def TWX_CTL_FILT : Fld := ⟨0x0D10, 0, 5, 3, .rws, fun _ => 0b011⟩
def TWX_CTL_ARBN : Fld := ⟨0x0D10, 0, 2, 1, .rws, fun _ => 0b11⟩
def TWX_CTL_REDISC : Fld := ⟨0x0D10, 0, 0, 0, .wo, fun _ => 0⟩
def fam_TWX_CTL : Fam := ⟨0x0D10, 1, 0, 1, [TWX_CTL_STBASE, TWX_CTL_LOWTO, TWX_CTL_TPOLL, TWX_CTL_RATE, TWX_CTL_FILT, TWX_CTL_ARBN, TWX_CTL_REDISC]⟩

/-! TWX_STAT: R427. -/
def TWX_STAT_DISC : Fld := ⟨0x0D11, 0, 31, 31, .ro, fun _ => 1⟩
def TWX_STAT_BUSSTUCK : Fld := ⟨0x0D11, 0, 30, 30, .w1c, fun _ => 0⟩
def TWX_STAT_LOWTOF : Fld := ⟨0x0D11, 0, 29, 29, .w1c, fun _ => 0⟩
def TWX_STAT_ARBFAIL : Fld := ⟨0x0D11, 0, 28, 28, .w1c, fun _ => 0⟩
def TWX_STAT_BUSYF : Fld := ⟨0x0D11, 0, 27, 27, .w1c, fun _ => 0⟩
def TWX_STAT_TLATE : Fld := ⟨0x0D11, 0, 26, 26, .w1c, fun _ => 0⟩
def TWX_STAT_MINPF : Fld := ⟨0x0D11, 0, 25, 25, .w1c, fun _ => 0⟩
def TWX_STAT_ARBLOST : Fld := ⟨0x0D11, 0, 15, 8, .ro, fun _ => 0x00⟩
def TWX_STAT_CLEARS : Fld := ⟨0x0D11, 0, 7, 0, .ro, fun _ => 0x00⟩
def TWX_STAT_CLRCNT : Fld := ⟨0x0D11, 1, 31, 31, .wo, fun _ => 0⟩
def TWX_STAT_NFOUND : Fld := ⟨0x0D11, 1, 15, 8, .ro, fun _ => 0x00⟩
def TWX_STAT_NREFUSED : Fld := ⟨0x0D11, 1, 7, 0, .ro, fun _ => 0x00⟩
def fam_TWX_STAT : Fam := ⟨0x0D11, 1, 0, 2, [TWX_STAT_DISC, TWX_STAT_BUSSTUCK, TWX_STAT_LOWTOF, TWX_STAT_ARBFAIL, TWX_STAT_BUSYF, TWX_STAT_TLATE, TWX_STAT_MINPF, TWX_STAT_ARBLOST, TWX_STAT_CLEARS, TWX_STAT_CLRCNT, TWX_STAT_NFOUND, TWX_STAT_NREFUSED]⟩

/-! TWX_HXFR: R428. -/
def TWX_HXFR_GO : Fld := ⟨0x0D12, 0, 31, 31, .wo, fun _ => 0⟩
def TWX_HXFR_STAT : Fld := ⟨0x0D12, 0, 30, 28, .ro, fun _ => 0b000⟩
def TWX_HXFR_NRD : Fld := ⟨0x0D12, 0, 22, 20, .rw, fun _ => 0b000⟩
def TWX_HXFR_NWR : Fld := ⟨0x0D12, 0, 19, 16, .rw, fun _ => 0x0⟩
def TWX_HXFR_TADDR : Fld := ⟨0x0D12, 0, 6, 0, .rw, fun _ => 0x00⟩
def TWX_HXFR_WD0 : Fld := ⟨0x0D12, 1, 31, 0, .rw, fun _ => 0x00000000⟩
def TWX_HXFR_WD1 : Fld := ⟨0x0D12, 2, 31, 0, .rw, fun _ => 0x00000000⟩
def TWX_HXFR_RD : Fld := ⟨0x0D12, 3, 31, 0, .ro, fun _ => 0x00000000⟩
def fam_TWX_HXFR : Fam := ⟨0x0D12, 1, 0, 4, [TWX_HXFR_GO, TWX_HXFR_STAT, TWX_HXFR_NRD, TWX_HXFR_NWR, TWX_HXFR_TADDR, TWX_HXFR_WD0, TWX_HXFR_WD1, TWX_HXFR_RD]⟩

/-! STAGE: R429. -/
def STAGE_OUT : Fld := ⟨0x0DC0, 0, 31, 28, .ro, fun _ => 0x0⟩
def STAGE_RSN : Fld := ⟨0x0DC0, 0, 27, 24, .ro, fun _ => 0x0⟩
def STAGE_TV : Fld := ⟨0x0DC0, 0, 23, 20, .ro, fun _ => 0x0⟩
def STAGE_REV : Fld := ⟨0x0DC0, 0, 15, 8, .ro, fun _ => 0x00⟩
def STAGE_IRATE : Fld := ⟨0x0DC0, 0, 7, 0, .ro, fun _ => 0x00⟩
def STAGE_VEND : Fld := ⟨0x0DC0, 1, 31, 16, .ro, fun _ => 0x0000⟩
def STAGE_MODEL : Fld := ⟨0x0DC0, 1, 15, 0, .ro, fun _ => 0x0000⟩
def STAGE_STALE : Fld := ⟨0x0DC0, 2, 31, 31, .ro, fun _ => 0⟩
def STAGE_FAULT : Fld := ⟨0x0DC0, 2, 30, 30, .ro, fun _ => 0⟩
def STAGE_FAILCNT : Fld := ⟨0x0DC0, 2, 23, 16, .ro, fun _ => 0x00⟩
def STAGE_TEMP : Fld := ⟨0x0DC0, 2, 15, 8, .ro, fun _ => 0x00⟩
def STAGE_STATUS : Fld := ⟨0x0DC0, 2, 7, 0, .ro, fun _ => 0x00⟩
def STAGE_IOUT : Fld := ⟨0x0DC0, 3, 31, 16, .ro, fun _ => 0x0000⟩
def STAGE_VIN : Fld := ⟨0x0DC0, 3, 15, 0, .ro, fun _ => 0x0000⟩
def fam_STAGE : Fam := ⟨0x0DC0, 34, 0x10, 4, [STAGE_OUT, STAGE_RSN, STAGE_TV, STAGE_REV, STAGE_IRATE, STAGE_VEND, STAGE_MODEL, STAGE_STALE, STAGE_FAULT, STAGE_FAILCNT, STAGE_TEMP, STAGE_STATUS, STAGE_IOUT, STAGE_VIN]⟩

/-! ICU_CTL: R443. -/
def ICU_CTL_FBEN : Fld := ⟨0x0C00, 0, 0, 0, .rw, fun _ => 1⟩
def fam_ICU_CTL : Fam := ⟨0x0C00, 1, 0, 1, [ICU_CTL_FBEN]⟩

/-! ICU_CORE: R445. -/
def ICU_CORE_TOPSRC : Fld := ⟨0x0C03, 0, 23, 16, .ro, fun _ => 0xFF⟩
def ICU_CORE_DEPTH : Fld := ⟨0x0C03, 0, 12, 8, .ro, fun _ => 0x00⟩
def ICU_CORE_RPRIO : Fld := ⟨0x0C03, 0, 7, 4, .ro, fun _ => 0x0⟩
def ICU_CORE_FATAL : Fld := ⟨0x0C03, 0, 3, 3, .ro, fun _ => 0⟩
def ICU_CORE_SLEEP : Fld := ⟨0x0C03, 0, 2, 2, .ro, fun _ => 0⟩
def ICU_CORE_WAKEREQ : Fld := ⟨0x0C03, 0, 1, 1, .ro, fun _ => 0⟩
def ICU_CORE_EOIERRF : Fld := ⟨0x0C03, 0, 0, 0, .w1c, fun _ => 0⟩
def ICU_CORE_EOIERRCNT : Fld := ⟨0x0C03, 1, 31, 24, .ro, fun _ => 0x00⟩
def ICU_CORE_FBCNT : Fld := ⟨0x0C03, 1, 23, 16, .ro, fun _ => 0x00⟩
def ICU_CORE_SPURCNT : Fld := ⟨0x0C03, 1, 15, 8, .ro, fun _ => 0x00⟩
def ICU_CORE_EOI : Fld := ⟨0x0C03, 1, 7, 0, .wo, fun _ => 0x00⟩
def fam_ICU_CORE : Fam := ⟨0x0C03, 2, 0, 2, [ICU_CORE_TOPSRC, ICU_CORE_DEPTH, ICU_CORE_RPRIO, ICU_CORE_FATAL, ICU_CORE_SLEEP, ICU_CORE_WAKEREQ, ICU_CORE_EOIERRF, ICU_CORE_EOIERRCNT, ICU_CORE_FBCNT, ICU_CORE_SPURCNT, ICU_CORE_EOI]⟩

/-! ICU: R446. -/
def ICU_SENSE : Fld := ⟨0x0CC0, 0, 30, 29, .rw, fun i => icuSenseReset.getD i 0⟩
def ICU_TGT : Fld := ⟨0x0CC0, 0, 28, 28, .rw, fun i => if i = 124 then 1 else 0⟩
def ICU_PRIO : Fld := ⟨0x0CC0, 0, 27, 24, .rw, fun _ => 0x0⟩
def ICU_PEND : Fld := ⟨0x0CC0, 1, 31, 31, .ro, fun _ => 0⟩
def ICU_EN : Fld := ⟨0x0CC0, 1, 30, 30, .ro, fun _ => 0⟩
def ICU_ACTIVE : Fld := ⟨0x0CC0, 1, 29, 29, .ro, fun _ => 0⟩
def ICU_INPUT : Fld := ⟨0x0CC0, 1, 28, 28, .ro, fun _ => 0⟩
def ICU_SETPEND : Fld := ⟨0x0CC0, 1, 27, 27, .wo, fun _ => 0⟩
def ICU_CLRPEND : Fld := ⟨0x0CC0, 1, 26, 26, .wo, fun _ => 0⟩
def ICU_ENSET : Fld := ⟨0x0CC0, 1, 25, 25, .wo, fun _ => 0⟩
def ICU_ENCLR : Fld := ⟨0x0CC0, 1, 24, 24, .wo, fun _ => 0⟩
def ICU_CLRCNT : Fld := ⟨0x0CC0, 1, 23, 23, .wo, fun _ => 0⟩
def ICU_COUNT : Fld := ⟨0x0CC0, 1, 7, 0, .ro, fun _ => 0x00⟩
def fam_ICU : Fam := ⟨0x0CC0, 128, 0x10, 2, [ICU_SENSE, ICU_TGT, ICU_PRIO, ICU_PEND, ICU_EN, ICU_ACTIVE, ICU_INPUT, ICU_SETPEND, ICU_CLRPEND, ICU_ENSET, ICU_ENCLR, ICU_CLRCNT, ICU_COUNT]⟩

/-! SYS_WDT: R447. -/
def SYS_WDT_KEY_SC : Fld := ⟨0x1520, 0, 31, 16, .wo, fun _ => 0x0000⟩
def SYS_WDT_PREF_SC : Fld := ⟨0x1520, 0, 13, 13, .w1c, fun _ => 0⟩
def SYS_WDT_TMO_SC : Fld := ⟨0x1520, 0, 9, 0, .rw, fun _ => 0x064⟩
def SYS_WDT_KEY_AC : Fld := ⟨0x1520, 1, 31, 16, .wo, fun _ => 0x0000⟩
def SYS_WDT_PREF_AC : Fld := ⟨0x1520, 1, 13, 13, .w1c, fun _ => 0⟩
def SYS_WDT_TMO_AC : Fld := ⟨0x1520, 1, 9, 0, .rw, fun _ => 0x064⟩
def fam_SYS_WDT : Fam := ⟨0x1520, 1, 0, 2, [SYS_WDT_KEY_SC, SYS_WDT_PREF_SC, SYS_WDT_TMO_SC, SYS_WDT_KEY_AC, SYS_WDT_PREF_AC, SYS_WDT_TMO_AC]⟩

/-! SYS_SWI: R447. -/
def SYS_SWI_SWISC : Fld := ⟨0x1521, 0, 1, 1, .wo, fun _ => 0⟩
def SYS_SWI_SWIAC : Fld := ⟨0x1521, 0, 0, 0, .wo, fun _ => 0⟩
def fam_SYS_SWI : Fam := ⟨0x1521, 1, 0, 1, [SYS_SWI_SWISC, SYS_SWI_SWIAC]⟩

/-! EVR_STAT: R469. -/
def EVR_STAT_OLDEST : Fld := ⟨0x1100, 0, 31, 0, .ro, fun _ => 0x00000000⟩
def EVR_STAT_NEWEST : Fld := ⟨0x1100, 1, 31, 0, .ro, fun _ => 0x00000000⟩
def EVR_STAT_HELD : Fld := ⟨0x1100, 2, 31, 16, .ro, fun _ => 0x0000⟩
def EVR_STAT_QDEPTH : Fld := ⟨0x1100, 2, 15, 8, .ro, fun _ => 0x00⟩
def EVR_STAT_RUN : Fld := ⟨0x1100, 2, 1, 1, .ro, fun _ => 1⟩
def EVR_STAT_FULLF : Fld := ⟨0x1100, 2, 0, 0, .w1c, fun _ => 0⟩
def EVR_STAT_LOST : Fld := ⟨0x1100, 3, 31, 16, .ro, fun _ => 0x0000⟩
def EVR_STAT_OVW : Fld := ⟨0x1100, 3, 15, 0, .ro, fun _ => 0x0000⟩
def fam_EVR_STAT : Fam := ⟨0x1100, 1, 0, 4, [EVR_STAT_OLDEST, EVR_STAT_NEWEST, EVR_STAT_HELD, EVR_STAT_QDEPTH, EVR_STAT_RUN, EVR_STAT_FULLF, EVR_STAT_LOST, EVR_STAT_OVW]⟩

/-! EVR_BOOK: R470. -/
def EVR_BOOK_RAISED : Fld := ⟨0x1101, 0, 31, 0, .ro, fun _ => 0x00000000⟩
def EVR_BOOK_WRITTEN : Fld := ⟨0x1101, 1, 31, 0, .ro, fun _ => 0x00000000⟩
def EVR_BOOK_SUPPR : Fld := ⟨0x1101, 2, 31, 0, .ro, fun _ => 0x00000000⟩
def EVR_BOOK_LOSTT : Fld := ⟨0x1101, 3, 31, 0, .ro, fun _ => 0x00000000⟩
def fam_EVR_BOOK : Fam := ⟨0x1101, 1, 0, 4, [EVR_BOOK_RAISED, EVR_BOOK_WRITTEN, EVR_BOOK_SUPPR, EVR_BOOK_LOSTT]⟩

/-! EVR_POL: R471. -/
def EVR_POL_RATE : Fld := ⟨0x1102, 0, 15, 8, .ro, fun _ => 0x08⟩
def EVR_POL_BURST : Fld := ⟨0x1102, 0, 7, 0, .ro, fun _ => 0x10⟩
def fam_EVR_POL : Fam := ⟨0x1102, 1, 0, 1, [EVR_POL_RATE, EVR_POL_BURST]⟩

/-! NVS_STAT: R472. -/
def NVS_STAT_BOWARN : Fld := ⟨0x1200, 0, 31, 31, .ro, fun _ => 0⟩
def NVS_STAT_BOF : Fld := ⟨0x1200, 0, 30, 30, .w1c, fun _ => 0⟩
def NVS_STAT_INHIBIT : Fld := ⟨0x1200, 0, 29, 29, .ro, fun _ => 0⟩
def NVS_STAT_WRBUSY : Fld := ⟨0x1200, 0, 28, 28, .ro, fun _ => 0⟩
def NVS_STAT_DISCF : Fld := ⟨0x1200, 0, 27, 27, .w1c, fun _ => 0⟩
def NVS_STAT_RDERRF : Fld := ⟨0x1200, 0, 26, 26, .w1c, fun _ => 0⟩
def NVS_STAT_CORRCNT : Fld := ⟨0x1200, 0, 23, 16, .ro, fun _ => 0x00⟩
def NVS_STAT_BOCNT : Fld := ⟨0x1200, 0, 15, 8, .ro, fun _ => 0x00⟩
def NVS_STAT_SLOTBAD : Fld := ⟨0x1200, 0, 7, 0, .ro, fun _ => 0x00⟩
def NVS_STAT_ERRADDR : Fld := ⟨0x1200, 1, 31, 0, .ro, fun _ => 0x00000000⟩
def fam_NVS_STAT : Fam := ⟨0x1200, 1, 0, 2, [NVS_STAT_BOWARN, NVS_STAT_BOF, NVS_STAT_INHIBIT, NVS_STAT_WRBUSY, NVS_STAT_DISCF, NVS_STAT_RDERRF, NVS_STAT_CORRCNT, NVS_STAT_BOCNT, NVS_STAT_SLOTBAD, NVS_STAT_ERRADDR]⟩

/-! NVS: R473. -/
def NVS_SEQ : Fld := ⟨0x12C0, 0, 31, 0, .ro, fun _ => 0x00000000⟩
def NVS_VALID0 : Fld := ⟨0x12C0, 1, 31, 31, .ro, fun _ => 0⟩
def NVS_VALID1 : Fld := ⟨0x12C0, 1, 30, 30, .ro, fun _ => 0⟩
def NVS_NEWER : Fld := ⟨0x12C0, 1, 29, 29, .ro, fun _ => 0⟩
def NVS_PEND : Fld := ⟨0x12C0, 1, 28, 28, .ro, fun _ => 0⟩
def NVS_ID : Fld := ⟨0x12C0, 1, 15, 0, .ro, fun i => nvsIdReset i⟩
def fam_NVS : Fam := ⟨0x12C0, 77, 0x10, 2, [NVS_SEQ, NVS_VALID0, NVS_VALID1, NVS_NEWER, NVS_PEND, NVS_ID]⟩

/-! DBG_CTL: R485. -/
def DBG_CTL_DRST : Fld := ⟨0x1400, 0, 7, 7, .wo, fun _ => 0⟩
def DBG_CTL_BSEN : Fld := ⟨0x1400, 0, 6, 6, .rw, fun _ => 0⟩
def DBG_CTL_STEPIRQ : Fld := ⟨0x1400, 0, 5, 5, .rw, fun _ => 0⟩
def DBG_CTL_STEPAC : Fld := ⟨0x1400, 0, 4, 4, .wo, fun _ => 0⟩
def DBG_CTL_STEPSC : Fld := ⟨0x1400, 0, 3, 3, .wo, fun _ => 0⟩
def DBG_CTL_HALTAC : Fld := ⟨0x1400, 0, 1, 1, .rw, fun _ => 0⟩
def DBG_CTL_HALTSC : Fld := ⟨0x1400, 0, 0, 0, .rw, fun _ => 0⟩
def fam_DBG_CTL : Fam := ⟨0x1400, 1, 0, 1, [DBG_CTL_DRST, DBG_CTL_BSEN, DBG_CTL_STEPIRQ, DBG_CTL_STEPAC, DBG_CTL_STEPSC, DBG_CTL_HALTAC, DBG_CTL_HALTSC]⟩

/-! DBG_STAT: R485. -/
def DBG_STAT_SCCAUSE : Fld := ⟨0x1401, 0, 15, 12, .ro, fun _ => 0x0⟩
def DBG_STAT_ACCAUSE : Fld := ⟨0x1401, 0, 11, 8, .ro, fun _ => 0x0⟩
def DBG_STAT_ACCERR : Fld := ⟨0x1401, 0, 7, 7, .w1c, fun _ => 0⟩
def DBG_STAT_LEHREJ : Fld := ⟨0x1401, 0, 6, 6, .w1c, fun _ => 0⟩
def DBG_STAT_BSREJ : Fld := ⟨0x1401, 0, 5, 5, .w1c, fun _ => 0⟩
def DBG_STAT_ACHALTED : Fld := ⟨0x1401, 0, 3, 3, .ro, fun _ => 0⟩
def DBG_STAT_SCHALTED : Fld := ⟨0x1401, 0, 2, 2, .ro, fun _ => 0⟩
def fam_DBG_STAT : Fam := ⟨0x1401, 1, 0, 1, [DBG_STAT_SCCAUSE, DBG_STAT_ACCAUSE, DBG_STAT_ACCERR, DBG_STAT_LEHREJ, DBG_STAT_BSREJ, DBG_STAT_ACHALTED, DBG_STAT_SCHALTED]⟩

/-! DBG_LE: R485. -/
def DBG_LE_HALTREQ : Fld := ⟨0x1402, 0, 25, 25, .rw, fun _ => 0⟩
def DBG_LE_STEP : Fld := ⟨0x1402, 0, 24, 24, .wo, fun _ => 0⟩
def DBG_LE_LANE : Fld := ⟨0x1402, 0, 18, 16, .rw, fun _ => 0b000⟩
def DBG_LE_PC : Fld := ⟨0x1402, 0, 11, 0, .ro, fun _ => 0x000⟩
def fam_DBG_LE : Fam := ⟨0x1402, 1, 0, 1, [DBG_LE_HALTREQ, DBG_LE_STEP, DBG_LE_LANE, DBG_LE_PC]⟩

/-! DBGBP: R486. -/
def DBGBP_ADDR : Fld := ⟨0x14C0, 0, 31, 0, .rw, fun _ => 0x00000000⟩
def DBGBP_DATA : Fld := ⟨0x14C0, 1, 31, 0, .rw, fun _ => 0x00000000⟩
def DBGBP_EN : Fld := ⟨0x14C0, 2, 31, 31, .rw, fun _ => 0⟩
def DBGBP_KIND : Fld := ⟨0x14C0, 2, 30, 29, .rw, fun _ => 0b00⟩
def DBGBP_DMATCH : Fld := ⟨0x14C0, 2, 28, 28, .rw, fun _ => 0⟩
def DBGBP_ACT : Fld := ⟨0x14C0, 2, 27, 27, .rw, fun _ => 0⟩
def DBGBP_RANGE : Fld := ⟨0x14C0, 2, 20, 16, .rw, fun _ => 0x00⟩
def DBGBP_HITS : Fld := ⟨0x14C0, 2, 7, 0, .ro, fun _ => 0x00⟩
def fam_DBGBP : Fam := ⟨0x14C0, 24, 0x10, 3, [DBGBP_ADDR, DBGBP_DATA, DBGBP_EN, DBGBP_KIND, DBGBP_DMATCH, DBGBP_ACT, DBGBP_RANGE, DBGBP_HITS]⟩

/-! BIST_STAT: R487. -/
def BIST_STAT_RUN : Fld := ⟨0x1300, 0, 31, 31, .ro, fun _ => 0⟩
def BIST_STAT_DONE : Fld := ⟨0x1300, 0, 30, 30, .w1c, fun _ => 0⟩
def BIST_STAT_ABRT : Fld := ⟨0x1300, 0, 29, 29, .w1c, fun _ => 0⟩
def BIST_STAT_SEL : Fld := ⟨0x1300, 0, 23, 16, .ro, fun _ => 0x00⟩
def BIST_STAT_PASS : Fld := ⟨0x1300, 0, 15, 8, .ro, fun _ => 0x00⟩
def BIST_STAT_FAIL : Fld := ⟨0x1300, 0, 7, 0, .ro, fun _ => 0x00⟩
def fam_BIST_STAT : Fam := ⟨0x1300, 1, 0, 1, [BIST_STAT_RUN, BIST_STAT_DONE, BIST_STAT_ABRT, BIST_STAT_SEL, BIST_STAT_PASS, BIST_STAT_FAIL]⟩

/-! BIST: R487. -/
def BIST_SIG : Fld := ⟨0x13C0, 0, 31, 0, .ro, fun _ => 0x00000000⟩
def BIST_EXP : Fld := ⟨0x13C0, 1, 31, 0, .ro, fun _ => 0x00000000⟩
def BIST_NFAIL : Fld := ⟨0x13C0, 2, 31, 16, .ro, fun _ => 0x0000⟩
def BIST_TIME : Fld := ⟨0x13C0, 2, 15, 0, .ro, fun _ => 0x0000⟩
def BIST_FADDR : Fld := ⟨0x13C0, 3, 31, 0, .ro, fun _ => 0x00000000⟩
def fam_BIST : Fam := ⟨0x13C0, 8, 0x10, 4, [BIST_SIG, BIST_EXP, BIST_NFAIL, BIST_TIME, BIST_FADDR]⟩

/-! VSC_SCHED: R83. -/
def VSC_SCHED_SLOT7 : Fld := ⟨0x0300, 0, 31, 28, .rws, fun i => if i = 0 then 0 else if i = 1 then 0 else 0⟩
def VSC_SCHED_SLOT6 : Fld := ⟨0x0300, 0, 27, 24, .rws, fun i => if i = 0 then 0 else if i = 1 then 0 else 7⟩
def VSC_SCHED_SLOT5 : Fld := ⟨0x0300, 0, 23, 20, .rws, fun i => if i = 0 then 0 else if i = 1 then 0 else 6⟩
def VSC_SCHED_SLOT4 : Fld := ⟨0x0300, 0, 19, 16, .rws, fun i => if i = 0 then 0 else if i = 1 then 0 else 5⟩
def VSC_SCHED_SLOT3 : Fld := ⟨0x0300, 0, 15, 12, .rws, fun i => if i = 0 then 7 else if i = 1 then 0 else 4⟩
def VSC_SCHED_SLOT2 : Fld := ⟨0x0300, 0, 11, 8, .rws, fun i => if i = 0 then 5 else if i = 1 then 6 else 3⟩
def VSC_SCHED_SLOT1 : Fld := ⟨0x0300, 0, 7, 4, .rws, fun i => if i = 0 then 2 else if i = 1 then 4 else 2⟩
def VSC_SCHED_SLOT0 : Fld := ⟨0x0300, 0, 3, 0, .rws, fun i => if i = 0 then 1 else if i = 1 then 3 else 1⟩
def VSC_SCHED_SLOT13 : Fld := ⟨0x0300, 1, 23, 20, .rws, fun i => if i = 0 then 0 else if i = 1 then 0 else 6⟩
def VSC_SCHED_SLOT12 : Fld := ⟨0x0300, 1, 19, 16, .rws, fun i => if i = 0 then 0 else if i = 1 then 0 else 5⟩
def VSC_SCHED_SLOT11 : Fld := ⟨0x0300, 1, 15, 12, .rws, fun i => if i = 0 then 7 else if i = 1 then 0 else 4⟩
def VSC_SCHED_SLOT10 : Fld := ⟨0x0300, 1, 11, 8, .rws, fun i => if i = 0 then 5 else if i = 1 then 6 else 3⟩
def VSC_SCHED_SLOT9 : Fld := ⟨0x0300, 1, 7, 4, .rws, fun i => if i = 0 then 2 else if i = 1 then 4 else 2⟩
def VSC_SCHED_SLOT8 : Fld := ⟨0x0300, 1, 3, 0, .rws, fun i => if i = 0 then 1 else if i = 1 then 3 else 1⟩
def fam_VSC_SCHED : Fam := ⟨0x0300, 4, 0, 2, [VSC_SCHED_SLOT7, VSC_SCHED_SLOT6, VSC_SCHED_SLOT5, VSC_SCHED_SLOT4, VSC_SCHED_SLOT3, VSC_SCHED_SLOT2, VSC_SCHED_SLOT1, VSC_SCHED_SLOT0, VSC_SCHED_SLOT13, VSC_SCHED_SLOT12, VSC_SCHED_SLOT11, VSC_SCHED_SLOT10, VSC_SCHED_SLOT9, VSC_SCHED_SLOT8]⟩

/-! ICU_PEND and ICU_MASK: R444. Views of the source frames, four words each. -/
def ICU_PEND_PEND0 : Fld := ⟨0x0C01, 0, 31, 0, .rw, fun _ => 0⟩
def ICU_PEND_PEND1 : Fld := ⟨0x0C01, 1, 31, 0, .rw, fun _ => 0⟩
def ICU_PEND_PEND2 : Fld := ⟨0x0C01, 2, 31, 0, .rw, fun _ => 0⟩
def ICU_PEND_PEND3 : Fld := ⟨0x0C01, 3, 31, 0, .rw, fun _ => 0⟩
def fam_ICU_PEND : Fam := ⟨0x0C01, 1, 0, 4, [ICU_PEND_PEND0, ICU_PEND_PEND1, ICU_PEND_PEND2, ICU_PEND_PEND3]⟩
def ICU_MASK_EN0 : Fld := ⟨0x0C02, 0, 31, 0, .rw, fun _ => 0⟩
def ICU_MASK_EN1 : Fld := ⟨0x0C02, 1, 31, 0, .rw, fun _ => 0⟩
def ICU_MASK_EN2 : Fld := ⟨0x0C02, 2, 31, 0, .rw, fun _ => 0⟩
def ICU_MASK_EN3 : Fld := ⟨0x0C02, 3, 31, 0, .rw, fun _ => 0⟩
def fam_ICU_MASK : Fam := ⟨0x0C02, 1, 0, 4, [ICU_MASK_EN0, ICU_MASK_EN1, ICU_MASK_EN2, ICU_MASK_EN3]⟩

end Reg

/-- Every object family with fields of its own (R29 to R31); ICU_PEND and ICU_MASK are views of the source frames (R444). -/
def fams : List Fam :=
  [Reg.fam_CLK_STATUS, Reg.fam_SYS_ID, Reg.fam_EXPERT_CTL, Reg.fam_SYS_MODE, Reg.fam_SYS_BOOT, Reg.fam_SYS_FAILLOG, Reg.fam_SYS_STRAP, Reg.fam_SYS_IMAGE, Reg.fam_SYS_RAILST, Reg.fam_CSA, Reg.fam_VSC_CHECK, Reg.fam_VSC_STATUS] ++
  [Reg.fam_VSC_RES, Reg.fam_HKA, Reg.fam_CCT_CTL, Reg.fam_CCT_SNAP, Reg.fam_CAL_STAT, Reg.fam_PWM_DT, Reg.fam_PWM_REF, Reg.fam_PWM_SYNCST, Reg.fam_PWM, Reg.fam_LE_CTL, Reg.fam_LE_BASE, Reg.fam_LE] ++
  [Reg.fam_IDENT_CFG, Reg.fam_IDENT_STAT, Reg.fam_PHM_CTL, Reg.fam_PHM_TAB, Reg.fam_PHM_CHAR, Reg.fam_PHM_LEDG, Reg.fam_PHM_SHED, Reg.fam_PHM_BAL, Reg.fam_PHM, Reg.fam_CUE_CTL, Reg.fam_CUE_LINK, Reg.fam_CUE_ERR] ++
  [Reg.fam_CUE_FWIN, Reg.fam_CUE_THR, Reg.fam_CUE_QUIET, Reg.fam_CUE, Reg.fam_HAM_CTL, Reg.fam_HAM_SHAPE, Reg.fam_HAM_LIM, Reg.fam_HAM_IB, Reg.fam_HAM_STAT, Reg.fam_HAM_CURT, Reg.fam_HAM_SHUNT, Reg.fam_GAU_CFG] ++
  [Reg.fam_GAU_HCFG, Reg.fam_GAU_STATE, Reg.fam_GAU_LEDG, Reg.fam_GAU_HLTH, Reg.fam_GAU_REST, Reg.fam_GAU_OCV, Reg.fam_CMP, Reg.fam_PROT_CTL, Reg.fam_PROT_LATCH, Reg.fam_PROT_ARB, Reg.fam_PROT, Reg.fam_THM_BAND] ++
  [Reg.fam_THM, Reg.fam_CAP_TOK, Reg.fam_CAP_HCFG, Reg.fam_CAP_JOB, Reg.fam_CAP, Reg.fam_CAP_ESR, Reg.fam_SYS_COMMIT, Reg.fam_SYS_OWNER, Reg.fam_SESS, Reg.fam_TWI_CFG, Reg.fam_TWI_PSTAT, Reg.fam_TWX_CTL] ++
  [Reg.fam_TWX_STAT, Reg.fam_TWX_HXFR, Reg.fam_STAGE, Reg.fam_ICU_CTL, Reg.fam_ICU_CORE, Reg.fam_ICU, Reg.fam_SYS_WDT, Reg.fam_SYS_SWI, Reg.fam_EVR_STAT, Reg.fam_EVR_BOOK, Reg.fam_EVR_POL, Reg.fam_NVS_STAT] ++
  [Reg.fam_NVS, Reg.fam_DBG_CTL, Reg.fam_DBG_STAT, Reg.fam_DBG_LE, Reg.fam_DBGBP, Reg.fam_BIST_STAT, Reg.fam_BIST, Reg.fam_VSC_SCHED, Reg.fam_ICU_PEND, Reg.fam_ICU_MASK]

end Sys2Proof.Machine
end

