-- ==== Sys2Proof/Machine/State.lean ====
section
/-!
DEFINITION. The state of the block as plain data, why a step can stop, and the state after power-on reset.
Register fields live in one store keyed by object, word, low bit and instance; a field not listed holds its reset value (R10).
Everything the spec gives the machine beside its registers stands in fields of its own or in the named internal variables of `Var`.
-/

namespace Sys2Proof.Machine

/-- Supply and reset: no supply, reset asserted or not yet released, running (R42, R48, R491). -/
inductive Power where
  | off | held | running
  deriving DecidableEq, Repr

/-- A finished reply that waits for retrieval (R353, R366): `fin` orders replies by the time they were finished. -/
structure Reply where
  fin : Nat
  tag : Nat
  bytes : List Byte
  deriving DecidableEq, Repr

/-- A completion entry (R367, R388). -/
structure Entry where
  tag : Nat
  opcode : Nat
  status : Nat
  reason : Nat
  deriving DecidableEq, Repr

/-- A queued CLAIM (R374); `order` is the time of the first CLAIM. -/
structure Claim where
  prio : Nat
  nonce : Nat
  tag : Nat
  order : Nat
  deriving DecidableEq, Repr

/-- An admitted command that has not executed (R364, R370). -/
structure Cmd where
  opcode : Nat
  ver : Nat
  tag : Nat
  obj : Nat
  seq : Nat
  payload : List Byte
  /-- The session was owner when the command was admitted (R376). -/
  asOwner : Bool
  /-- XON stood when the command was admitted (R37). -/
  withXon : Bool
  /-- Ownership has passed since the command was admitted by the owner (R376). -/
  fromOld : Bool
  deriving DecidableEq, Repr

/-- The read window of a session on the event records (R466). -/
structure LogWindow where
  cursor : Nat
  newest : Nat
  minSev : Nat
  /-- The lower bound was taken from an empty ring, so the window holds nothing. -/
  empty : Bool
  deriving DecidableEq, Repr

/-- A session of one port (R361 to R382). -/
structure Session where
  isOpen : Bool
  av : Nat
  /-- Received packets that wait for admission, at most two (R359). -/
  rx : List (List Byte)
  /-- Admitted commands in admission order that have not executed. -/
  queue : List Cmd
  /-- Tags of admitted credited commands whose replies are not released or discarded, in admission order (R369). -/
  outst : List Nat
  credited : List Reply
  uncredited : List Reply
  /-- The reply most recently released (R357). -/
  released : List Byte
  entries : List Entry
  claim : Option Claim
  nonce : Nat
  prio : Nat
  /-- Set, clearable causes of ALCAUSE: bits 3 to 6 and 8 (R378). -/
  causes : Nat
  almask : Nat
  lastSeq : Nat
  /-- SEQ, OPCODE, TAG and CRC of the most recently admitted packet (R355). -/
  lastPkt : Option (Nat × Nat × Nat × Nat)
  seqGap : Nat
  crcCnt : Nat
  refCnt : Nat
  dupCnt : Nat
  repLost : Nat
  log : Option LogWindow
  /-- When the last packet that passed its CRC check arrived (R363). -/
  lastGood : Nat
  deriving DecidableEq, Repr

/-- A session that is closed and empty. -/
def Session.none : Session :=
  ⟨false, 0, [], [], [], [], [], [], [], .none, 0, 0, 0, 0, 0, .none, 0, 0, 0, 0, 0, .none, 0⟩

/-- An event that waits in the recorder's queue (R461). -/
structure Event where
  code : Nat
  sev : Nat
  time : Nat
  bootn : Nat
  /-- The device mode when the event was raised. -/
  mode : Nat
  data : List Byte
  deriving DecidableEq, Repr

/-- A written event record (R459); the CRC is computed when the record is read. -/
structure Record where
  seq : Nat
  time : Nat
  bootn : Nat
  code : Nat
  sev : Nat
  mode : Nat
  supp : Nat
  lost : Nat
  data : List Byte
  /-- The record was written in the run in force (R462). -/
  inRun : Bool
  deriving DecidableEq, Repr

/-- The token bucket of an event code (R464). -/
structure Bucket where
  code : Nat
  /-- The code's own pair, or none where the default serves. -/
  own : Option (Nat × Nat)
  tokens : Nat
  /-- Events suppressed since the code's last written record. -/
  supp : Nat
  /-- The tick of the code's latest refill, plus 1; 0 before the first. -/
  last : Nat
  deriving DecidableEq, Repr

/-- One write that the NVS has been asked for (R454, R456). -/
structure SlotWrite where
  dir : Nat
  body : List Byte
  deriving DecidableEq, Repr

/-- One slot of the data store that holds a complete write (R453). -/
structure Slot where
  seq : Nat
  body : List Byte
  deriving DecidableEq, Repr

/-- The boot record's content (R52, R452). -/
structure BootRec where
  streak : Nat
  reason0 : Nat
  reason1 : Nat
  reason2 : Nat
  marker : Bool
  pendingReason : Nat
  bootn : Nat
  deriving DecidableEq, Repr

/-- The interrupt controller beside its RW fields: one bit per source, the priority stacks with the top first, and the per-core counters (R436 to R446). -/
structure Icu where
  pend : BitVec 128
  en : BitVec 128
  input : BitVec 128
  counts : List (Nat × Nat)
  stackSc : List (Nat × Nat)
  stackAc : List (Nat × Nat)
  deriving DecidableEq, Repr

/-- A published value that waits for a rail's next period boundary (R6, R115). -/
structure RailPending where
  rail : Nat
  key : Nat
  val : Nat
  deriving DecidableEq, Repr

/-- A RAIL_ON or RAIL_OFF whose completion entry is owed (R395); `port1` is the port's index plus 1, 0 where its session has closed. -/
structure RailWait where
  rail : Nat
  isOn : Bool
  port1 : Nat
  tag : Nat
  deriving DecidableEq, Repr

/-- A forecast outcome that waits for the return lane (R218, R219). -/
structure Fack where
  rail : Nat
  fid : Nat
  out : Nat
  score : Nat
  deriving DecidableEq, Repr

/-- A transform that waits for the FFT unit or runs on it (R340). -/
structure Spectrum where
  port : Nat
  tag : Nat
  job : Nat
  ch : Nat
  log2n : Nat
  win : Nat
  navg : Nat
  fmt : Nat
  deriving DecidableEq, Repr

/-- An update in progress (R65, R403, R404): one entry per begun image. -/
structure UpdateImage where
  type : Nat
  version : Nat
  il : Nat
  floor : Nat
  length : Nat
  crc : Nat
  written : Nat
  deriving DecidableEq, Repr

/-- An update in progress. -/
structure Update where
  bankB : Bool
  images : List UpdateImage
  port : Nat
  tag : Nat
  committing : Bool
  /-- The mode the update was entered from. -/
  source : Nat
  deriving DecidableEq, Repr

/-- The processor's named internal variables, beside the registers; each is an integer per instance and 0 unless written. -/
inductive Var where
  -- PWM channel: period count, half-period in force, slew of the next period, half-width Wr, edges in sub-ticks,
  -- trip latch of the period, armed output state (code + 1), BLANK in force, edge trips for CSA and PROT, PINLOST source
  | perCount | halfNow | slewAdj | pulseWr | edgeEr | edgeEf | tripLatch | ostArm | blankNow | csaTrip
  -- a trip input asserted inside the blanking, the shadow written since the reload, the dither step of the period (+ 1, 0 off), delays of the sampling instant in force,
  -- sampling instant of the main sample, the period's main sample is taken, end of the running conversion, the slope sample it makes (+ 1) and the value before it
  | tripWait | shadowNew | dithNow | sdlyNow | offsNow | sampAt | sampDone | convEnd | convSlope | slopeWas
  -- dead-time sets that a channel still uses since its rail has not taken the published ones: value + 1 by set * 64 + channel
  | heldDtr | heldDtf | heldMinp | heldMinoff
  -- the odd pin's two users stand published live
  | pairLive
  -- fine delay: map in use and new map by channel * 16 + code, a new map waits
  | fdMap | fdNew | fdHave
  -- PREF: tracked half-period with the correction of its phase (0 free), that without it, last SYNCI edge time, last period, valid periods, periods inside the lock window, phase error
  | prefHalf | prefBase | synciLast | synciM | synciValid | synciIn | synciErr
  -- PHM: slots of a rail, order of parking, periods since live, residual and plausibility counts, phases declared failed since the rail's boundary (+ 1) and the failed phase that a promoted one stands for (+ 1), shed reload count, balance integrator (2^-27),
  -- stable periods of a phase for learning, last bin and band, capacity parts
  | slotM | parkSeq | parkCtr | livePer | detRes | detPl | shedJ | tintFine | declNow | promNow | stablePer | lastBin | lastBand | susPeriod | cbRun | senseWin
  -- rail timers: deadline + 1, 0 when not running
  | tEndly | tPgdly | tHoff | tRetry | tDwell | tHold
  -- lookups of R185 in the hour: all and good; ACTIVE service time start; table changed since save
  | lookups | goodLookups | tableDirty
  -- rail: RAIL_ON / RAIL_OFF staged (1 on, 2 off) and published, start waits for live phases, stop waits for off phases
  | onStaged | onPub | starting | stopping | railTripped | cleanPer
  -- reference: value and time it was right at, target in force, slew in force, start value
  | refVal | refAt | refTgt | refSlew
  -- LE context: latched input, input waits, skip count, registers, accumulators, flags, stack depth and entries, previous duty, law state, consecutive exhaustions, step signal, SHREQ, trace, itot filter
  | vsense | inWait | inSkip | vreg | accX | accY | flagN | flagZ | flagV | stkDepth | stkEntry | dutyPrev | lawItf | lawI | lawD | lawE | lawHi | lawLo | budRow | stepNow | shreq | trace | vtNow | flipped | swapStaged | swapCopy
  -- Cue: capacity raised for a rail by reason (rail * 8 + reason, capacity + 1), THROTTLE pending by rail
  | capRsn | throttleDue
  -- PHM: charge-balance windows in a row with CBFL, declaration windows left for SENSEQ, table region counters, forecast target
  | cbWins
  -- the Hamper program's outputs
  | hamOut
  -- sessions: lease deadline and lease left while frozen, tick of an SC halt; port of each long operation
  | tLease | leaseLeft | haltAt | modePort | modeTag | modeWant | identPort | identTag | calPort | calTag | bistPort | bistTag | charPort | charTag
  -- forecast of a rail: arrival, close, decode ticks, confidence, step, duration, lift time and target, ramp start deadline, ITOT at decode; lift segment in Q4.28; kick end and value in Q4.28; VID
  | fcTa | fcClose | fcC | fcDi | fcPre | fcLift | tFcRamp | fcItot | liftT0 | liftV0 | liftT1 | liftV1 | kickEnd | kickVal | lastVid
  -- return lane: TRAIN reply and its versions, STATUS (1 interval, 2 mode), NAK, ECHO, REST notices (PH + 1 each, two bits, oldest lowest), TELEM by rail, interval timers (tick + 1)
  | trainDue | trainVal | tTelem | tStatus | tThr | statusDue | nakDue | nakVal | echoDue | echoVal | restDue | telemDue | telemNext | lastCueSeq | cueSeqKnown
  -- rail outputs and stopping: EN pin, low-side hold, retry at the next boundary, curtain turn waits, phases forced at reload, CHARACTERISE leaves
  | en | ovHold | hicRetry | curDown | charLeave | burst | intEntry
  -- curtain and device reset: next slot, tick the latest rail was started + 1, gap deadline, cause of the reset that follows + 1, reset deadline, mode SAFESTOP returns to, latch raised in BOOT
  | curTurn | curStart | tGap | curReset | tReset | safeFrom | bootLatch
  -- IB and Hamper: lost, hold-up start, HOLDMAX and TQUAL deadlines, SHAPING exit ramp, last currents, IUP of the last update, shaping target and debt, latch trips, readings for R258
  | ibLost | holdFrom | tHoldmax | tQual | hamRamp | hamRampDone | hamIhIb | hamIup | hamIupU | hamIhv | hamIi | hamItgt | hamQd | hamTrips | hamTripped | rvHist | rvCount | tHdr | hdrAt | ipreFrom | ipreS | vibNow | vrvNow | hamDir
  -- comparator, limit and sensor outputs in their starting state
  | cmpStart | chStart | dsStart | thmStartSd | thmStartThr
  -- estimator: saved SMODE + 1, the Hamper has left ISOLATE since reset, a latest anchor is known, its SOC and charge
  | smodeSave | hamLeft | a1Known | a1soc | a1q
  -- capture: release count of a token, samples stored since arming and at the trigger by channel, averaging sums, last stored value, decimation count, DMODE state, stall deadline, next core tick (+ 1) and present word of a comparator channel, native rate at arming as a fraction
  | tokEpoch | capTot | capTrig | capAcc | capLast | capDec | capSt | capHave | capAt | capNext | capWas | capNum | capDen | identRunning
  -- estimator: latest reservoir current in mA, rest window ends deadline
  | irvMa | tRelax | tRest | tRestStart | tGrant | gotRv | relaxDone
  -- tick of the latest anchor + 1
  | anchorAt
  -- port (index + 1) and tag of a RESET that waits for a CURTAIN
  | resetPort | resetTag
  -- comparators: filtered output, UV policy already acted for this assertion
  | cmpFilt | uvDone
  -- boot: PLL has locked since the release, IB qualified, count of BOOT, run accounting, cause of MINIMAL
  | pllSeen | ibQual | bootRun | minCause
  -- PWM: rise and fall of the switch that W drives, fall and rise of the other, in 1/16 tick
  | riseAt | fallAt | loFall | loRise
  -- LE: context's waiting input was latched before its flip; tick of the latest latch; perturbation in Q4.28; Hamper: CHARGE has tapered to zero
  | oldBank | latchAt | pert | chargeDone
  -- converters: cycle count, solo schedule and factor band (+ 1) in force since the cycle's start, check readings and range flags, rotation; housekeeping round; first band; coulomb counter; band of the calibration, factors and the bands in use and the tick when it began, end of the step in which it was aborted; slope samples
  | vscCycle | soloNow | vscBand | calOfs | calGain | calVscBand | calAt | calStop | chkVa | chkVb | chkOutA | chkOutB | chkCount | chkRot | hkaRounds | hkaCnt | bandKnown | cctAcc | cctN | cctLast | calBand | slopeHave
  -- estimator: ledger sums, charge, uncertainty and lifetime charge in 2^-32 mC; counter value counted up to, updates missed; earlier readings, fine resistance, tail current since, rest anchor taken, U of a denial, charge at the last timed record; table in force
  | gIn | gOut | gLoss | gStored | gU | gThru | gAcc | gMissed | rvPrev | dcrFine | fullSince | restTaken | denyU | recStored | ocvTab
  -- deadline of a brown-out's final record + 1
  | tFinal
  -- watchdogs by core: tick of the latest kick + 1, timeout in force, pre-warned; loads of the loop engine's memories
  | wdtAt | wdtTmo | wdtPre | leEpoch
  -- Cue: latest slew command of a rail, window fields at a forecast's decoding, SEQ of the next return packet
  | cueSlew | fcWin | cueTxSeq
  -- identification: tick the present chip began + 1, chips begun, generator register, sums and counts of the chip's results with the latest means, events that spoil the records (bit 0 band H, bit 1 band L),
  -- live phases at the latest chip, records ended, completed runs, staged bank written by a host since the latest swap, swap of the proposal under way, retry ticks + 1 of an automatic retune
  | identChipAt | identChips | lfsr | identSum | identCnt | identMean | identSumI | identCntI | identMeanI | identBad | identLive | identRecH | identRecL | identSeq | bankTouched | identOwn | tAuto | autoUntil
  -- first token + 1, tokens and bytes of a channel's spectrum output; charge share of a phase in the present balance window
  | specTok | specNtok | specBytes | cbShare
  -- two-wire: failed polls in a row, restarts of the running transaction, discovery waits for the running transaction
  | pollFails | twxRestarts | rediscWait
  -- debug: instruction register of the TAP, a pin instruction acts, next word of a halted lane; a wake request's tick + 1
  | tapIr | pinAct | lanePc | wakeAt
  -- health: baselines have been set or restored
  | baseKnown
  -- SRAM contents lost at power-on; a source that may also be delivered to the core it does not target
  | sramEpoch | fbSrc
  -- PHM: a PHASE_MAP for a rail, and the clear of a failed mark, are staged
  | mapStaged | clrStaged
  -- characterisation: rails, bins, the rail in turn + 1, the loop runs again for a band entered meanwhile
  | charMask | charLo | charHi | charTurn | charAgain
  deriving DecidableEq, Repr

/-- Why the block stops with a fault. -/
inductive Fault where
  /-- Raised by no command: the spec gives the block no condition under which it stops; safe. -/
  | none
  deriving DecidableEq, Repr

/-- Why a command is refused by the model. -/
inductive Refusal where
  /-- The command has no meaning in the model; raised only by an arm of `exec` that has not been written; safe. -/
  | notModelled (mnemonic : String)
  /-- A list operand does not have the length the command's own rule fixes (one entry per converter, stage, test or tap), so the word stands for no event of the part; raised by the commands whose operand is such a list; safe. -/
  | illFormed
  deriving DecidableEq, Repr

/-- The state of the block. -/
structure State where
  power : Power
  /-- LE ticks (2.5 ns) since reset release (log entry 2). -/
  now : Nat
  /-- Register fields that do not hold their reset value: key and value, keys rising. -/
  regs : List (Nat × Nat)
  /-- Staged values of RWS fields that differ from the value last published (R6, R8). -/
  staged : List (Nat × Nat)
  /-- Published values that wait for a rail boundary, oldest first (R115). -/
  pubq : List RailPending
  /-- Values armed at a rail boundary that a channel applies at its reload: channel, key, value (R115). -/
  armed : List (Nat × Nat × Nat)
  /-- Internal variables that are not 0: key and value, keys rising. -/
  vars : List (Nat × Int)
  /-- Bytes that have been written, by absolute address, addresses rising (R27). -/
  mem : List Host.Cell
  icu : Icu
  twa : Session
  twb : Session
  hsp : Session
  /-- The owner's port (R374). -/
  owner : Option Port
  /-- Commands of the old owner run out before the new owner's (R376). -/
  draining : Option Port
  /-- A GRANT that waits: the chosen claimant and the command (R375). -/
  granting : Option (Port × Cmd)
  /-- A RETUNE that waits for its swap: the session and the command (R173). -/
  retuning : Option (Port × Cmd)
  /-- Orders replies and claims by time. -/
  finCtr : Nat
  /-- The event code of the latest record that set EVENT or FAULT (R402). -/
  evCode : Nat
  events : List Event
  ring : List (Nat × Record)
  /-- SEQ of the newest record written (R460). -/
  recSeq : Nat
  buckets : List Bucket
  /-- LOST of the next record (R463). -/
  recLost : Nat
  slots : List (Nat × Slot)
  nvsq : List SlotWrite
  /-- The write that runs (R456). -/
  nvsRun : Option SlotWrite
  boot : BootRec
  update : Option Update
  /-- Forecast outcomes that wait for the return lane, at most eight (R219). -/
  facks : List Fack
  /-- Bytes of the packet last started on the return lane (R218). -/
  cueOut : List Byte
  /-- Transforms requested by hosts, in order; the first runs (R340). -/
  spectra : List Spectrum
  /-- RAIL_ON and RAIL_OFF commands that have been accepted and have not completed (R395). -/
  railWaits : List RailWait
  /-- Evaluated charge-balance windows, newest first, at most 4,096: the measured charge and each active phase's share (R342). -/
  cbHist : List (Int × List (Nat × Int))
  /-- Identification filter state, record sums and proposed words, by index (R163, R164, R172). -/
  ident : List (Nat × Int)
  /-- IDENT_RES, by offset, the bytes that are not 0 (R177). -/
  identRes : List (Nat × Nat)
  /-- CAP_HLTH, by offset, the bytes that are not 0 (R351). -/
  health : List (Nat × Nat)
  /-- Calibration factor words held for the bands, by band and index (R101). -/
  calSets : List (Nat × Nat)
  /-- CUR of the latest main samples of a channel, newest first, at most 128 (R79). -/
  csaHist : List (Nat × List Int)
  /-- The latest conversions of a housekeeping input, newest first, at most eight (R94). -/
  hkaHist : List (Nat × List Int)
  /-- Bytes a host has read in the latest bus transaction (the model's own output). -/
  busOut : List Byte
  /-- The model's own counter that free values are read at (log entry 1). -/
  freeCtr : Nat
  pending : List Instr
  deriving DecidableEq, Repr

/-- Right after power-on reset, RESET_N still low (R42, R48): every register field at its reset value, no session open, nothing recorded, memory with nothing listed, the boot record as a store never written (log entries 6, 8). -/
def State.reset : State where
  power := .held
  now := 0
  regs := []
  staged := []
  pubq := []
  armed := []
  vars := []
  mem := []
  icu := ⟨0, 0, 0, [], [], []⟩
  twa := Session.none
  twb := Session.none
  hsp := Session.none
  owner := .none
  draining := .none
  granting := .none
  retuning := .none
  finCtr := 0
  evCode := 0
  events := []
  ring := []
  recSeq := 0
  buckets := []
  recLost := 0
  slots := []
  nvsq := []
  nvsRun := .none
  boot := ⟨0, 0, 0, 0, false, 0, 0⟩
  update := .none
  facks := []
  cueOut := []
  spectra := []
  railWaits := []
  cbHist := []
  ident := []
  identRes := []
  health := []
  calSets := []
  csaHist := []
  hkaHist := []
  busOut := []
  freeCtr := 0
  pending := []

end Sys2Proof.Machine
end

