-- ==== Sys2Proof/Machine/Ops.lean ====
section
/-!
DEFINITION. The named operations over the stores of the state: keyed lists in one canonical form, register fields, staged values, internal variables, memory, interrupt sources, free values, time, and the way a meaning answers.
-/

namespace Sys2Proof.Machine

/-- The value listed at a key. -/
def kvFind {α : Type} (k : Nat) : List (Nat × α) → Option α
  | [] => none
  | (j, v) :: l => if j = k then some v else kvFind k l

/-- The list with a key's entry removed. -/
def kvErase {α : Type} (k : Nat) : List (Nat × α) → List (Nat × α)
  | [] => []
  | (j, v) :: l => if j = k then kvErase k l else (j, v) :: kvErase k l

/-- The list with a key's entry set, kept rising. -/
def kvPut {α : Type} (k : Nat) (x : α) : List (Nat × α) → List (Nat × α)
  | [] => [(k, x)]
  | (j, v) :: l => if j < k then (j, v) :: kvPut k x l else if j = k then (k, x) :: l else (k, x) :: (j, v) :: l

/-- Keys strictly rising from `lo`. -/
def kvRising {α : Type} : Nat → List (Nat × α) → Bool
  | _, [] => true
  | lo, (k, _) :: l => decide (lo ≤ k) && kvRising (k + 1) l

/-- The field of the register map that a store key names, with its instance. -/
def fldReset (f : Fld) (i : Nat) : Nat := f.rst i % 2 ^ f.width

/-- What an unlisted byte of memory is known to read as: 0 in the phase characterisation table, which BOOT restores as zeros (R200), nothing elsewhere (log entry 5). -/
def memDefault (a : Nat) : Option Byte := if 0x90020000 ≤ a ∧ a < 0x90028000 then some 0 else none

/-- The canonical form of memory: addresses strictly rising, and no byte listed that an unlisted address is known to read as. -/
def Memory.wf (m : List Host.Cell) : Bool := kvRising 0 m && m.all (fun x => memDefault x.1 != some x.2)

/-- The address whose power-up content an unlisted byte shows: both coefficient banks start with the same content (R147). -/
def homeAddr (a : Nat) : Nat := if 0x90010800 ≤ a ∧ a < 0x90011000 then a - 0x800 else a

namespace State

/-- The value of a register field that the hardware acts on. -/
def rd (s : State) (f : Fld) (i : Nat := 0) : Nat := (kvFind (f.key i) s.regs).getD (fldReset f i)

/-- The same value read as two's complement. -/
def rdS (s : State) (f : Fld) (i : Nat := 0) : Int := sgn f.width (s.rd f i)

/-- A one-bit field. -/
def on (s : State) (f : Fld) (i : Nat := 0) : Bool := s.rd f i != 0

/-- Hardware sets a register field; the value keeps the field's width, and a value equal to the reset value leaves no entry. -/
def wr (s : State) (f : Fld) (i : Nat) (v : Nat) : State :=
  { s with regs := if v % 2 ^ f.width = fldReset f i then kvErase (f.key i) s.regs else kvPut (f.key i) (v % 2 ^ f.width) s.regs }

/-- Hardware sets a field to a signed value in two's complement. -/
def wrS (s : State) (f : Fld) (i : Nat) (v : Int) : State := s.wr f i (code f.width v)

/-- Hardware sets a one-bit field. -/
def wrB (s : State) (f : Fld) (i : Nat) (b : Bool) : State := s.wr f i (b2n b)

/-- A saturating counter field counts `n`. -/
def bump (s : State) (f : Fld) (i : Nat) (n : Nat := 1) : State := s.wr f i (min (s.rd f i + n) (2 ^ f.width - 1))

/-- The value of a field that was published last: it waits for a boundary, or is armed for a reload, or is in force (R6, R115). -/
def published (s : State) (f : Fld) (i : Nat := 0) : Nat :=
  match (s.pubq.filter (fun x => x.key == f.key i)).getLast? with
  | some x => x.val
  | none => match (s.armed.filter (fun x => x.2.1 == f.key i)).getLast? with
    | some x => x.2.2
    | none => s.rd f i

/-- The staged value of a field: the value last written (R6, R8); with nothing staged, the one published last. -/
def stg (s : State) (f : Fld) (i : Nat := 0) : Nat := (kvFind (f.key i) s.staged).getD (s.published f i)

/-- A write stages a field (R6). -/
def stage (s : State) (f : Fld) (i : Nat) (v : Nat) : State := { s with staged := kvPut (f.key i) (v % 2 ^ f.width) s.staged }

/-- An internal variable. -/
def v (s : State) (x : Var) (i : Nat := 0) : Int := (kvFind (x.ctorIdx * 1024 + i) s.vars).getD 0

/-- An internal variable set; 0 leaves no entry. -/
def setV (s : State) (x : Var) (i : Nat) (n : Int) : State :=
  { s with vars := if n = 0 then kvErase (x.ctorIdx * 1024 + i) s.vars else kvPut (x.ctorIdx * 1024 + i) n s.vars }

/-- An internal flag. -/
def vOn (s : State) (x : Var) (i : Nat := 0) : Bool := s.v x i != 0

/-- An internal flag set. -/
def setOn (s : State) (x : Var) (i : Nat) (b : Bool) : State := s.setV x i (b2n b)

/-- An internal variable as a natural number. -/
def vn (s : State) (x : Var) (i : Nat := 0) : Nat := (s.v x i).toNat

/-- The content that an unwritten byte shows: the capture RAM's changes, unknown, each time its token is released (R332); the loop engine's memories hold what the loop image or the boot ROM loaded, by load (R519); the SRAM loses its content with the supply. -/
def contentKey (s : State) (a : Nat) : Nat :=
  if 0x20000000 ≤ a ∧ a < 0x20080000 then a + 2 ^ 32 * s.vn .sramEpoch else
  if 0x91000000 ≤ a ∧ a < 0x91040000 then a + 2 ^ 32 * s.vn .tokEpoch ((a - 0x91000000) / 4096)
  else if 0x90000000 ≤ a ∧ a < 0x90011000 then homeAddr a + 2 ^ 32 * s.vn .leEpoch
  else a

/-- The byte at an address; a byte never written reads what it held at power-up (log entry 5). -/
def byteAt (s : State) (a : Nat) : Byte := (kvFind a s.mem).getD ((memDefault a).getD (Config.powerUpByte (s.contentKey a)))

/-- A byte written; writing the value an unlisted address is known to read as leaves no entry. -/
def putByte (s : State) (a : Nat) (b : Byte) : State :=
  { s with mem := if memDefault a = some b then kvErase a s.mem else kvPut a b s.mem }

/-- `n` bytes from an address on. -/
def bytesAt (s : State) (a n : Nat) : List Byte := (List.range n).map (fun i => s.byteAt (a + i))

/-- Bytes written from an address on. -/
def putBytes (s : State) (a : Nat) (bs : List Byte) : State := (bs.zipIdx).foldl (fun s p => s.putByte (a + p.2) p.1) s

/-- The 32-bit word at an address. -/
def wordAt (s : State) (a : Nat) : Nat := leNat (s.bytesAt a 4)

/-- A 32-bit word written. -/
def putWord (s : State) (a w : Nat) : State := s.putBytes a (leBytes 4 w)

/-- A free value and the state whose counter has moved on (log entry 1). -/
def free (s : State) : Nat × State := (Config.freeValue s.freeCtr, { s with freeCtr := s.freeCtr + 1 })

/-- The session of a port. -/
def sess (s : State) : Port → Session
  | .twa => s.twa
  | .twb => s.twb
  | .hsp => s.hsp

/-- The session of a port set. -/
def setSess (s : State) (p : Port) (x : Session) : State :=
  match p with
  | .twa => { s with twa := x }
  | .twb => { s with twb := x }
  | .hsp => { s with hsp := x }

/-- The session of a port changed. -/
def updSess (s : State) (p : Port) (f : Session → Session) : State := s.setSess p (f (s.sess p))

/-- Every session changed. -/
def updAll (s : State) (f : Session → Session) : State := ((s.updSess .twa f).updSess .twb f).updSess .hsp f

/-- Time moves on to `t`, never back. -/
def upTo (s : State) (t : Nat) : State := { s with now := max s.now t }

/-- The stack of a core, the top entry first: source and running priority (R437). -/
def stack (s : State) : CoreId → List (Nat × Nat)
  | .sc => s.icu.stackSc
  | .ac => s.icu.stackAc

/-- The stack of a core set. -/
def setStack (s : State) (c : CoreId) (l : List (Nat × Nat)) : State :=
  match c with
  | .sc => { s with icu := { s.icu with stackSc := l } }
  | .ac => { s with icu := { s.icu with stackAc := l } }

end State

/-- The sources that R435 reserves; they never become pending. -/
def icuReserved : List Nat :=
  [3, 4, 5, 6, 7, 15, 21, 22, 23, 39, 63, 67, 68, 69, 70, 71, 77, 78, 79, 87, 91, 92, 93, 94, 95, 102, 103, 111, 117, 118, 119]

/-- One event on a source: PEND set, COUNT counts one up to 255 (R436). -/
def Icu.hit (u : Icu) (n : Nat) : Icu :=
  { u with pend := u.pend ||| BitVec.twoPow 128 n, counts := kvPut n (min ((kvFind n u.counts).getD 0 + 1) 255) u.counts }

namespace State

/-- An event on a source that its block signals as one change of the input (R435): an edge source takes it; a source that senses the level sees the input high for one tick, so COUNT counts its rise and PEND does not stay (R436). -/
def irq (s : State) (n : Nat) : State :=
  if n ∈ icuReserved then s
  else if s.rd Reg.ICU_SENSE n = 0 then { s with icu := { s.icu.hit n with pend := s.icu.pend } }
  else { s with icu := s.icu.hit n }

/-- A value of the identification store. -/
def idv (s : State) (k : Nat) : Int := (kvFind k s.ident).getD 0

/-- A proposal with the factor `g` in 1/4096 lies outside the envelope (R172); a BASEKP of 0 has no ratio and counts as outside (log entry 23). -/
def outOfEnvelope (s : State) (r : Nat) (g newKp : Int) (sat : Bool) : Bool :=
  let base := sgn 32 (s.rd Reg.LE_BASEKP r)
  let x := if base < 0 then -newKp else newKp
  !s.on Reg.LE_ENV r || decide ((s.rd Reg.LE_GSTEP r : Int) * 4096 < (g - 4096).natAbs * 100) || base == 0 ||
    decide (x * 4096 < base.natAbs * (s.rd Reg.LE_GLO r : Int)) || decide (base.natAbs * (s.rd Reg.LE_GHI r : Int) < x * 4096) || sat

/-- OOE follows the envelope for as long as a proposal stands (R173, R174): its new KP is kept at 900, its factor at 906, a saturated word at 907. -/
def refreshOoe (s : State) : State :=
  if s.on Reg.IDENT_STAT_PROPV then s.wrB Reg.IDENT_STAT_OOE 0 (s.outOfEnvelope (s.rd Reg.IDENT_CFG_RAIL) (s.idv 906) (s.idv 900) (s.idv 907 != 0)) else s

end State

/-- The present input of a source is `b`: the edge selected by SENSE, or the level, sets PEND; COUNT counts the edge, or the rise of the level (R436). -/
def Icu.sample (u : Icu) (sense n : Nat) (b : Bool) : Icu :=
  let was := u.input.getLsbD n
  let u' := { u with input := if b then u.input ||| BitVec.twoPow 128 n else u.input &&& ~~~ BitVec.twoPow 128 n }
  if sense = 0 then
    if b && !was then u'.hit n else if b then { u' with pend := u'.pend ||| BitVec.twoPow 128 n }
    else if was then { u' with pend := u'.pend &&& ~~~ BitVec.twoPow 128 n } else u'
  else if (b && !was && (sense = 1 || sense = 3)) || (!b && was && (sense = 2 || sense = 3)) then u'.hit n
  else u'

end Sys2Proof.Machine
end

