-- ==== Sys2Proof/Machine/Events.lean ====
section
/-!
DEFINITION. Raising events, the causes of ALERT_N, the two-slot writes of the data store, and the placing of event records (R378, R450 to R465).
-/

namespace Sys2Proof.Machine

/-- Serial numbers of records run from 1 to this value (R460). -/
def recSeqMax : Nat := 0xFFFFFFFE

namespace State

/-- The device mode (R40). -/
def mode (s : State) : Nat := s.rd Reg.SYS_MODE_MODE

/-- A core is halted by the debugger. -/
def coreHalted (s : State) : CoreId → Bool
  | .sc => s.on Reg.DBG_STAT_SCHALTED
  | .ac => s.on Reg.DBG_STAT_ACHALTED

/-- An event is lost: LOST and LOSTT count, and the next written record carries it (R463). -/
def loseEvent (s : State) : State :=
  let s := (s.bump Reg.EVR_STAT_LOST 0).wr Reg.EVR_BOOK_LOSTT 0 (s.rd Reg.EVR_BOOK_LOSTT + 1)
  { s with recLost := min (s.recLost + 1) 65535 }

/-- An event is raised: it enters the queue of 64, or is lost when the queue is full (R461, R465). -/
def event (s : State) (code sev : Nat) (data : List Byte := []) : State :=
  let s := s.wr Reg.EVR_BOOK_RAISED 0 (s.rd Reg.EVR_BOOK_RAISED + 1)
  if s.events.length < 64 then
    { s with events := s.events ++ [⟨code, sev, s.now / 400, s.boot.bootn, s.mode, (data ++ List.replicate 12 0).take 12⟩] }
  else s.loseEvent

/-- Causes set in every open session (R378). -/
def alert (s : State) (b : Nat) : State :=
  s.updAll (fun x => if x.isOpen then { x with causes := if bit x.causes b then x.causes else x.causes + 2 ^ b } else x)

/-- A cause bit set in one session (R378). -/
def alertPort (s : State) (p : Port) (b : Nat) : State :=
  s.updSess p (fun x => if x.isOpen then { x with causes := if bit x.causes b then x.causes else x.causes + 2 ^ b } else x)

/-- FAULT set in every open session, with the record's code (R378, R402). -/
def alertFault (s : State) (code : Nat) : State := { s.alert 5 with evCode := code }

/-- EVENT set in every open session, with the record's code (R378, R402). -/
def alertEvent (s : State) (code : Nat) : State := { s.alert 6 with evCode := code }

/-- How many records ago a sequence number was written (R460). -/
def recAge (s : State) (q : Nat) : Nat := (s.recSeq + recSeqMax - q) % recSeqMax

/-- The held record with the lowest SEQ among those that `ok` admits, with its slot (R462). -/
def oldestRec (s : State) (ok : Record → Bool) : Option (Nat × Record) :=
  s.ring.foldl (fun a x => if ok x.2 then
    match a with
    | none => some x
    | some y => if s.recAge y.2.seq < s.recAge x.2.seq then some x else a
    else a) none

/-- The lowest-numbered record slot that holds no record (R462). -/
def freeRecSlot (s : State) : Option Nat :=
  let n := s.ring.foldl (fun n x => if x.1 = n then n + 1 else n) 0
  if n < 4096 then some n else none

/-- BOOT, MINIMAL, REHEARSAL, CHARACTERISE and UPDATE are stop modes (R462). -/
def stopMode (m : Nat) : Bool := m == 1 || m == 2 || m == 9 || m == 10 || m == 11

/-- The slot a record of severity `sev` goes to, and whether it overwrites one (R462). -/
def recTarget (s : State) (sev : Nat) : Option (Nat × Bool) :=
  match s.freeRecSlot with
  | some n => some (n, false)
  | none => (s.oldestRec (fun r => r.sev ≤ sev && !(s.on Reg.EVR_STAT_RUN && r.inRun))).map (fun x => (x.1, true))

/-- The bucket of a code; that of a code never seen is as reset filled it (R464). -/
def bucket (s : State) (c : Nat) : Bucket :=
  (s.buckets.find? (fun b => b.code == c)).getD ⟨c, none, min (fldReset Reg.EVR_POL_BURST 0) (s.rd Reg.EVR_POL_BURST), 0, 0⟩

/-- The bucket of a code set. -/
def setBucket (s : State) (b : Bucket) : State :=
  { s with buckets := s.buckets.filter (fun x => x.code != b.code) ++ [b] }

/-- The rate and depth in force for a bucket (R464). -/
def bucketPair (s : State) (b : Bucket) : Nat × Nat := b.own.getD (s.rd Reg.EVR_POL_RATE, s.rd Reg.EVR_POL_BURST)

/-- A record is written in its slot with the next SEQ, and SUPP and LOST restart (R459, R460, R462). -/
def putRecord (s : State) (e : Event) (t : Nat × Bool) (supp : Nat) : State :=
  let q := if s.recSeq ≥ recSeqMax then 1 else s.recSeq + 1
  let r : Record := ⟨q, e.time, e.bootn, e.code, e.sev, e.mode, min supp 255, s.recLost, e.data, s.on Reg.EVR_STAT_RUN⟩
  let s := s.wr Reg.EVR_BOOK_WRITTEN 0 (s.rd Reg.EVR_BOOK_WRITTEN + 1)
  let s := if t.2 then s.bump Reg.EVR_STAT_OVW 0 else s
  let s : State := { s with ring := kvPut t.1 r s.ring, recSeq := q, recLost := 0 }
  if s.on Reg.EVR_STAT_RUN ∧ s.ring.length = 4096 ∧ s.ring.all (fun x => x.2.inRun) then s.wr Reg.EVR_STAT_FULLF 0 1 else s

/-- The oldest queued event leaves the queue: written, suppressed by its bucket, or lost (R462 to R465). -/
def writeEvent (s : State) : State :=
  match s.events with
  | [] => s
  | e :: rest =>
    let s := { s with events := rest }
    let b := s.bucket e.code
    if e.sev < 3 ∧ b.tokens = 0 then
      (s.setBucket { b with supp := b.supp + 1 }).wr Reg.EVR_BOOK_SUPPR 0 (s.rd Reg.EVR_BOOK_SUPPR + 1)
    else
      match s.recTarget e.sev with
      | none => s.loseEvent
      | some t => (s.putRecord e t b.supp).setBucket { b with tokens := if e.sev < 3 then b.tokens - 1 else b.tokens, supp := 0 }

/-- `a` is ahead of `b` in serial order modulo 2^32 (R455). -/
def serialAhead (a b : Nat) : Bool := let d := (a + 2 ^ 32 - b) % 2 ^ 32; d != 0 && decide (d < 2 ^ 31)

/-- The slot (0 or 1) that holds the newest valid write of a directory entry (R454, R455). -/
def newestSlot (s : State) (dir : Nat) : Option (Nat × Slot) :=
  match kvFind (2 * dir) s.slots, kvFind (2 * dir + 1) s.slots with
  | none, none => none
  | some a, none => some (0, a)
  | none, some b => some (1, b)
  | some a, some b => if serialAhead b.seq a.seq then some (1, b) else some (0, a)

/-- The slot that the next write of a directory entry targets: not the newest valid one (R454). -/
def targetSlot (s : State) (dir : Nat) : Nat :=
  match s.newestSlot dir with
  | some (0, _) => 1
  | _ => 0

/-- The SEQ that the next write of a directory entry carries (R454). -/
def nextSlotSeq (s : State) (dir : Nat) : Nat :=
  match s.newestSlot dir with
  | none => 1
  | some (_, x) => if x.seq ≥ 0xFFFFFFFF then 1 else x.seq + 1

/-- A write starts: its target slot loses its CRC (R454). -/
def startSlotWrite (s : State) (w : SlotWrite) : State :=
  { s with slots := kvErase (2 * w.dir + s.targetSlot w.dir) s.slots, nvsRun := some w }

/-- A write ends: its slot is valid with the next SEQ (R454). -/
def endSlotWrite (s : State) (w : SlotWrite) : State :=
  { s with slots := kvPut (2 * w.dir + s.targetSlot w.dir) ⟨s.nextSlotSeq w.dir, w.body⟩ s.slots, nvsRun := none }

/-- A brown-out's final state record that has not started within 100 µs is not started (R283). -/
def dropLate (s : State) : State :=
  if s.vn .tFinal ≠ 0 ∧ s.vn .tFinal ≤ s.now then { s.setV .tFinal 0 0 with nvsq := s.nvsq.eraseP (fun w => w.dir == 75) } else s

/-- The first queued write starts when the store is free and writing is not inhibited (R456, R457). -/
def kickNvs (s : State) : State :=
  let s := s.dropLate
  match s.nvsRun, s.nvsq with
  | none, w :: l => if s.on Reg.NVS_STAT_INHIBIT then s else { (if w.dir = 75 then s.setV .tFinal 0 0 else s).startSlotWrite w with nvsq := l }
  | _, _ => s

/-- A slot write is requested: it queues behind the others (R456). -/
def queueSlot (s : State) (dir : Nat) (body : List Byte) : State :=
  kickNvs { s with nvsq := s.nvsq ++ [SlotWrite.mk dir body] }

/-- A slot write made at once, by the boot ROM or by firmware that waits for it (R52). -/
def writeSlotNow (s : State) (dir : Nat) (body : List Byte) : State := (s.startSlotWrite ⟨dir, body⟩).endSlotWrite ⟨dir, body⟩

/-- The boot record's body; the manual gives its content and its 16 bytes, not their places (log entry 9). -/
def bootBody (b : BootRec) : List Byte :=
  leBytes 1 b.streak ++ leBytes 1 b.reason0 ++ leBytes 1 b.reason1 ++ leBytes 1 b.reason2 ++ leBytes 1 (b2n b.marker) ++
    leBytes 1 b.pendingReason ++ leBytes 2 b.bootn ++ List.replicate 8 0

/-- The boot record is written under the two-slot rule (R52). -/
def writeBoot (s : State) (b : BootRec) : State :=
  let s' := s.writeSlotNow 64 (bootBody b)
  { s' with boot := b, nvsRun := s.nvsRun }

end State

end Sys2Proof.Machine
end

