-- ==== Sys2Proof/Machine/Rails.lean ====
section
/-!
DEFINITION. Rails and the phases that belong to them: states, lead channel, half-periods in force, the reference, and the way published values reach their fields (R68 to R70, R104, R115, R120, R137, R178 to R182).
-/

namespace Sys2Proof.Machine

/-- Rail state codes of SYS_RAILST (R70). -/
def railDisabled : Nat := 0
def railRamp : Nat := 1
def railRegulate : Nat := 2
def railHiccup : Nat := 3
def railFaultOff : Nat := 4

/-- The state field of a rail (R70). -/
def stateFld : Nat → Fld
  | 0 => Reg.SYS_RAILST_STATE_A
  | 1 => Reg.SYS_RAILST_STATE_B
  | 2 => Reg.SYS_RAILST_STATE_C
  | _ => Reg.SYS_RAILST_STATE_D

/-- One volt in the unit in which references are kept exactly: 0.25 µV is 2^20 and one Q4.28 step is 15,625 (R137, log entry 10). -/
def volt : Int := 4000000 * 2 ^ 20

/-- The reference that a voltage code stands for: 0.5 mV a step from 0.200 V (R5, R137). -/
def codeVolts (c : Nat) : Int := (c : Int) * (volt / 2000) + volt / 5

/-- The field that a store key names. -/
def fldOfKey (k : Nat) : Option Fld :=
  (fams.find? (fun f => f.obj == k / 131072)).bind (fun f => f.fields.find? (fun x => x.word == k / 8192 % 16 && x.lo == k / 256 % 32))

namespace State

/-- The state of a rail (R70). -/
def railState (s : State) (r : Nat) : Nat := s.rd (stateFld r)

/-- A rail is live in RAMP, REGULATE and HICCUP (R68). -/
def railLive (s : State) (r : Nat) : Bool := let x := s.railState r; x == railRamp || x == railRegulate || x == railHiccup

/-- Some rail is live (R68). -/
def anyLive (s : State) : Bool := (List.range 4).any s.railLive

/-- The rail ramps down (R70). -/
def rampingDown (s : State) (r : Nat) : Bool := bit (s.rd Reg.SYS_RAILST_DOWN) r

/-- The rail state set. -/
def setRail (s : State) (r st : Nat) : State := s.wr (stateFld r) 0 st

/-- The DOWN bit of a rail set (R70). -/
def setDown (s : State) (r : Nat) (b : Bool) : State :=
  let m := s.rd Reg.SYS_RAILST_DOWN
  s.wr Reg.SYS_RAILST_DOWN 0 (if b == bit m r then m else if b then m + 2 ^ r else m - 2 ^ r)

/-- The main phases assigned to a rail, rising (R181). -/
def assigned (s : State) (r : Nat) : List Nat := (List.range 32).filter (fun c => s.on Reg.PHM_ASSIGN c && s.rd Reg.PHM_RAIL c == r)

/-- The phases of a rail with a role (R178). -/
def phasesIn (s : State) (r role : Nat) : List Nat := (s.assigned r).filter (fun c => s.rd Reg.PHM_ROLE c == role)

def active (s : State) (r : Nat) : List Nat := s.phasesIn r 1
def parked (s : State) (r : Nat) : List Nat := s.phasesIn r 2
def understudies (s : State) (r : Nat) : List Nat := s.phasesIn r 3

/-- The lead channel: the lowest-numbered assigned phase that is not failed; H0 leads the Hamper, here rail 4 (R115). -/
def lead (s : State) (r : Nat) : Option Nat :=
  if r = 4 then some 32 else ((s.assigned r).filter (fun c => s.rd Reg.PHM_ROLE c != 4)).head?

/-- The rail of a channel; 4 for the Hamper phases. -/
def railOf (s : State) (c : Nat) : Option Nat :=
  if 32 ≤ c then some 4 else if s.on Reg.PHM_ASSIGN c then some (s.rd Reg.PHM_RAIL c) else none

/-- The half-period of PREF: the tracked one, or that of PWM_REF (R123, R124). -/
def prefHalf (s : State) : Nat := if s.vn .prefHalf = 0 then s.rd Reg.PWM_REF_PRD else s.vn .prefHalf

/-- The half-period that a channel takes by its sync source (R120): its own PRD, PREF's, or the one in force on the channel below it. -/
def srcHalf (s : State) : Nat → Nat
  | 0 => if s.rd Reg.PWM_SYNCSEL 0 = 1 then s.prefHalf else s.rd Reg.PWM_PRD 0
  | c + 1 =>
    if s.rd Reg.PWM_SYNCSEL (c + 1) = 1 then s.prefHalf
    else if s.rd Reg.PWM_SYNCSEL (c + 1) = 2 ∧ c + 1 ≠ 32 then (if s.vn .halfNow c = 0 then s.srcHalf c else s.vn .halfNow c)
    else s.rd Reg.PWM_PRD (c + 1)

/-- The half-period in force on a channel (R105). -/
def half (s : State) (c : Nat) : Nat := if s.vn .halfNow c = 0 then s.srcHalf c else s.vn .halfNow c

/-- The rail's reference now: it has moved toward its target in every LE tick since it was last fixed (R137). -/
def ref (s : State) (r : Nat) : Int :=
  let d := s.v .refSlew r * 2 ^ 20 * ((s.now : Int) - s.v .refAt r)
  let x := s.v .refVal r
  let t := s.v .refTgt r
  if x ≤ t then min t (x + d) else max t (x - d)

/-- The reference fixed at the present tick, so that a new target or slew takes over from here (R137). -/
def fixRef (s : State) (r : Nat) : State :=
  let x := s.ref r
  (s.setV .refVal r x).setV .refAt r s.now

/-- An event on a rail spoils the records of both bands that an identification run is filling (R165). -/
def identSpoil (s : State) (r : Nat) : State := if s.on Reg.IDENT_STAT_RUN ∧ s.rd Reg.IDENT_CFG_RAIL = r then s.setV .identBad 0 3 else s

/-- A new target for the reference; a slew toward it spoils identification records (R137, R165). -/
def aimRef (s : State) (r : Nat) (t : Int) : State :=
  let s := (s.fixRef r).setV .refTgt r t
  if s.v .refVal r = t then s else s.identSpoil r

/-- A new slew for the reference (R137). -/
def slewRef (s : State) (r : Nat) (c : Nat) : State := (s.fixRef r).setV .refSlew r c

/-- The stage wake time of a rail runs: the reference stands at its start value (R143). -/
def waking (s : State) (r : Nat) : Bool := s.railState r == railRamp && !s.rampingDown r && s.vOn .tEndly r

/-- The target T of a rail: the commanded one, also while the reference still waits at its start value; 0 V in a ramp-down (R137, R143, R145). -/
def refGoal (s : State) (r : Nat) : Int := if s.waking r then codeVolts (s.rd Reg.LE_TGTNOW r) else s.v .refTgt r

/-- The reference has reached its target (R137 ATTGT). -/
def atTarget (s : State) (r : Nat) : Bool := s.ref r == s.refGoal r

/-- A field named by its key takes a published value. -/
def putKey (s : State) (k x : Nat) : State :=
  match fldOfKey k with
  | some f => s.wr f (k % 256) x
  | none => s

/-- The target code in force for a rail, and the reference's aim with it outside ramp-down and the wake time (R140, R143, R146). -/
def setTarget (s : State) (r c : Nat) : State :=
  let s := s.wr Reg.LE_TGTNOW r c
  if s.rampingDown r ∨ s.waking r then s else if s.railState r = railRamp ∨ s.railState r = railRegulate then s.aimRef r (codeVolts c) else s

/-- The slew in regulation: SLEW, under VSRC = 1 no more than the latest Cue slew (R139). -/
def railSlew (s : State) (r : Nat) : Nat :=
  let m := s.rd Reg.LE_SLEW r
  if s.rd Reg.LE_VSRC r = 1 ∧ s.vn .cueSlew r ≠ 0 then min m (s.vn .cueSlew r) else m

/-- The slew field that governs a rail's reference now, and its value (R137, R139, R143, R145). -/
def slewNow (s : State) (r : Nat) : Fld × Nat :=
  if s.rampingDown r then (Reg.LE_RDSLEW, s.rd Reg.LE_RDSLEW r)
  else if s.railState r = railRamp then (Reg.LE_SSSLEW, s.rd Reg.LE_SSSLEW r)
  else (Reg.LE_SLEW, s.railSlew r)

/-- The effects of LE frame values that have reached their rail: host target, and the slew of the present phase of the rail (R137, R139, R140). -/
def takeLeFrame (s : State) (r : Nat) (old : State) : State :=
  let s := if s.rd Reg.LE_VSRC r = 0 ∧ (old.rd Reg.LE_VTGT r ≠ s.rd Reg.LE_VTGT r ∨ old.rd Reg.LE_VSRC r ≠ 0 ∨ s.rd Reg.LE_TGTNOW r ≠ s.rd Reg.LE_VTGT r)
    then s.setTarget r (s.rd Reg.LE_VTGT r) else s
  let x := s.slewNow r
  if (s.railState r = railRegulate ∨ s.railState r = railRamp) ∧ ¬ s.waking r ∧ old.rd x.1 r ≠ s.rd x.1 r then s.slewRef r x.2 else s

/-- The variable that keeps a channel's old value of a dead-time field, with the field's place in its set (R109, R115). -/
def heldVar (k : Nat) : Option Var :=
  match k / 8192 % 16, k / 256 % 32 with
  | 0, 16 => some .heldDtf
  | 0, 0 => some .heldDtr
  | 1, 16 => some .heldMinoff
  | 1, 0 => some .heldMinp
  | _, _ => none

/-- The key names a field of a dead-time set. -/
def dtKey (k : Nat) : Bool := k / 131072 == 0x0110

/-- A dead-time field of set `k` as a channel uses it: the published one, or the older one that the channel still holds (R109, R115). -/
def dtVal (s : State) (f : Fld) (k c : Nat) : Nat :=
  match heldVar (f.key k) with
  | some x => if s.vn x (k * 64 + c) = 0 then s.rd f k else s.vn x (k * 64 + c) - 1
  | none => s.rd f k

/-- A channel uses `x` for the dead-time field with this key. -/
def takeDt (s : State) (c k x : Nat) : State :=
  match fldOfKey k, heldVar k with
  | some f, some y => s.setV y (k % 256 * 64 + c) (if s.rd f (k % 256) = x then 0 else x + 1)
  | _, _ => s

/-- A channel uses the published dead-time sets. -/
def dropHeld (s : State) (c : Nat) : State :=
  { s with vars := s.vars.filter (fun x => x.1 % 64 != c || !([Var.heldDtr, .heldDtf, .heldMinp, .heldMinoff].any (fun y => x.1 / 1024 == y.ctorIdx))) }

/-- Armed values of a channel apply at its reload (R113, R115); a change of PFP or OUTM clears ACC (R110), a rise of CEN restarts the period count (R107), and a stopped carrier holds no period. -/
def applyArmed (s : State) (c : Nat) : State :=
  let mine := s.armed.filter (fun x => x.1 == c)
  let s0 : State := { s with armed := s.armed.filter (fun x => x.1 != c) }
  let s1 : State := mine.foldl (fun s x => if dtKey x.2.1 then s.takeDt c x.2.1 x.2.2 else s.putKey x.2.1 x.2.2) s0
  let s2 := if s0.rd Reg.PWM_PFP c ≠ s1.rd Reg.PWM_PFP c ∨ s0.rd Reg.PWM_OUTM c ≠ s1.rd Reg.PWM_OUTM c then s1.wr Reg.PWM_ACC c 0 else s1
  if !s0.on Reg.PWM_CEN c && s1.on Reg.PWM_CEN c then s2.setV .perCount c 0
  else if s0.on Reg.PWM_CEN c && !s1.on Reg.PWM_CEN c then (s2.setV .halfNow c 0).dropHeld c else s2

/-- The channels of a rail. -/
def railChannels (s : State) (r : Nat) : List Nat := (List.range 34).filter (fun c => s.railOf c == some r)

/-- One published value has reached its rail's boundary: a value of the PWM frame is armed for its channel, one of a dead-time set for every channel of the rail, the others apply now (R115). -/
def reached (s : State) (x : RailPending) : State :=
  if x.key / 131072 = 0x01C0 then { s with armed := s.armed ++ [(x.key % 256, x.key, x.val)] }
  else if dtKey x.key then { s with armed := s.armed ++ ((s.railChannels x.rail).filter (fun c => decide (32 ≤ c) == decide (8 ≤ x.key % 256))).map (fun c => (c, x.key, x.val)) }
  else s.putKey x.key x.val

/-- The values published for a rail that wait for its boundary take effect (R115); a channel whose carrier stands has no reload, so it takes what is armed for it now. Index 5 stands for the converters, whose boundary is that of their cycle (R84). -/
def boundary (s : State) (r : Nat) : State :=
  let mine := s.pubq.filter (fun x => x.rail == r)
  let s0 : State := { s with pubq := s.pubq.filter (fun x => x.rail != r) }
  let s1 : State := mine.foldl reached s0
  let s2 := ((s1.railChannels r).filter (fun c => !s1.on Reg.PWM_CEN c)).foldl (fun s c => s.applyArmed c) s1
  if r < 4 then s2.takeLeFrame r s0 else s2

/-- The sum of AVG over the active phases of a rail, in 1/128 A (R187). -/
def irail (s : State) (r : Nat) : Int := (s.active r).foldl (fun a c => a + s.rdS Reg.CSA_AVG c) 0

/-- ITOT: the sum of the latest CUR of the active phases, in 1/128 A (R133, R180). -/
def itot (s : State) (r : Nat) : Int := (s.active r).foldl (fun a c => a + s.rdS Reg.CSA_CUR c) 0

/-- Live phases of a rail (R180). -/
def nlive (s : State) (r : Nat) : Nat := (s.active r).length

/-- The die temperature band (R317). -/
def band (s : State) : Nat := s.rd Reg.THM_BAND_BAND

end State

end Sys2Proof.Machine
end

