-- ==== Sys2Proof/Machine/Capacity.lean ====
section
/-!
DEFINITION. The capacity in force for a rail and the THROTTLE that a change of it queues (R235, R236).
-/

namespace Sys2Proof.Machine

/-- No capacity (R243, R245). -/
def capNone : Nat := 0xFFFF

namespace State

/-- The capacity that a reason has raised for a rail, in amperes. -/
def capOf (s : State) (r n : Nat) : Option Nat := if s.vn .capRsn (r * 8 + n) = 0 then none else some (s.vn .capRsn (r * 8 + n) - 1)

/-- The capacity in force and its binding reason: the smallest raised one, the lower reason on a tie (R235, log entry 11). -/
def capInForce (s : State) (r : Nat) : Nat × Nat :=
  (List.range 6).foldl (fun a n => match s.capOf r n with
    | some c => if c < a.1 then (c, n) else a
    | none => a) (capNone, 0)

/-- Which reasons are raised, bit reason − 1 (R245). -/
def capMask (s : State) (r : Nat) : Nat := listMask ((List.range 5).filter (fun n => (s.capOf r (n + 1)).isSome))

/-- The repeat timer of THROTTLE runs while a capacity is in force (R236). -/
def throttleTimer (s : State) : State :=
  if (List.range 4).all (fun r => s.rd Reg.CUE_CAP r == capNone) then s.setV .tThr 0 0
  else if s.vn .tThr = 0 then s.setV .tThr 0 (s.now + s.rd Reg.CUE_CTL_THRREP * 40000 + 1) else s

/-- CAP, REASON and RMASK follow the raised capacities; a change queues a THROTTLE and writes its record, or sets THRNV at version 1 (R236). -/
def capRefresh (s : State) (r : Nat) : State :=
  let x := s.capInForce r
  let s := s.wr Reg.CUE_RMASK r (s.capMask r)
  if x.1 = s.rd Reg.CUE_CAP r ∧ x.2 = s.rd Reg.CUE_REASON r then s
  else
    let s := (((s.wr Reg.CUE_CAP r x.1).wr Reg.CUE_REASON r x.2).throttleTimer).irq 52
    let s := s.event (if x.1 = capNone then 0x5007 else 0x5006) (if x.1 = capNone then 0 else 1) (leBytes 1 r ++ leBytes 1 x.2 ++ leBytes 2 x.1)
    if s.rd Reg.CUE_LINK_AV = 1 then (s.wr Reg.CUE_LINK_THRNV 0 1).event 0x5008 1 (leBytes 1 r) else s.setOn .throttleDue r true

/-- A reason raises a capacity for a rail (R235). -/
def raiseCap (s : State) (r n c : Nat) : State := (s.setV .capRsn (r * 8 + n) (c + 1)).capRefresh r

/-- A reason is withdrawn (R235, R236). -/
def dropCap (s : State) (r n : Nat) : State := (s.setV .capRsn (r * 8 + n) 0).capRefresh r

/-- A throttle output names the rail: the die sensor names every rail, a sensor its RAILMASK; outputs count from the first period, so in their starting state they count for a live rail (R72, R315). -/
def throttled (s : State) (r : Nat) : Bool :=
  (List.range 9).any (fun i => s.on Reg.THM_THRA i && (i == 0 || (s.rd Reg.HKA_TYPE i != 0 && bit (s.rd Reg.THM_RAILMASK i) r)) &&
    (!s.vOn .thmStartThr i || s.railLive r))

/-- The throttle capacity of a rail, rounded down to 1 A (R315). -/
def throttleCap (s : State) (r : Nat) : Nat :=
  (s.active r ++ s.parked r).foldl (fun a c => a + s.rd Reg.PHM_IBINMAX c) 0 * s.rd Reg.PROT_CTL_THRPCT / 100

/-- Reason 2 follows the throttle outputs (R315). -/
def throttleRefresh (s : State) (r : Nat) : State :=
  if s.throttled r then s.raiseCap r 2 (s.throttleCap r) else if (s.capOf r 2).isSome then s.dropCap r 2 else s

/-- Reason 4 is withdrawn (R254). -/
def headroomEnd (s : State) : State :=
  if s.on Reg.HAM_STAT_HDR then
    let s := ((s.wr Reg.HAM_STAT_HDR 0 0).setV .tHdr 0 0).event 0x6006 1 [0#8]
    (List.range 4).foldl (fun s r => s.dropCap r 4) s
  else s

/-- The RELAX timer runs while the Hamper is isolated and the reservoir current stays at most ITAIL (R271, R280). -/
def relaxCheck (s : State) : State :=
  if s.on Reg.GAU_STATE_ACTIVE ∧ s.rd Reg.HAM_CTL_AMODE = 0 ∧ (s.v .irvMa).natAbs ≤ 10 * s.rd Reg.GAU_CFG_ITAIL then
    if s.vn .tRelax = 0 ∧ s.vn .relaxDone = 0 then s.setV .tRelax 0 (s.now + s.rd Reg.GAU_CFG_RELAX * 400000000 + 1) else s
  else (s.setV .tRelax 0 0).setV .relaxDone 0 0

/-- The Hamper mode shown changes, with its interrupt (R254, R435); leaving ISOLATE allows the next rest anchor and ends the time for the start-up reconciliation (R271, R274). -/
def showAmode (s : State) (m : Nat) : State :=
  if s.rd Reg.HAM_CTL_AMODE = m then s
  else
    let s := if s.rd Reg.HAM_CTL_AMODE = 1 then s.headroomEnd else s
    let s := if s.rd Reg.HAM_CTL_AMODE = 0 then (s.setV .restTaken 0 0).setV .hamLeft 0 1 else s
    ((s.wr Reg.HAM_CTL_AMODE 0 m).irq 62).relaxCheck

end State

end Sys2Proof.Machine
end

