-- ==== Sys2Proof/Machine/Sessions.lean ====
section
/-!
DEFINITION. Packets, replies, completion entries, credits and the causes of ALERT_N of one session (R353 to R357, R360, R365 to R369, R378, R382, R388).
-/

namespace Sys2Proof.Machine

/-- Status codes (R365). -/
def stOk : Nat := 0x00
def stAccepted : Nat := 0x01
def stBusy : Nat := 0x02
def stNotOwner : Nat := 0x03
def stBadOpcode : Nat := 0x04
def stBadParam : Nat := 0x05
def stConflict : Nat := 0x06
def stWrongMode : Nat := 0x07
def stCrcError : Nat := 0x08
def stNoCredit : Nat := 0x09
def stVersion : Nat := 0x0A
def stLocked : Nat := 0x0B
def stFailed : Nat := 0x0C
def stEnvelope : Nat := 0x0D

/-- No status yet: the command's reply follows later (R173). -/
def stLater : Nat := 0x100

/-- The statuses that REFCNT counts (R382). -/
def isRefusal (st : Nat) : Bool := [0x02, 0x03, 0x04, 0x05, 0x06, 0x07, 0x09, 0x0A, 0x0B].contains st

/-- A packet: header, payload and CRC-16 (R353). -/
def packet (b0 opcode tag obj seq : Nat) (pl : List Byte) : List Byte :=
  let body := leBytes 1 b0 ++ leBytes 1 opcode ++ leBytes 1 tag ++ leBytes 1 pl.length ++ leBytes 2 obj ++ leBytes 2 seq ++ pl
  body ++ leBytes 2 (crc16 body)

namespace Session

/-- A reply or an entry was overwritten: REPLOST counts and LOST is set (R366, R367, R378). -/
def loss (x : Session) : Session :=
  { x with repLost := min (x.repLost + 1) 255, causes := if bit x.causes 8 then x.causes else x.causes + 256 }

/-- REFCNT counts a refusal (R382). -/
def countRef (x : Session) (st : Nat) : Session := if isRefusal st then { x with refCnt := min (x.refCnt + 1) 255 } else x

/-- Credits available (R369). -/
def cred (x : Session) : Nat := if x.isOpen then 8 - x.outst.length else 0

/-- A reply enters its store; a full uncredited store loses its oldest (R366). -/
def putReply (x : Session) (credited : Bool) (r : Reply) : Session :=
  if credited then { x with credited := x.credited ++ [r] }
  else if x.uncredited.length < 4 then { x with uncredited := x.uncredited ++ [r] }
  else { x with uncredited := x.uncredited.drop 1 ++ [r] }.loss

/-- A completion entry enters the session; a ninth overwrites the oldest (R367). -/
def putEntry (x : Session) (e : Entry) : Session :=
  if x.entries.length < 8 then { x with entries := x.entries ++ [e] }
  else { x with entries := x.entries.drop 1 ++ [e] }.loss

/-- The oldest retrievable reply of either store, and whether it is a credited one (R366). -/
def oldestReply (x : Session) : Option (Reply × Bool) :=
  match x.credited.head?, x.uncredited.head? with
  | .none, .none => .none
  | some a, .none => some (a, true)
  | .none, some b => some (b, false)
  | some a, some b => if a.fin ≤ b.fin then some (a, true) else some (b, false)

/-- The oldest reply is released: it leaves its store, its credit returns, and it can be read again (R357, R369). -/
def release (x : Session) : Session :=
  match x.oldestReply with
  | .none => x
  | some (r, true) => { x with credited := x.credited.drop 1, outst := x.outst.erase r.tag, released := r.bytes }
  | some (r, false) => { x with uncredited := x.uncredited.drop 1, released := r.bytes }

/-- Every retrievable credited reply is discarded and its credit returns (R369). -/
def reclaim (x : Session) : Session :=
  { x with credited := [], outst := x.credited.foldl (fun l r => l.erase r.tag) x.outst }

end Session

namespace State

/-- A reply is finished: its bytes, in its store, in the order of finishing (R354, R366). -/
def reply (s : State) (p : Port) (credited : Bool) (c : Cmd) (status : Nat) (data : List Byte) : State :=
  let x := s.sess p
  let v := if c.opcode = 1 ∨ ¬ x.isOpen then 1 else x.av
  let r : Reply := ⟨s.finCtr, c.tag, packet (v * 16 + 1) c.opcode c.tag c.obj c.seq (leBytes 1 status ++ data)⟩
  { s.setSess p ((x.putReply credited r).countRef status) with finCtr := s.finCtr + 1 }

/-- A long operation ends: its completion entry goes to the session that started it, if that is still open (R367); `port1` is the port's index plus 1, 0 for none. -/
def complete (s : State) (port1 tag opcode status : Nat) (reason : Nat := 0) : State :=
  if port1 = 0 then s
  else s.updSess (Port.ofIdx (port1 - 1)) (fun x =>
    if x.isOpen then (x.putEntry ⟨tag, opcode, status, if status = stFailed then reason else 0⟩).countRef status else x)

/-- The session of a port is owner (R374). -/
def isOwner (s : State) (p : Port) : Bool := s.owner == some p

/-- A claim of some session waits. -/
def claimWaits (s : State) : Bool := s.twa.claim.isSome || s.twb.claim.isSome || s.hsp.claim.isSome

/-- ALCAUSE of a session (R378). -/
def causeWord (s : State) (p : Port) : Nat :=
  let x := s.sess p
  if x.isOpen then
    b2n (!x.credited.isEmpty || !x.uncredited.isEmpty) + 2 * b2n (!x.entries.isEmpty) + 4 * b2n (s.isOwner p && s.claimWaits) +
      128 * b2n (s.on Reg.GAU_REST_REQ || s.on Reg.PHM_TAB_STALE) + x.causes
  else 0

/-- ALERT_N is pulled low (R378). -/
def alertN (s : State) : Bool :=
  [Port.twa, .twb, .hsp].any (fun p => (s.sess p).isOpen && (List.range 16).any (fun b => bit (s.causeWord p) b && bit (s.sess p).almask b))

/-- The expert level is unlocked for a session (R35, R382). -/
def xonFor (s : State) (p : Port) : Bool := s.isOwner p && s.on Reg.EXPERT_CTL_XON

/-- ENV and AUTO clear in every context, staged values included; a standing proposal has no envelope any more (R171, R174). -/
def clearAuto (s : State) : State :=
  (List.range 4).foldl (fun s r =>
    let s := (s.wr Reg.LE_ENV r 0).wr Reg.LE_AUTO r 0
    { s with staged := kvErase (Reg.LE_ENV.key r) (kvErase (Reg.LE_AUTO.key r) s.staged) }) s |>.refreshOoe

/-- The expert level is locked, and with it every envelope is withdrawn (R37, R171). -/
def lockExpert (s : State) : State := (s.wr Reg.EXPERT_CTL_XON 0 0).clearAuto

/-- The SC admits no packets: halted, stopped by a fatal fault, or in BOOT (R19, R51, R359, R433). -/
def scStopped (s : State) : Bool := s.on Reg.DBG_STAT_SCHALTED || s.on Reg.ICU_CORE_FATAL 0 || s.mode == 1

/-- BUSY of a port (R359). -/
def portBusy (s : State) (p : Port) : Bool := s.scStopped || decide (2 ≤ (s.sess p).rx.length)

/-- The status summary of a port (R360). -/
def summary (s : State) (p : Port) : List Byte :=
  let x := s.sess p
  let alert := (List.range 16).any (fun b => bit (s.causeWord p) b && bit x.almask b)
  let sum0 := 128 * b2n (s.portBusy p) + 64 * b2n x.isOpen + 32 * b2n (s.isOwner p) + 16 * b2n alert + 8 * b2n (s.xonFor p) +
    4 * b2n x.claim.isSome + (if x.isOpen then x.av else 0)
  let n (l : List Reply) := min l.length 15
  let body := leBytes 1 sum0 ++ leBytes 1 (x.cred * 16) ++ leBytes 1 (n x.credited * 16 + n x.uncredited) ++
    leBytes 1 (s.mode + 16 * s.rd Reg.SYS_MODE_TRANS) ++ leBytes 2 (Nat.land (s.causeWord p) x.almask)
  body ++ leBytes 2 (crc16 body)

/-- The remaining lease in milliseconds (R381): frozen while a GRANT waits or the SC is halted (R19, R375). -/
def leaseMs (s : State) : Nat :=
  if s.owner.isNone then 0
  else if s.granting.isSome then (s.vn .leaseLeft + 399999) / 400000
  else
    let t := if s.on Reg.DBG_STAT_SCHALTED then s.vn .haltAt else s.now
    (s.vn .tLease - 1 - t + 399999) / 400000

/-- The lease starts anew: 3 s (R374). -/
def renewLease (s : State) : State :=
  if s.granting.isSome then s.setV .leaseLeft 0 1200000000 else s.setV .tLease 0 (s.now + 1200000000 + 1)

end State

end Sys2Proof.Machine
end

