-- ==== Sys2Proof/Machine/Capture.lean ====
section
/-!
DEFINITION. Capture jobs and channels: the samples a channel stores, decimation, triggers, the progress of a job, the indexes of a record, and the release of tokens and channels (R329 to R337).
-/

namespace Sys2Proof.Machine

/-- What holds a capture channel (R349). -/
def holdJob : Nat := 1
def holdIdent : Nat := 2
def holdEsr : Nat := 3

/-- The sources whose sample is a 16-bit value (R329, R335). -/
def short16 (src : Nat) : Bool := decide (src < 0x40) || decide (0x60 ≤ src)

/-- The comparator sources (R329). -/
def cmpSource (src : Nat) : Bool := decide (0xA0 ≤ src)

namespace State

/-- The size of a channel's record in samples (R331). -/
def recSize (s : State) (c : Nat) : Nat := s.rd Reg.CAP_LEN c * 1024

/-- The pretrigger count of a channel's job (R336). -/
def preCount (s : State) (c : Nat) : Nat := s.rd Reg.CAP_JOB_PRE (s.rd Reg.CAP_JOB c) * s.rd Reg.CAP_LEN c * 128

/-- NSAMP, OLDEST and TIDX of a channel follow the samples stored (R336, R338, R349). -/
def capIndex (s : State) (c : Nat) : State :=
  let tot := s.vn .capTot c
  let n := s.recSize c
  let old := tot - n
  let s := (s.wr Reg.CAP_NSAMP c (min tot n)).wr Reg.CAP_OLDEST c (if n = 0 then 0 else old % n)
  if s.rd Reg.CAP_HOLD c = holdJob ∧ s.rd Reg.CAP_JOB_STATE (s.rd Reg.CAP_JOB c) < 3 then s
  else s.wr Reg.CAP_TIDX c (s.vn .capTrig c - old)

/-- The channels of a job, rising. -/
def jobChans (s : State) (j : Nat) : List Nat := maskList 16 (s.rd Reg.CAP_JOB_CHMASK j)

/-- A channel of a job has ended: stalled, or holding its record from the trigger on (R336). -/
def chanEnded (s : State) (c : Nat) : Bool :=
  s.on Reg.CAP_STALL c ||
    (s.rd Reg.CAP_JOB_STATE (s.rd Reg.CAP_JOB c) == 3 && decide (s.recSize c - s.preCount c ≤ s.vn .capTot c - s.vn .capTrig c)) ||
    s.rd Reg.CAP_JOB_STATE (s.rd Reg.CAP_JOB c) == 4

/-- A channel takes samples: it is held, and its job has not ended it (R336). -/
def recording (s : State) (c : Nat) : Bool :=
  s.rd Reg.CAP_HOLD c != 0 && (s.rd Reg.CAP_HOLD c != holdJob || !s.chanEnded c)

/-- The state of a job follows its channels: ARMED, DONE (R336). -/
def jobProgress (s : State) (j : Nat) : State :=
  let st := s.rd Reg.CAP_JOB_STATE j
  if st = 1 ∧ (s.jobChans j).all (fun c => decide (s.preCount c ≤ s.vn .capTot c)) then s.wr Reg.CAP_JOB_STATE j 2
  else if st = 3 ∧ (s.jobChans j).all s.chanEnded then ((s.wr Reg.CAP_JOB_STATE j 4).irq 73).alert 6
  else s

/-- A job is triggered: the tick is stored, and each channel notes where its record stands; a job whose channels have all ended is done (R336). -/
def markTrigger (s : State) (j : Nat) : State :=
  let st := s.rd Reg.CAP_JOB_STATE j
  if st = 1 ∨ st = 2 then
    let s := ((s.wr Reg.CAP_JOB_STATE j 3).wr Reg.CAP_JOB_TSLO j (s.now / 2)).wr Reg.CAP_JOB_TSHI j (s.now / 2 / 2 ^ 32)
    ((s.jobChans j).foldl (fun s c =>
      let s := s.setV .capTrig c (s.v .capTot c)
      (if s.vn .capTot c < s.preCount c then s.wr Reg.CAP_PRESHORT c 1 else s).capIndex c) s).irq 72 |>.jobProgress j
  else s

/-- A stored value crosses the level of a job whose trigger names the channel, by its place in the job (R335, log entry 28). -/
def levelTrigger (s : State) (c w : Nat) : State :=
  let j := s.rd Reg.CAP_JOB c
  let t := s.rd Reg.CAP_JOB_TRIG j
  let lev := s.rdS Reg.CAP_JOB_LEVEL j
  let val (x : Nat) : Int := sgn 16 (if short16 (s.rd Reg.CAP_SRC c) then bits x 15 0 else bits x 31 16)
  let old := val (s.vn .capLast c)
  if s.rd Reg.CAP_HOLD c = holdJob ∧ s.vOn .capHave c ∧ (s.jobChans j)[s.rd Reg.CAP_JOB_TARG j]? = some c ∧
      ((t = 6 ∧ old < lev ∧ lev ≤ val w) ∨ (t = 7 ∧ lev < old ∧ val w ≤ lev)) then s.markTrigger j
  else s

/-- One word enters the record of a channel (R331, R336). -/
def putSample (s : State) (c w : Nat) : State :=
  let s := s.levelTrigger c w
  let n := max 1 (s.recSize c)
  let k := s.vn .capTot c
  let s := (s.putWord (0x91000000 + 4096 * s.rd Reg.CAP_TOK0 c + 4 * (k % n)) w).setV .capTot c (k + 1)
  let s := if short16 (s.rd Reg.CAP_SRC c) ∧ ¬ cmpSource (s.rd Reg.CAP_SRC c) ∧ bit w 24 then s.wr Reg.CAP_SATS c 1 else s
  let s := ((s.setV .capLast c w).setV .capHave c 1).capIndex c
  if s.rd Reg.CAP_HOLD c = holdJob then s.jobProgress (s.rd Reg.CAP_JOB c) else s

end State

/-- The value of a sample as a number: the converters' rail, IB and reservoir codes, duties and comparator bits are unsigned (R82, R329). -/
def sampleVal (src w : Nat) : Int :=
  let wide : Nat := if short16 src then 16 else 32
  if (1 ≤ src ∧ src ≤ 6) ∨ (0x48 ≤ src ∧ src < 0x50) ∨ cmpSource src then bits w (wide - 1) 0 else sgn wide (bits w (wide - 1) 0)

namespace State

/-- `k` native samples with the value `w` enter a group that they do not complete (R330). -/
def partGroup (s : State) (c w k : Nat) : State :=
  if k = 0 then s
  else ((s.setV .capDec c (s.vn .capDec c + k)).setV .capAcc c (s.v .capAcc c + k * sampleVal (s.rd Reg.CAP_SRC c) w)).setV .capSt c (Nat.lor (s.vn .capSt c) w)

/-- One native sample of a channel's source: a group of 2^DECN makes one stored word (R330). -/
def takeSample (s : State) (c w : Nat) : State :=
  let src := s.rd Reg.CAP_SRC c
  let n := 2 ^ s.rd Reg.CAP_DECN c
  let wide : Nat := if short16 src then 16 else 32
  let s := (s.setV .capAt c (s.now + 1)).partGroup c w 1
  if s.vn .capDec c < n then s
  else
    let flags := s.vn .capSt c
    let mean := code wide (rdiv (s.v .capAcc c) n) + (if wide = 16 then flags / 65536 * 65536 else 0)
    let m := s.rd Reg.CAP_DMODE c
    let word := if m = 2 then flags else if m = 1 then mean else w
    (((s.setV .capDec c 0).setV .capAcc c 0).setV .capSt c 0).putSample c word

/-- `m` words of one value are stored; where more come than the record holds, those that would be written over only count (R331, R336). -/
def putRun (s : State) (c w m : Nat) : State :=
  let n := max 1 (s.recSize c)
  let s := (List.range (min m n)).foldl (fun s _ => if s.recording c then s.putSample c w else s) s
  if n < m ∧ s.recording c then (s.setV .capTot c (s.v .capTot c + (m - n : Nat))).capIndex c else s

/-- `k` native samples in a row with the value `w`: the open group is completed, whole groups store the value itself, the rest opens a group (R330). -/
def takeRun (s : State) (c w k : Nat) : State :=
  let n := 2 ^ s.rd Reg.CAP_DECN c
  let need := n - s.vn .capDec c
  if k < need then s.partGroup c w k
  else
    let s := ((s.partGroup c w (need - 1)).takeSample c w).putRun c w ((k - need) / n)
    if s.recording c then (s.partGroup c w ((k - need) % n)).setV .capAt c (s.now + 1) else s

/-- A channel on a comparator source takes its sample of every core tick before this one; OUT has not changed since the latest (R329). -/
def cmpFill (s : State) (c : Nat) : State :=
  let next := s.vn .capNext c - 1
  let k := (s.now + 1) / 2 - next
  if s.vOn .capNext c ∧ s.recording c ∧ 0 < k then (s.setV .capNext c ((s.now + 1) / 2 + 1)).takeRun c (s.vn .capWas c) k else s

/-- The sample of the core tick that this tick begins or lies before, once (R329). -/
def cmpSample (s : State) (c : Nat) : State :=
  if s.vOn .capNext c ∧ s.recording c ∧ s.vn .capNext c ≤ (s.now + 1) / 2 + 1 then (s.setV .capNext c ((s.now + 1) / 2 + 2)).takeSample c (s.vn .capWas c) else s

/-- Every channel on a comparator source has taken its samples up to this tick (R329; log entry 46). -/
def capSync (s : State) : State := (List.range 16).foldl (fun s c => s.cmpFill c) s

/-- One LE tick passes with no command (log entry 2). -/
def idle (s : State) : State := { s with now := s.now + 1 }.capSync

/-- A job is triggered, with every channel's record up to date (R336). -/
def triggerJob (s : State) (j : Nat) : State := s.capSync.markTrigger j

/-- Every job that waits for this trigger and argument is triggered (R335, R336). -/
def capTrigger (s : State) (trig targ : Nat) : State :=
  (List.range 8).foldl (fun s j => if s.rd Reg.CAP_JOB_TRIG j = trig ∧ (trig = 8 ∨ trig = 11 ∨ s.rd Reg.CAP_JOB_TARG j = targ) then s.triggerJob j else s) s

/-- The fields of a channel frame. -/
def capFields : List Fld :=
  [Reg.CAP_HOLD, Reg.CAP_JOB, Reg.CAP_SRC, Reg.CAP_DECN, Reg.CAP_DMODE, Reg.CAP_LEN, Reg.CAP_NSAMP, Reg.CAP_TIDX, Reg.CAP_OLDEST, Reg.CAP_RATE,
   Reg.CAP_TOK0, Reg.CAP_PRESHORT, Reg.CAP_STALL, Reg.CAP_RATECHG, Reg.CAP_SATS]

/-- A token is held: by a channel's record or by its spectrum (R331, R339). -/
def tokenUsed (s : State) (k : Nat) : Bool :=
  (List.range 16).any (fun c => s.rd Reg.CAP_HOLD c != 0 &&
    ((decide (s.rd Reg.CAP_TOK0 c ≤ k) && decide (k < s.rd Reg.CAP_TOK0 c + s.rd Reg.CAP_LEN c)) ||
     (decide (s.vn .specTok c ≤ k + 1) && decide (k + 1 < s.vn .specTok c + s.vn .specNtok c))))

/-- The first run of `n` free tokens (R332). -/
def fitTokens (s : State) (n : Nat) : Option Nat :=
  (List.range (65 - n)).find? (fun a => decide (n ≤ 64) && (List.range n).all (fun i => !s.tokenUsed (a + i)))

/-- The lowest free channel (R332). -/
def freeChannel (s : State) : Option Nat := (List.range 16).find? (fun c => s.rd Reg.CAP_HOLD c == 0)

/-- What `n` tokens from token `t` on held is undefined from now on (R332). -/
def loseTokens (s : State) (t n : Nat) : State :=
  let a := 0x91000000 + 4096 * t
  let s : State := { s with mem := s.mem.filter (fun x => x.1 < a || a + 4096 * n ≤ x.1) }
  (List.range n).foldl (fun s i => s.setV .tokEpoch (t + i) (s.v .tokEpoch (t + i) + 1)) s

/-- The spectrum of a channel is released (R332, R339). -/
def freeSpectrum (s : State) (c : Nat) : State :=
  let n := s.vn .specNtok c
  let s := if n = 0 then s else s.loseTokens (s.vn .specTok c - 1) n
  ((s.setV .specTok c 0).setV .specNtok c 0).setV .specBytes c 0

/-- A channel and its tokens are released; what the tokens hold is then undefined (R332). -/
def freeChan (s : State) (c : Nat) : State :=
  let s := (s.freeSpectrum c).loseTokens (s.rd Reg.CAP_TOK0 c) (s.rd Reg.CAP_LEN c)
  let s := capFields.foldl (fun s f => s.wr f c 0) s
  [Var.capTot, .capTrig, .capAcc, .capLast, .capDec, .capSt, .capHave, .capAt, .capNext, .capWas, .capNum, .capDen].foldl (fun s x => s.setV x c 0) s

/-- A job is released with its channels and transforms (R332, R348, R352). -/
def freeJob (s : State) (j : Nat) : State :=
  let s := (s.jobChans j).foldl (fun s c => s.freeChan c) s
  let s := [Reg.CAP_JOB_STATE, Reg.CAP_JOB_PORT, Reg.CAP_JOB_TRIG, Reg.CAP_JOB_TARG, Reg.CAP_JOB_PRE, Reg.CAP_JOB_LEVEL, Reg.CAP_JOB_CHMASK,
    Reg.CAP_JOB_TSLO, Reg.CAP_JOB_TSHI].foldl (fun s f => s.wr f j 0) s
  { s with spectra := s.spectra.filter (fun x => x.job != j) }

/-- Every job of a session is released as it closes (R332, R363). -/
def releaseJobs (s : State) (p : Port) : State :=
  (List.range 8).foldl (fun s j => if s.rd Reg.CAP_JOB_STATE j ≠ 0 ∧ s.rd Reg.CAP_JOB_PORT j = p.idx then s.freeJob j else s) s

/-- The channels of a holder other than a job are released (R163, R343). -/
def freeHolder (s : State) (h : Nat) : State :=
  (List.range 16).foldl (fun s c => if s.rd Reg.CAP_HOLD c = h then s.freeChan c else s) s

end State

end Sys2Proof.Machine
end

