-- ==== Sys2Proof/Machine/Phases.lean ====
section
/-!
DEFINITION. The phase manager: roles and slots, splitting the duty, balance, shedding and adding, failure, promotion and derating, and the phase characterisation table (R178 to R202).
-/

namespace Sys2Proof.Machine

/-- Output state codes of OST (R128). -/
def ostOff : Nat := 0
def ostLive : Nat := 1
def ostParked : Nat := 2

/-- The address of a table entry (R198). -/
def tableAddr (phase band bin : Nat) : Nat := 0x90020000 + 4 * (phase * 256 + band * 32 + bin)

/-- `s` with its five bits reversed: the shed rank of a slot (R188). -/
def shedRank (x : Nat) : Nat := (List.range 5).foldl (fun a i => a * 2 + b2n (bit x i)) 0

/-- `a / b` rounded up, for a positive divisor. -/
def ceilDiv (a b : Int) : Int := if b ≤ 0 then 0 else -((-a) / b)

namespace State

/-- An output state is armed on a channel; it applies at the channel's reload (R111). -/
def armOst (s : State) (c o : Nat) : State := s.setV .ostArm c (o + 1)

/-- A phase takes a role; one that becomes live or ceases to be spoils identification records (R165, R178). -/
def setRole (s : State) (c role : Nat) : State :=
  let was := s.rd Reg.PHM_ROLE c
  let s := s.wr Reg.PHM_ROLE c role
  if (was = 1) = (role = 1) then s else s.identSpoil (s.rd Reg.PHM_RAIL c)

/-- The bin of a current in 1/128 A for a phase (R198). -/
def binOf (s : State) (c : Nat) (i : Int) : Nat :=
  let d : Int := (s.rd Reg.PHM_IBINMAX c : Int) * 128
  if d = 0 then 0 else (clamp 0 31 (i * 32 / d)).toNat

/-- A table entry word (R198). -/
def entry (s : State) (c band bin : Nat) : Nat := s.wordAt (tableAddr c band bin)

/-- Iph: the mean AVG of the active phases of a rail, in 1/128 A (R185). -/
def iph (s : State) (r : Nat) : Int := if s.nlive r = 0 then 0 else rdiv (s.irail r) (s.nlive r)

/-- The nearest valid bin of a phase and band, the lower bin on a tie (R185). -/
def nearestBin (s : State) (c band b : Nat) : Option Nat :=
  (List.range 32).foldl (fun a d =>
    match a with
    | some x => some x
    | none =>
      if d ≤ b ∧ bit (s.entry c band (b - d)) 4 then some (b - d)
      else if b + d ≤ 31 ∧ bit (s.entry c band (b + d)) 4 then some (b + d) else none) none

/-- TTAB of a phase from the table; lookups are counted for R202 (R185). -/
def lookup (s : State) (r c : Nat) : State :=
  let b := s.binOf c (s.iph r)
  let e := s.entry c s.band b
  let good := bit e 4 && decide (4 ≤ bits e 9 6)
  let t : Nat := match s.nearestBin c s.band b with
    | some x => code 16 (sgn 12 (bits (s.entry c s.band x) 31 20))
    | none => 0
  let s := ((s.wr Reg.PHM_BIN c b).wr Reg.PHM_TTAB c t).setV .lookups 0 (s.v .lookups + 1)
  if good then s.setV .goodLookups 0 (s.v .goodLookups + 1) else s

/-- The lookups of a rail at its period boundary (R185). -/
def lookupRail (s : State) (r : Nat) : State := (s.active r).foldl (fun s c => s.lookup r c) s

/-- t of a phase, LSB 2^-14 (R184). -/
def trim (s : State) (r c : Nat) : Int :=
  let m : Int := 8 * (s.rd Reg.PHM_BAL_TRIMMAX r : Int)
  clamp (-m) m (s.rdS Reg.PHM_TTAB c + s.rdS Reg.PHM_TINT c)

/-- g of a phase: the share left to a departing phase at the reload that comes next, as a fraction (R184, R189). -/
def share (s : State) (r c : Nat) : Int × Int :=
  let n : Int := s.rd Reg.PHM_SHED_SHRAMP r
  if s.on Reg.PHM_DEPART c then (max 0 (n - s.v .shedJ r), max 1 n) else (1, 1)

/-- The width of a phase for a duty in UQ0.24 (R184). -/
def phaseWidth (s : State) (r c d : Nat) : Nat :=
  let g := s.share r c
  (clamp 0 (2 ^ 21 - 1) (rdiv ((d : Int) * 512 * (s.half c : Int) * (16384 + s.trim r c) * g.1) (2 ^ 24 * 16384 * g.2))).toNat

/-- A width is written to a channel's shadow as one word (R113, R114). -/
def writeShadow (s : State) (c w : Nat) : State := (s.wr Reg.PWM_WSH c w).setV .shadowNew c 1

/-- Every active phase of a rail receives its width in its shadow (R113, R184). -/
def splitDuty (s : State) (r d : Nat) : State := (s.active r).foldl (fun s c => s.writeShadow c (s.phaseWidth r c d)) s

/-- The latest main sample of a phase carries no flag (R186). -/
def usable (s : State) (c : Nat) : Bool := !(s.on Reg.CSA_SAT c || s.on Reg.CSA_NOPULSE c || s.on Reg.CSA_TRIP c)

/-- CUR of a phase less the mean over the usable active phases, times their count, and the count (R186). -/
def deviation (s : State) (r c : Nat) : Int × Int :=
  let l := (s.active r).filter s.usable
  let n : Int := l.length
  (n * s.rdS Reg.CSA_CUR c - l.foldl (fun a x => a + s.rdS Reg.CSA_CUR x) 0, max 1 n)

/-- The balance integrator of a phase runs on a usable sample; it is kept to 2^-27 and TINT shows it rounded (R186, log entry 12). -/
def balance (s : State) (r c : Nat) : State :=
  if s.rd Reg.PHM_ROLE c = 1 ∧ s.usable c then
    let x := s.deviation r c
    let s := s.wrS Reg.PHM_RESID c (satS 16 (rdiv x.1 x.2))
    if s.on Reg.PHM_DEPART c ∨ s.vn .livePer c ≤ 8 then s
    else
      let m : Int := 8 * (s.rd Reg.PHM_BAL_TRIMMAX r : Int) * 2 ^ 13
      let t := clamp (-m) m (s.v .tintFine c - rdiv ((s.rd Reg.PHM_BAL_KBAL r : Int) * x.1) x.2)
      (s.setV .tintFine c t).wrS Reg.PHM_TINT c (rdiv t (2 ^ 13))
  else s

/-- A parked phase joins the parked stack of its rail: output parked at its reload, ROLE 2 (R188, R189). -/
def park (s : State) (c : Nat) : State :=
  let n := s.vn .parkCtr + 1
  (((s.setRole c 2).setV .parkSeq c n).setV .parkCtr 0 n).wrB Reg.PHM_DEPART c false

/-- A parked phase becomes active; it goes live at its reload (R190). -/
def rejoin (s : State) (c : Nat) : State := ((s.setRole c 1).armOst c ostLive).setV .livePer c 0

/-- The parked phase of a rail that was parked last (R188). -/
def lastParked (s : State) (r : Nat) : Option Nat :=
  (s.parked r).foldl (fun a c => match a with
    | none => some c
    | some d => if s.vn .parkSeq d < s.vn .parkSeq c then some c else a) none

/-- Up to `n` parked phases rejoin, the most recently parked first (R188). -/
def addPhases (s : State) (r : Nat) : Nat → State
  | 0 => s
  | n + 1 =>
    match s.lastParked r with
    | some c => (s.rejoin c).addPhases r n
    | none => s

/-- The departing phase of a rail. -/
def departing (s : State) (r : Nat) : Option Nat := ((s.assigned r).filter (fun c => s.on Reg.PHM_DEPART c)).head?

/-- The phase that a shed step parks: the active one of highest shed rank (R188). -/
def shedChoice (s : State) (r : Nat) : Option Nat :=
  (s.active r).foldl (fun a c => match a with
    | none => some c
    | some d => if shedRank (s.rd Reg.PHM_SLOT d) < shedRank (s.rd Reg.PHM_SLOT c) then some c else a) none

/-- NMIN as it applies to a rail: no more than its active and parked phases when it is derated (R195). -/
def nmin (s : State) (r : Nat) : Nat :=
  let n := s.rd Reg.PHM_SHED_NMIN r
  if s.on Reg.PHM_LEDG_DERATE r then min n ((s.active r).length + (s.parked r).length) else n

/-- The shed condition of R187, the step and hold conditions apart. -/
def shedCond (s : State) (r : Nat) : Bool :=
  let n : Int := s.nlive r
  s.on Reg.PHM_SHED_SHEN r && decide (s.irail r < (s.rd Reg.PHM_SHED_ISHED r : Int) * 8 * (n - 1)) && decide (s.nmin r < s.nlive r) &&
    (!s.on Reg.PHM_SHED_SHREQEN r || decide (s.v .shreq r < n))

/-- Shedding is frozen: judgement, ramp-down, hiccup, or a procedure on the rail (R192). -/
def shedFrozen (s : State) (r : Nat) : Bool :=
  s.on Reg.VSC_STATUS_JUDGE || s.rampingDown r || s.railState r != railRegulate || (s.on Reg.PHM_CHAR_RUN && s.rd Reg.PHM_CHAR_RAIL == r)

/-- The dwell timer of a rail runs while the shed condition holds, and restarts when it breaks; throttling does not break it (R187, R315; log entry 48). -/
def dwellCheck (s : State) (r : Nat) : State :=
  if s.shedCond r && !s.shedFrozen r && !s.on Reg.PHM_LEDG_SHEDDING r && !s.on Reg.PHM_LEDG_HOLDING r then
    if s.vn .tDwell r = 0 then s.setV .tDwell r (s.now + s.rd Reg.PHM_SHED_DWELL r * 4000 + 1) else s
  else s.setV .tDwell r 0

/-- The add decisions of R187 that are no reversal. -/
def addCheck (s : State) (r : Nat) : State :=
  if s.shedFrozen r then s
  else
    let iadd : Int := (s.rd Reg.PHM_SHED_IADD r : Int) * 8
    let n : Int := s.nlive r
    let byCurrent := if iadd * n < s.irail r then ceilDiv (s.irail r) iadd - n else 0
    let q := s.v .shreq r
    let byReq := if s.on Reg.PHM_SHED_SHREQEN r ∧ n < q then q - n else 0
    s.addPhases r (max byCurrent byReq).toNat

/-- A shed step starts: the widths written from now on are loaded at the first reload of the step (R189). -/
def startShed (s : State) (r : Nat) : State :=
  match s.shedChoice r with
  | none => s
  | some c => (((s.wrB Reg.PHM_DEPART c true).wrB Reg.PHM_LEDG_SHEDDING r true).setV .shedJ r 1).setV .tDwell r 0

/-- Phases that a full complement makes active: neither failed nor understudies (R190). -/
def complement (s : State) (r : Nat) : Nat := (s.active r).length + (s.parked r).length

/-- A reversal to a target active count (R190); nothing to reverse leaves the rail as it is. -/
def reverse (s : State) (r target trigger : Nat) : State :=
  if s.shedFrozen r then s
  else if (s.departing r).isNone ∧ ((s.parked r).isEmpty ∨ target ≤ s.nlive r) then s
  else
    let s := match s.departing r with
      | some c => s.wrB Reg.PHM_DEPART c false
      | none => s
    let s := s.addPhases r (target - s.nlive r)
    let s := ((s.wrB Reg.PHM_LEDG_SHEDDING r false).wrB Reg.PHM_LEDG_REVERSED r true).bump Reg.PHM_LEDG_REVCNT r
    let s := ((s.setV .tDwell r 0).wrB Reg.PHM_LEDG_HOLDING r true).setV .tHold r (s.now + s.rd Reg.PHM_SHED_HOLD r * 40000 + 1)
    s.event 0x2021 0 (leBytes 1 r ++ leBytes 1 trigger)

/-- A reversal to the full complement (R190). -/
def reverseFull (s : State) (r trigger : Nat) : State := s.reverse r (s.complement r) trigger

/-- The lag of a slot behind the rail's reference, in ticks (R182). -/
def slotLag (s : State) (r slot : Nat) (n : Int) : Int :=
  rdiv ((slot : Int) * n) (max 1 (s.v .slotM r)) + rdiv ((s.rd Reg.PHM_BAL_ROFS r : Int) * n) 256

/-- The slot whose lag a phase takes: an understudy not promoted lags like slot 0 (R182). -/
def lagSlot (s : State) (c : Nat) : Nat := if s.rd Reg.PHM_SLOT c = 0x3F then 0 else s.rd Reg.PHM_SLOT c

/-- PHSV of a phase under R182. -/
def phsvOf (s : State) (r c sel half : Nat) : Nat :=
  let n : Int := 2 * half
  let lag := s.slotLag r (s.lagSlot c) n
  let src := if sel = 2 ∧ 0 < c then s.slotLag r (s.lagSlot (c - 1)) n else 0
  if n = 0 then 0 else ((n - (lag - src)) % n).toNat

/-- The failed marks as the body of their slot (R197, R452). -/
def failedBody (s : State) : List Byte := leBytes 8 (listMask ((List.range 32).filter (fun c => s.rd Reg.PHM_ROLE c == 4)))

/-- An understudy takes a failed phase's slot and role (R194). -/
def promote (s : State) (r f u role : Nat) : State :=
  let s := (s.wr Reg.PHM_SLOT u (s.rd Reg.PHM_SLOT f)).wr Reg.PWM_DOFS u (s.rd Reg.PHM_SLOT f % 16)
  let s := s.wr Reg.PWM_PHSV u (s.phsvOf r u (s.rd Reg.PWM_SYNCSEL u) (s.half u))
  let s := (s.setRole u role).armOst u (if role = 1 then ostLive else ostParked)
  (s.setV .livePer u 0).setV .parkSeq u (s.v .parkSeq f)

/-- The capacity of a derated rail: IBINMAX over its active and parked phases (R195). -/
def derateCap (s : State) (r : Nat) : Nat := (s.active r ++ s.parked r).foldl (fun a c => a + s.rd Reg.PHM_IBINMAX c) 0

/-- A rail with a failed phase and no understudy is derated (R195). -/
def derate (s : State) (r : Nat) : State :=
  let s := if s.on Reg.PHM_LEDG_DERATE r then s else (s.wrB Reg.PHM_LEDG_DERATE r true).irq 42
  s.raiseCap r 1 (s.derateCap r)

/-- Fill the place of a failed phase that had a role (R194, R195). -/
def replacePhase (s : State) (r f role : Nat) : State :=
  match (s.understudies r).head? with
  | some u => s.promote r f u role
  | none => s.derate r

/-- A promotion is taken back: the phase waits as an understudy again (R194). -/
def unpromote (s : State) (u : Nat) : State := (((s.setRole u 3).wr Reg.PHM_SLOT u 0x3F).armOst u ostParked).setV .promNow u 0

/-- The phases that have failed since the rail's boundary and the understudies that are left or were promoted since, both in ascending order, are paired anew; a failed phase without one derates the rail (R194, R195). -/
def fillDeclared (s : State) (r : Nat) : State :=
  let fs := (s.assigned r).filter (fun c => s.vOn .declNow c)
  let us := (s.assigned r).filter (fun u => s.rd Reg.PHM_ROLE u == 3 || s.vOn .promNow u)
  let pairs := fs.zip us
  let s := (us.filter (fun u => s.vOn .promNow u && !pairs.contains (s.vn .promNow u - 1, u))).foldl (fun s u => s.unpromote u) s
  let s := pairs.foldl (fun s x => if s.vn .promNow x.2 = x.1 + 1 then s else (s.promote r x.1 x.2 (s.vn .declNow x.1 - 1)).setV .promNow x.2 (x.1 + 1)) s
  if us.length < fs.length then s.derate r else s

/-- The declarations of a rail's period are settled at its boundary, and at once on a rail that is not live (R194). -/
def settleDeclared (s : State) (r : Nat) : State := (s.assigned r).foldl (fun s c => (s.setV .declNow c 0).setV .promNow c 0) s

/-- PHM declares a phase failed (R193, R194, R196, R197). An understudy that fails leaves no place empty, so its failure derates no rail (log entry 80). -/
def declareFailed (s : State) (c cause : Nat) : State :=
  match s.railOf c with
  | none => s
  | some r =>
    if 32 ≤ c ∨ s.rd Reg.PHM_ROLE c = 4 ∨ s.rd Reg.PHM_ROLE c = 0 ∨ s.rd Reg.PHM_ROLE c = 5 then s
    else
      let role := if s.on Reg.PHM_DEPART c then 2 else s.rd Reg.PHM_ROLE c
      let s := if s.on Reg.PHM_DEPART c then (s.wrB Reg.PHM_DEPART c false).wrB Reg.PHM_LEDG_SHEDDING r false else s
      let s := ((s.setRole c 4).wrB Reg.PHM_FAILF c true).wr Reg.PHM_FCAUSE c cause
      let s := (s.armOst c ostOff).wrB Reg.PHM_SENSEQ c false
      let s := s.setV .senseWin c 2
      let s := if s.vOn .promNow c then (s.setV .declNow (s.vn .promNow c - 1) 0).setV .promNow c 0 else s
      let s := if role = 3 then s else (s.setV .declNow c (role + 1)).fillDeclared r
      let u := ((s.assigned r).find? (fun u => s.vn .promNow u == c + 1)).getD 0xFF
      let s := s.event 0x2020 2 (leBytes 1 c ++ leBytes 1 cause ++ leBytes 1 u)
      let s := ((s.alertEvent 0x2020).capTrigger 0x0A r).queueSlot 73 s.failedBody
      if s.railLive r then s else s.settleDeclared r

/-- At RAIL_ON every slot of a failed phase is filled, or the rail is derated (R197). -/
def fillFailed (s : State) (r : Nat) : State :=
  ((s.assigned r).filter (fun c => s.rd Reg.PHM_ROLE c == 4 && s.rd Reg.PHM_SLOT c != 0x3F &&
      !(s.assigned r).any (fun d => s.rd Reg.PHM_ROLE d != 4 && s.rd Reg.PHM_SLOT d == s.rd Reg.PHM_SLOT c))).foldl
    (fun s c => s.replacePhase r c 2) s

/-- One sample of a phase against the detectors 1 and 2 (R193). -/
def detect (s : State) (r c : Nat) : State :=
  let ndet := s.rd Reg.PHM_BAL_NDET r
  let imax : Int := (s.rd Reg.PHM_IBINMAX c : Int) * 128
  let cur := s.rdS Reg.CSA_CUR c
  let role := s.rd Reg.PHM_ROLE c
  let alarm (d : Nat) : Bool := decide ((s.rd Reg.PHM_BAL_IDETMIN r : Int) * 32 ≤ s.iph r) &&
    decide ((s.rd Reg.PHM_BAL_RESFRAC r : Int) * s.iph r * (s.deviation r d).2 < 256 * ((s.deviation r d).1).natAbs)
  let watch := role == 1 && s.usable c && !s.on Reg.PHM_DEPART c && decide (8 < s.vn .livePer c)
  let badPl := (role == 1 && !s.on Reg.CSA_TRIP c && (s.on Reg.CSA_SAT c || decide (3 * imax < 2 * cur) || decide (2 * cur < -imax))) ||
    ((role == 2 || role == 3) && s.on Reg.CSA_NOPULSE c && decide (imax < 8 * (cur.natAbs : Int)))
  let watchPl := (role == 1 && !s.on Reg.CSA_TRIP c) || ((role == 2 || role == 3) && s.on Reg.CSA_NOPULSE c)
  let s := if watchPl then s.setV .detPl c (if badPl then s.v .detPl c + 1 else 0) else s
  let s := if watch then
      if alarm c then s.setV .detRes c (s.v .detRes c + 1)
      else (if 0 < s.v .detRes c ∧ s.v .detRes c < ndet then s.bump Reg.PHM_ALMCNT c else s).setV .detRes c 0
    else s
  let s := s.wr Reg.PHM_DETCNT c (max (s.vn .detRes c) (s.vn .detPl c))
  if badPl ∧ ndet ≤ s.vn .detPl c then s.declareFailed c 2
  else if watch ∧ alarm c ∧ ndet ≤ s.vn .detRes c then
    if (s.active r).length < 2 * ((s.active r).filter (fun d => s.usable d && alarm d)).length then
      if s.vOn .susPeriod r then s else ((s.bump Reg.PHM_LEDG_RAILSUS r).irq 44).setOn .susPeriod r true
    else s.declareFailed c 1
  else s

/-- The table entry of a phase learns its trim (R199). -/
def learnEntry (s : State) (c band bin : Nat) (t : Int) : State :=
  let e := s.entry c band bin
  let old := sgn 12 (bits e 31 20)
  let nt := satS 12 (old + rdiv (t - old) 8)
  let e' := code 12 nt * 2 ^ 20 + bits e 19 10 * 2 ^ 10 + min (bits e 9 6 + 1) 15 * 2 ^ 6 + bits e 5 5 * 2 ^ 5 + 2 ^ 4
  let s := s.putWord (tableAddr c band bin) e'
  let s := if bit e 4 then s else s.wr Reg.PHM_TAB_NVALID 0 (s.rd Reg.PHM_TAB_NVALID + 1)
  (s.setOn .tableDirty 0 true).wrB Reg.PHM_TAB_SAVEPEND 0 true

/-- In-service learning after 256 stable periods (R199). -/
def learn (s : State) (r c : Nat) : State :=
  let b := s.rd Reg.PHM_BIN c
  let ok := s.rd Reg.PHM_ROLE c == 1 && !s.on Reg.PHM_DEPART c && s.railState r == railRegulate && s.on Reg.PHM_BAL_LEARN r &&
    decide ((s.rdS Reg.PHM_RESID c).natAbs ≤ s.rd Reg.PHM_BAL_RESOK r * 32) && s.vn .lastBin c == b && s.vn .lastBand c == s.band
  let s := (s.setV .lastBin c b).setV .lastBand c s.band
  if ok then
    if 255 ≤ s.vn .stablePer c then (s.learnEntry c s.band b (s.rdS Reg.PHM_TTAB c + s.rdS Reg.PHM_TINT c)).setV .stablePer c 0
    else s.setV .stablePer c (s.v .stablePer c + 1)
  else s.setV .stablePer c 0

/-- The lowest VALID bin of a phase and band. -/
def lowestBin (s : State) (c band : Nat) : Option Nat := (List.range 32).find? (fun b => bit (s.entry c band b) 4)

/-- The inductance estimate of a period: Lnew in 0.25 nH into LIND, and KNEE (R199); `l` is Lnew. -/
def learnInductance (s : State) (c : Nat) (l : Int) : State :=
  let b := s.rd Reg.PHM_BIN c
  let e := s.entry c s.band b
  let old : Int := bits e 19 10
  let nl := (clamp 0 1023 (old + rdiv (l - old) 16)).toNat
  let ref := match s.lowestBin c s.band with
    | some x => if x = b then nl else bits (s.entry c s.band x) 19 10
    | none => 0
  let e' := bits e 31 20 * 2 ^ 20 + nl * 2 ^ 10 + bits e 9 6 * 2 ^ 6 + b2n (decide (4 * nl < 3 * ref)) * 2 ^ 5 + bits e 4 4 * 2 ^ 4
  (s.putWord (tableAddr c s.band b) e').setOn .tableDirty 0 true

/-- A table segment as the body of its slot (R200). -/
def segment (s : State) (i : Nat) : List Byte := s.bytesAt (0x90020000 + 512 * i) 512

/-- Every segment of the table is queued for saving (R200). -/
def saveTable (s : State) : State :=
  (((List.range 64).foldl (fun s i => s.queueSlot i (s.segment i)) s).setOn .tableDirty 0 false).wrB Reg.PHM_TAB_SAVEPEND 0 false

/-- The procedure takes the point of a phase and bin: the phase's current would not exceed the mean by more than the others can carry (R203). Currents are in 1/128 A. -/
def charReach (s : State) (r c b : Nat) : Bool :=
  let ib : Int := s.rd Reg.PHM_IBINMAX c
  decide ((2 * (b : Int) + 1) * ib * 2 - s.iph r ≤ 32 * ib * ((s.nlive r : Int) - 1))

/-- A point of the rail is left after this one, in the order of R203. -/
def charMore (s : State) (r c b : Nat) : Bool :=
  let lo := s.vn .charLo
  let bins := (List.range (s.vn .charHi + 1)).filter (fun x => decide (lo ≤ x))
  ((s.assigned r).filter (fun d => decide (c ≤ d) && s.rd Reg.PHM_ROLE d != 4)).any (fun d => bins.any (fun x => (decide (c < d) || decide (b < x)) && s.charReach r d x))

/-- The characterisation drives the rail, in REGULATE and with a calibrated band, and this point is one of its range that it does not skip (R203). -/
def charTakes (s : State) (r c b : Nat) : Bool :=
  s.vn .charTurn == r + 1 && s.railState r == railRegulate && !s.rampingDown r && bit (s.rd Reg.CAL_STAT_BANDS) s.band && s.on Reg.PHM_ASSIGN c && s.rd Reg.PHM_ROLE c != 4 &&
    decide (s.vn .charLo ≤ b) && decide (b ≤ s.vn .charHi) && s.charReach r c b

/-- Some point of the rail can be learned (R203). -/
def charAny (s : State) (r : Nat) : Bool :=
  let lo := s.vn .charLo
  ((s.assigned r).filter (fun d => s.rd Reg.PHM_ROLE d != 4)).any (fun d => (List.range (s.vn .charHi + 1)).any (fun x => decide (lo ≤ x) && s.charReach r d x))

end State

end Sys2Proof.Machine
end

