-- ==== Sys2Proof/Machine/Recording.lean ====
section
/-!
DEFINITION. The sources that capture channels record: their rates, and what a latched value or a change of a comparator enters (R329, R330, R337).
-/

namespace Sys2Proof.Machine

/-- The schedule slots of the voltage converters, rising (R83). -/
def schedSlots : List Fld :=
  [Reg.VSC_SCHED_SLOT0, Reg.VSC_SCHED_SLOT1, Reg.VSC_SCHED_SLOT2, Reg.VSC_SCHED_SLOT3, Reg.VSC_SCHED_SLOT4, Reg.VSC_SCHED_SLOT5, Reg.VSC_SCHED_SLOT6,
   Reg.VSC_SCHED_SLOT7, Reg.VSC_SCHED_SLOT8, Reg.VSC_SCHED_SLOT9, Reg.VSC_SCHED_SLOT10, Reg.VSC_SCHED_SLOT11, Reg.VSC_SCHED_SLOT12, Reg.VSC_SCHED_SLOT13]

/-- Times per round of a WEIGHT code (R94). -/
def hkaTimes (w : Nat) : Nat := if w = 3 then 4 else w

namespace State

/-- The schedule objects that run: both normal ones, or the solo one of the healthy converter (R83, R88). -/
def runningScheds (s : State) : List Nat :=
  if s.on Reg.VSC_STATUS_SOLO then (if s.on Reg.VSC_STATUS_VABAD then [3] else [2]) else [0, 1]

/-- Slots per 160 ns cycle that convert a source (R84). -/
def slotsOf (s : State) (src : Nat) : Nat :=
  s.runningScheds.foldl (fun n k => n + (schedSlots.filter (fun f => s.rd f k == src)).length) 0

/-- The length of the housekeeping round in conversions (R93). -/
def hkaRound (s : State) : Nat := (List.range 40).foldl (fun n i => n + hkaTimes (s.rd Reg.HKA_WEIGHT i)) 0

/-- The update rate of an LE context in Hz (R131, R329): a rail takes every fourth result in INTERMISSION. -/
def ctxRate (s : State) (c : Nat) : Nat :=
  if c = 4 then (if s.rd Reg.HAM_CTL_AMODE = 0 then 0 else s.slotsOf 5 * 6250000)
  else if s.railState c = railRamp ∨ s.railState c = railRegulate then s.slotsOf (c + 1) * (if s.mode = 5 then 1562500 else 6250000) else 0

/-- The native rate of a source in Hz as a fraction (R329); a source that is switched off delivers nothing. -/
def exactRate (s : State) (src : Nat) : Nat × Nat :=
  if src < 0x10 then (s.slotsOf src * 6250000, 1)
  else if src < 0x40 then
    let c := src - 0x10
    if s.on Reg.CSA_EN c ∧ s.on Reg.PWM_CEN c ∧ s.half c ≠ 0 then (400000000, s.half c) else (0, 1)
  else if src < 0x48 then (s.ctxRate (src - 0x40), 1)
  else if src < 0x50 then (s.ctxRate (src - 0x48), 1)
  else if src < 0x60 then (s.ctxRate (src - 0x50), 1)
  else if src < 0x90 then (hkaTimes (s.rd Reg.HKA_WEIGHT (src - 0x60)) * 1000000, max 1 s.hkaRound)
  else if src = 0x90 then (if s.on Reg.CCT_CTL_EN then 4000 else 0, 1)
  else (200000000, 1)

/-- The native rate of a source in whole Hz (R329). -/
def nativeRate (s : State) (src : Nat) : Nat := (s.exactRate src).1 / (s.exactRate src).2

/-- A source has latched a value: every channel that records it takes it in the same tick (R329). -/
def capFeed (s : State) (src w : Nat) : State :=
  let s := s.capSync
  (List.range 16).foldl (fun s c => if s.rd Reg.CAP_SRC c = src ∧ s.recording c then s.takeSample c w else s) s

/-- The OUT bits of a group of 16 comparators, as its sample (R329). -/
def cmpOuts (s : State) (g : Nat) : Nat := listMask ((List.range 16).filter (fun j => s.on Reg.CMP_OUT (16 * g + j)))

/-- OUT of an instance has changed: its channels hold the samples up to this tick, and the next core tick samples the new outputs (R329). -/
def feedCmp (s : State) (i : Nat) : State :=
  let s := s.capSync
  (List.range 16).foldl (fun s c => if s.rd Reg.CAP_SRC c = 0xA0 + i / 16 ∧ s.vOn .capNext c then (s.setV .capWas c (s.cmpOuts (i / 16))).cmpSample c else s) s

/-- The rate of a channel's source differs from the one at arming (R337). -/
def rateMoved (s : State) (c : Nat) : Bool :=
  let q := s.exactRate (s.rd Reg.CAP_SRC c)
  q.1 * s.vn .capDen c != s.vn .capNum c * q.2

/-- A channel of a job records at another effective rate than the one at arming (R337). -/
def rateOff (s : State) (c : Nat) : Bool := s.rd Reg.CAP_HOLD c == holdJob && s.recording c && s.rateMoved c

/-- RATECHG is set in every channel whose rate has changed (R337). -/
def rateCheck (s : State) : State := (List.range 16).foldl (fun s c => if s.rateOff c then s.wr Reg.CAP_RATECHG c 1 else s) s

end State

end Sys2Proof.Machine
end

