-- ==== Sys2Proof/Machine/Flags.lean ====
section
/-!
DEFINITION. What follows a command whatever it was: the interrupt controller samples the inputs that are levels of the block (R435, R436), and a running block answers with its next state.
-/

namespace Sys2Proof.Machine

namespace State

/-- One of the instances from `a` on, `n` of them, has a one-bit field set. -/
def anyOn (s : State) (f : Fld) (a n : Nat) : Bool := (List.range n).any (fun i => s.on f (a + i))

/-- One of the comparators from `a` on, `n` of them, is asserted; an output in its starting state raises no interrupt (R71). -/
def anyOut (s : State) (a n : Nat) : Bool := (List.range n).any (fun i => s.on Reg.CMP_OUT (a + i) && !s.vOn .cmpStart (a + i))

/-- The inputs of the interrupt controller that follow the block's own flags, by source (R435). The other sources are single events. Source 66 reports changes of EN, so its input is low at the reset value of EN (log entry 18). -/
def icuInputs (s : State) : List (Nat × Bool) :=
  [(2, s.on Reg.CLK_STATUS_REFOK),
   (8, s.anyOn Reg.PWM_TRIPF 0 32), (9, s.anyOn Reg.PWM_TRIPF 32 2), (10, s.anyOn Reg.PWM_FLTF 0 34),
   (13, s.on Reg.PWM_SYNCST_LOSTF), (16, s.on Reg.VSC_STATUS_MISF), (18, s.on Reg.VSC_STATUS_UNRES), (19, s.on Reg.CAL_STAT_BUSY),
   (24, s.anyOut 0 16), (25, s.anyOut 16 16), (26, s.anyOut 32 2 || s.anyOut 44 2), (27, s.anyOut 34 4), (28, s.anyOut 38 4),
   (29, s.anyOut 42 1), (30, s.anyOut 43 1), (31, s.anyOut 46 2),
   (32, s.anyOn Reg.LE_BUDF 0 5), (33, s.anyOn Reg.LE_WINERR 0 5 || s.anyOn Reg.LE_DUPF 0 5), (34, s.on Reg.LE_CTL_SWPEND),
   (36, s.on Reg.LE_CTL_HALTED), (38, s.on Reg.IDENT_STAT_DONE || s.on Reg.IDENT_STAT_ABRT),
   (40, s.anyOn Reg.PHM_FAILF 0 34), (41, s.anyOn Reg.PHM_LEDG_REVERSED 0 4), (43, s.on Reg.PHM_CTL_CBFL), (45, s.on Reg.PHM_TAB_STALE),
   (46, s.on Reg.PHM_CHAR_DONE || s.on Reg.PHM_CHAR_ABRT),
   (49, s.on Reg.CUE_LINK_LOSSF), (50, s.on Reg.CUE_LINK_NOVERF), (55, s.on Reg.CUE_LINK_THRNV),
   (56, s.on Reg.HAM_STAT_HOLDF), (57, s.on Reg.HAM_STAT_EXHF), (58, s.on Reg.HAM_STAT_RESTF), (59, s.on Reg.HAM_STAT_HDR),
   (66, !s.on Reg.CCT_CTL_EN),
   (80, !s.twa.rx.isEmpty), (81, !s.twb.rx.isEmpty), (88, !s.hsp.rx.isEmpty),
   (86, s.on Reg.TWX_STAT_BUSSTUCK || s.on Reg.TWX_STAT_LOWTOF || s.on Reg.TWX_STAT_ARBFAIL || s.on Reg.TWX_STAT_BUSYF),
   (96, s.anyOn Reg.THM_WARNF 0 9), (97, s.anyOn Reg.THM_THRF 0 9), (98, s.anyOn Reg.THM_SDF 0 9),
   (105, s.anyOn Reg.PROT_HICF 0 4), (108, s.on Reg.PROT_ARB_ARBF)]

/-- The core that a source targets (R435, R441). -/
def icuTarget (s : State) (n : Nat) : CoreId := if s.rd Reg.ICU_TGT n = 0 then .sc else .ac

/-- A source may be delivered to a core: it is targeted at it, or the fallback has offered it (R441). -/
def icuOffered (s : State) (c : CoreId) (n : Nat) : Bool := s.icuTarget n == c || s.vOn .fbSrc n

/-- The winner of the arbitration for a core: pending, enabled, offered, on no stack, above the running priority; the highest priority, the lowest number on a tie (R437). -/
def icuWinner (s : State) (c : CoreId) : Option Nat :=
  if s.icu.pend &&& s.icu.en = 0 then none
  else
    (List.range 128).foldl (fun (a : Option Nat) n =>
      if s.icu.pend.getLsbD n && s.icu.en.getLsbD n && s.icuOffered c n && !(s.icu.stackSc ++ s.icu.stackAc).any (fun x => x.1 == n) &&
          (s.stack c).head?.all (fun x => decide (x.2 < s.rd Reg.ICU_PRIO n)) && a.all (fun m => decide (s.rd Reg.ICU_PRIO m < s.rd Reg.ICU_PRIO n))
      then some n else a) none

/-- A core fetches instructions: neither halted nor stopped by a fatal fault (R433, R483). -/
def coreRuns (s : State) (c : CoreId) : Bool := !s.coreHalted c && !s.on Reg.ICU_CORE_FATAL c.idx

/-- A source that wins for a sleeping core raises its wake request (R441). -/
def wakeCheck (s : State) (c : CoreId) : State :=
  if s.on Reg.ICU_CORE_SLEEP c.idx ∧ ¬ s.on Reg.ICU_CORE_WAKEREQ c.idx ∧ s.coreRuns c ∧ (s.icuWinner c).isSome then
    (s.wr Reg.ICU_CORE_WAKEREQ c.idx 1).setV .wakeAt c.idx (s.now + 1)
  else s

/-- What follows a command: capture channels notice a changed rate (R337), the interrupt controller samples its inputs (R436) and raises wake requests (R441). -/
def settle (s0 : State) : State :=
  let s := s0.rateCheck
  let s : State := { s with icu := s.icuInputs.foldl (fun u x => u.sample (s.rd Reg.ICU_SENSE x.1) x.1 x.2) s.icu }
  (s.wakeCheck .sc).wakeCheck .ac

end State

/-- The answer of a block that runs: the effect, then, unless it was a reset, what follows. A block held in reset or without supply takes no command (R48). -/
def act (s : State) (f : State → State) : Host.Outcome State Fault Refusal :=
  if s.power = .running then .next (if (f s).power = .running then (f s).settle else f s) else .next s

end Sys2Proof.Machine
end

