-- ==== Sys2Proof/Machine/Forecast.lean ====
section
/-!
DEFINITION. Forecast windows of a rail: lift, kick, score and outcomes (R141, R228 to R232).
-/

namespace Sys2Proof.Machine

/-- Outcome codes of a forecast (R230). -/
def outHit : Nat := 1
def outMiss : Nat := 2
def outCancelled : Nat := 3
def outSuperseded : Nat := 4
def outDiscarded : Nat := 5
def outClosed : Nat := 6

namespace State

/-- The lift of a rail now, in Q4.28 volts: linear between two points, constant outside them (R141). -/
def lift (s : State) (r : Nat) : Int :=
  let t0 := s.v .liftT0 r
  let t1 := s.v .liftT1 r
  let t : Int := s.now
  if t1 ≤ t then s.v .liftV1 r
  else if t ≤ t0 then s.v .liftV0 r
  else s.v .liftV0 r + rdiv ((s.v .liftV1 r - s.v .liftV0 r) * (t - t0)) (t1 - t0)

/-- The lift runs from its present value to `x` by the tick `t1` (R141). -/
def liftTo (s : State) (r : Nat) (x : Int) (t1 : Nat) : State :=
  let y := s.lift r
  (((s.setV .liftV0 r y).setV .liftT0 r s.now).setV .liftV1 r x).setV .liftT1 r t1

/-- FCST of a rail: 0 outside REGULATE (R141). -/
def fcst (s : State) (r : Nat) : Int := if s.railState r = railRegulate ∧ ¬ s.rampingDown r then s.lift r else 0

/-- FKICK of a rail for a result latched now (R141). -/
def fkick (s : State) (r : Nat) : Int :=
  if s.railState r = railRegulate ∧ ¬ s.rampingDown r ∧ (s.now : Int) ≤ s.v .kickEnd r - 1 then s.v .kickVal r else 0

/-- The outcome of a forecast is reported: LASTOUT, its counter, SCORE, and a FACK while fewer than eight wait (R219, R230, R231). -/
def outcome (s : State) (r fid out : Nat) : State :=
  let sc := s.rd Reg.CUE_SCORE r
  let s := if out = outHit then s.wr Reg.CUE_SCORE r (sc + (65535 - sc) / 2 ^ bits (s.vn .fcWin r) 7 4)
    else if out = outMiss then s.wr Reg.CUE_SCORE r (sc - sc / 2 ^ bits (s.vn .fcWin r) 3 0) else s
  let s := s.wr Reg.CUE_LASTOUT r out
  let s := if out = outMiss then s.capTrigger 0x05 r else s
  let s := if out = outHit then s.bump Reg.CUE_HITCNT r else if out = outMiss then s.bump Reg.CUE_MISSCNT r
    else if out = outCancelled then s.bump Reg.CUE_CANCNT r else if out = outSuperseded then s.bump Reg.CUE_SUPCNT r
    else if out = outDiscarded then s.bump Reg.CUE_DISCNT r else s.bump Reg.CUE_CLOSCNT r
  if s.rd Reg.CUE_LINK_STATE = 4 ∧ 2 ≤ s.rd Reg.CUE_LINK_AV ∧ s.facks.length < 8 then
    { s with facks := s.facks ++ [⟨r, fid, out, s.rd Reg.CUE_SCORE r / 256⟩] }
  else s

/-- The open window of a rail ends with an outcome; every end but a supersession lets the lift decay, and a hit raises the kick for one rail period (R141, R230). -/
def closeWindow (s : State) (r out : Nat) : State :=
  if s.on Reg.CUE_OPEN r then
    let s := (s.wr Reg.CUE_OPEN r 0).outcome r (s.rd Reg.CUE_FID r) out
    let s := s.setV .ipreFrom r 0
    if out = outSuperseded then s
    else
      let s := (s.setV .tFcRamp r 0).liftTo r 0 (s.now + max (s.vn .fcPre r) 400)
      if out = outHit then
        let period := match s.lead r with
          | some c => s.half c
          | none => 0
        (s.setV .kickEnd r (s.now + period + 1)).setV .kickVal r (rdiv (s.v .fcC r * s.v .fcDi r * 2 ^ 28) (65535 * 4000))
      else s.setV .kickEnd r 0
  else s

/-- A rail leaves REGULATE: its window closes and its ports read 0 from now on (R141, R230). -/
def closeForecast (s : State) (r : Nat) : State :=
  let s := (s.closeWindow r outClosed).setV .kickEnd r 0
  [Var.liftT0, .liftV0, .liftT1, .liftV1, .tFcRamp].foldl (fun s x => s.setV x r 0) s

end State

end Sys2Proof.Machine
end

