-- ==== Sys2Proof/Machine/Lanes.lean ====
section
/-!
DEFINITION. The Loop Engine's lanes: the microcode interpreter and the basic control law (R130 to R136, R149 to R155).
-/

namespace Sys2Proof.Machine

/-- 1.0 in Q4.28. -/
def one28 : Int := 2 ^ 28

/-- A product rounded to nearest after a right shift (R134). -/
def mulr (a b : Int) (sh : Nat) : Int := rdiv (a * b) (2 ^ sh)

/-- The port values of a context during one update, by operand code from 0x20 to 0x2F (R133). -/
abbrev Ports := List Int

/-- A lane during one update (R130). -/
structure Lane where
  regs : List Int
  ax : Int
  ay : Int
  n : Bool
  z : Bool
  v : Bool
  stack : List Nat
  /-- Writes to output ports, in order. -/
  outs : List (Nat × Int)
  winerr : Bool
  free : Nat

/-- What ended an update (R131, R132, R153). -/
inductive LaneEnd where
  | reached | exhausted
  deriving DecidableEq, Repr

/-- A 96-bit microcode word (R149, R150). -/
def State.ucode (s : State) (a : Nat) : Nat := leNat (s.bytesAt (0x90000000 + 16 * a) 12)

/-- The coefficient block of a context (R136). -/
def coefBase (ctx : Nat) : Nat := 0x60 * ctx

/-- A coefficient word that a context reads: its own block and the shared block, from the bank it is on, or from the bank before its flip while its input was latched before the flip; elsewhere 0 (R136, R148). -/
def State.coef (s : State) (ctx a : Nat) : Int :=
  if (coefBase ctx ≤ a ∧ a < coefBase ctx + 0x60) ∨ (0x1E0 ≤ a ∧ a < 0x200) then
    sgn 32 (s.wordAt ((if s.vOn .flipped ctx != s.vOn .oldBank ctx then 0x90010800 else 0x90010000) + 4 * a))
  else 0

/-- A context may read a coefficient address (R136). -/
def coefAllowed (ctx a : Nat) : Bool := (decide (coefBase ctx ≤ a) && decide (a < coefBase ctx + 0x60)) || (decide (0x1E0 ≤ a) && decide (a < 0x200))

/-- An accumulator's value; a sum outside its 72 bits is a free value (R151, log entry 13). -/
def acc72 (x : Int) (ctr : Nat) : Int × Nat :=
  if x = satS 72 x then (x, ctr) else (sgn 72 (Config.freeValue ctr % 2 ^ 72), ctr + 1)

/-- An operand's value at the start of a word (R133). -/
def Lane.src (l : Lane) (p : Ports) (c : Nat) : Int :=
  if c < 0x20 then l.regs.getD c 0
  else if c = 0x2A then satS 32 (l.ax / 2 ^ 28)
  else if c = 0x2B then satS 32 (l.ay / 2 ^ 28)
  else if c < 0x2E then p.getD (c - 0x20) 0
  else 0

/-- A destination takes a value: a register, an output port, or nothing (R133). -/
def Lane.dst (l : Lane) (c : Nat) (x : Int) : Lane :=
  if c < 0x20 then { l with regs := l.regs.set c x }
  else if c < 0x2E then { l with winerr := true }
  else if 0x30 ≤ c ∧ c ≤ 0x33 then { l with outs := l.outs ++ [(c, x)] }
  else l

/-- What one slot does: its accumulator after the word, the value for its destination, its result for the flags, and saturation (R151). -/
structure SlotOut where
  acc : Int
  val : Option Int
  res : Option Int
  sat : Bool
  bad : Bool
  free : Nat

/-- One slot operation (R149, R151). -/
def slotOp (s : State) (ctx : Nat) (l : Lane) (p : Ports) (w : Nat) (acc : Int) (ctr : Nat) : SlotOut :=
  let a := l.src p (bits w 27 22)
  let b := l.src p (bits w 21 16)
  let ca := bits w 15 7
  let c := s.coef ctx ca
  let okc := coefAllowed ctx ca
  let put (x : Int) (bad : Bool) : SlotOut := ⟨acc, some (satS 32 x), some (satS 32 x), x != satS 32 x, bad, ctr⟩
  let accum (x : Int) (bad : Bool) : SlotOut := let r := acc72 x ctr; ⟨r.1, none, some r.1, false, bad, r.2⟩
  match bits w 39 34 with
  | 0x00 => ⟨acc, none, none, false, false, ctr⟩
  | 0x01 => put a false
  | 0x02 => put (a + b) false
  | 0x03 => put (a - b) false
  | 0x04 => accum (a * c) (!okc)
  | 0x05 => accum (acc + a * c) (!okc)
  | 0x06 => accum (acc - a * c) (!okc)
  | 0x07 => accum (a * b) false
  | 0x08 => accum (acc + a * b) false
  | 0x09 =>
    let sh := 16 + bits w 6 2
    let x := (acc + (if bit w 0 then 2 ^ (sh - 1) else 0)) / 2 ^ sh
    let y := if bit w 1 then satS 32 x else sgn 32 (code 32 x)
    ⟨acc, some y, some y, bit w 1 && x != y, false, ctr⟩
  | 0x0A => put (min a b) false
  | 0x0B => put (max a b) false
  | 0x0C => put (clamp c (s.coef ctx (ca + 1)) a) (!okc || !coefAllowed ctx (ca + 1))
  | 0x0D => put a.natAbs false
  | 0x0E => put c (!okc)
  | 0x0F => ⟨acc, none, some (a - b), a - b != satS 32 (a - b), false, ctr⟩
  | 0x10 => ⟨0, none, some 0, false, false, ctr⟩
  | _ => ⟨acc, none, none, false, true, ctr⟩

/-- Both slots of a word: they read what stood at its start and write at its end, slot Y's value kept (R153). -/
def Lane.word (s : State) (ctx : Nat) (l : Lane) (p : Ports) (w : Nat) : Lane :=
  let x := slotOp s ctx l p (bits w 79 40) l.ax l.free
  let y := slotOp s ctx l p (bits w 39 0) l.ay x.free
  let l1 := { l with ax := x.acc, ay := y.acc, winerr := l.winerr || x.bad || y.bad, free := y.free }
  let l2 := match x.res with
    | some r => { l1 with n := decide (r < 0), z := r == 0, v := x.sat }
    | none => l1
  let dx := bits w 73 68
  let dy := bits w 33 28
  let l3 := match x.val with
    | some r => if y.val.isSome && dx == dy then l2 else l2.dst dx r
    | none => l2
  match y.val with
  | some r => l3.dst dy r
  | none => l3

/-- The next word under the flow operation, or the end (R152). `fc` is true when FCST or FKICK is non-zero. -/
def Lane.flow (l : Lane) (w a : Nat) (fc : Bool) : Option Nat × Lane :=
  let t := bits w 91 80
  let br (b : Bool) : Option Nat × Lane := (some (if b then t else a + 1), l)
  match bits w 95 92 with
  | 0x0 => br false
  | 0x1 => br true
  | 0x2 => br l.n
  | 0x3 => br l.z
  | 0x4 => br (!l.n)
  | 0x5 => br l.v
  | 0x6 => br fc
  | 0x7 => if l.stack.length < 2 then (some t, { l with stack := (a + 1) :: l.stack }) else (some (a + 1), { l with winerr := true })
  | 0x8 => match l.stack with
    | r :: rest => (some r, { l with stack := rest })
    | [] => (some (a + 1), { l with winerr := true })
  | 0xF => (none, l)
  | _ => (some (a + 1), { l with winerr := true })

/-- Words from `a` on, at most `budget`, inside the program region (R132, R153, R154). -/
def Lane.run (s : State) (ctx entry len : Nat) (p : Ports) (fc : Bool) : Nat → Nat → Lane → Lane × LaneEnd
  | 0, _, l => (l, .exhausted)
  | k + 1, a, l =>
    if a < entry ∨ entry + len ≤ a then ({ l with winerr := true }, .exhausted)
    else
      let w := s.ucode a
      match (l.word s ctx p w).flow w a fc with
      | (none, l) => (l, .reached)
      | (some a, l) => Lane.run s ctx entry len p fc k a l

namespace State

/-- The lane of a context as the last update left it. -/
def loadLane (s : State) (ctx : Nat) : Lane :=
  ⟨(List.range 32).map (fun i => s.v .vreg (ctx * 32 + i)), s.v .accX ctx, s.v .accY ctx, s.vOn .flagN ctx, s.vOn .flagZ ctx, s.vOn .flagV ctx,
    ((List.range (s.vn .stkDepth ctx)).map (fun i => s.vn .stkEntry (ctx * 2 + i))), [], false, s.freeCtr⟩

/-- The lane's registers, accumulators, flags and stack kept for the next update (R130, R154). -/
def storeLane (s : State) (ctx : Nat) (l : Lane) : State :=
  let s : State := (l.regs.zipIdx).foldl (fun s x => s.setV .vreg (ctx * 32 + x.2) x.1) s
  let s := (((s.setV .accX ctx l.ax).setV .accY ctx l.ay).setOn .flagN ctx l.n).setOn .flagZ ctx l.z
  let s := (s.setOn .flagV ctx l.v).setV .stkDepth ctx l.stack.length
  let s : State := (l.stack.zipIdx).foldl (fun s x => s.setV .stkEntry (ctx * 2 + x.2) x.1) s
  let s := if l.winerr then s.wr Reg.LE_WINERR ctx 1 else s
  { s with freeCtr := l.free }

/-- V00 to V31 and both accumulators cleared at a ramp start, with the basic law's state (R134, R143). -/
def clearLane (s : State) (ctx : Nat) : State :=
  let s : State := (List.range 32).foldl (fun s i => s.setV .vreg (ctx * 32 + i) 0) s
  [Var.accX, .accY, .lawItf, .lawI, .lawD, .lawE, .lawHi, .lawLo, .shreq].foldl (fun s x => s.setV x ctx 0) s

/-- A coefficient of the basic law, from the half of the block that the mode selects (R134, R135). -/
def lawCoef (s : State) (r x : Nat) : Int := s.coef r (coefBase r + x + (if s.mode = 5 then 0x30 else 0))

/-- The basic law's update (R134): the state after it and the duty in Q4.28. All quantities are Q4.28 (log entry 14). -/
def basicLaw (s : State) (r : Nat) (p : Ports) : State × Int :=
  let c := s.lawCoef r
  let pt (k : Nat) : Int := p.getD (k - 0x20) 0
  let vsense := pt 0x20
  let itf := satS 32 (s.v .lawItf r + mulr (c 0x09) (pt 0x22 - s.v .lawItf r) 30)
  let vt := max (satS 32 (pt 0x21 - mulr (c 0x08) itf 28 + pt 0x25)) 0
  let e := satS 32 (vt - vsense)
  let iTry := satS 32 (s.v .lawI r + mulr (c 0x01) e 28)
  let ilim := rdiv (c 0x04) 4
  let i := if ¬ (s.vOn .lawHi r ∧ 0 < e) ∧ ¬ (s.vOn .lawLo r ∧ e < 0) then clamp (-ilim) ilim iTry else s.v .lawI r
  let d := satS 32 (mulr (c 0x03) (s.v .lawD r) 30 + mulr (c 0x02) (e - s.v .lawE r) 24)
  let u := satS 32 (mulr (mulr (c 0x07) vt 28) (pt 0x24) 28 + mulr (c 0x00) e 24 + i + d + mulr (c 0x0A) (pt 0x26) 28)
  let dmin := rdiv (c 0x05) 4
  let dmax := rdiv (c 0x06) 4
  let hi := decide (dmax < u)
  let lo := decide (u < dmin)
  let s := ((s.setV .lawItf r itf).setV .lawI r i).setV .lawD r d
  let s := ((s.setV .lawE r e).setOn .lawHi r hi).setOn .lawLo r lo
  let s := if hi || lo then (s.wr Reg.LE_SATF r 1).identSpoil r else s
  let s := (s.setOn .stepNow r (decide (c 0x0B < (e.natAbs : Int)))).setV .vtNow r vt
  (s, clamp dmin dmax u)

/-- The user law's update: the state after it, how it ended, and the outputs written (R132, R133). Context 4 has no forecast ports for BFC to test (R251). -/
def userLaw (s : State) (ctx entry len : Nat) (p : Ports) : State × LaneEnd × List (Nat × Int) :=
  let fc := ctx != 4 && (p.getD 5 0 != 0 || p.getD 6 0 != 0)
  let x := Lane.run s ctx entry len p fc (s.rd Reg.LE_BUDGET ctx) entry (s.loadLane ctx)
  (s.storeLane ctx x.1, x.2, x.1.outs)

end State

end Sys2Proof.Machine
end

