-- ==== Sys2Proof/Machine/Modes.lean ====
section
/-!
DEFINITION. The device mode and the rail states: leaving and entering a mode, hiccup, FAULTOFF, ramps, CURTAIN, SAFESTOP, and what each ends (R40 to R47, R68, R69, R143 to R146, R191, R256 to R259, R302 to R310, R518).
-/

namespace Sys2Proof.Machine

/-- Mode codes (R40). -/
def mBoot : Nat := 1
def mMinimal : Nat := 2
def mStandby : Nat := 3
def mActive : Nat := 4
def mInter : Nat := 5
def mHoldup : Nat := 6
def mCurtain : Nat := 7
def mSafestop : Nat := 8
def mRehearsal : Nat := 9
def mCharacterise : Nat := 10
def mUpdate : Nat := 11

/-- FOCAUSE codes (R324). -/
def foRetries : Nat := 1
def foOv : Nat := 2
def foUv : Nat := 3

namespace State

/-! ### The Hamper mode in force -/

/-- The mode that the Hamper is to run in, with ICAUSE (R45, R248, R305). When several causes isolate it, the latch is shown first, then the IB, the device mode, CAL_ADC, and an output of instance 46 or 47 that keeps it in ISOLATE (log entry 17). -/
def hamWant (s : State) : Nat × Nat :=
  let m := s.mode
  let sm := s.rd Reg.HAM_CTL_SMODE
  let uv := s.on Reg.CMP_OUT 42 && s.vOn .cmpStart 42
  let held := s.rd Reg.HAM_CTL_AMODE == 0 && (s.on Reg.CMP_OUT 46 || s.on Reg.CMP_OUT 47)
  if s.on Reg.PROT_LATCH_HAMLAT then (0, 4)
  else if m = mHoldup ∨ (m = mCurtain ∧ s.vOn .ibLost) then (if held then (0, 4) else (4, 0))
  else if s.vOn .ibLost ∨ uv then (0, 3)
  else if [1, 2, 8, 9, 11].contains m then (0, 1)
  else if s.on Reg.CAL_STAT_BUSY then (0, 2)
  else if held then (0, 4)
  else if sm = 1 ∧ m = mStandby then (2, 0)
  else (sm, 0)

/-- A hold-up ends: HOLDT keeps its length (R264). -/
def holdEnd (s : State) : State :=
  if s.vn .holdFrom = 0 then s
  else (s.wr Reg.HAM_STAT_HOLDT 0 (min 65535 ((s.now + 1 - s.vn .holdFrom) / 4000))).setV .holdFrom 0 0

/-- The Hamper mode in force changes (R249, R252, R253, R254). -/
def hamTake (s : State) (m cause : Nat) : State :=
  let old := s.rd Reg.HAM_CTL_AMODE
  let s := ((s.showAmode m).wr Reg.HAM_CTL_ICAUSE 0 (if m = 0 then cause else 0)).setV .hamRamp 0 0
  if m = old then s
  else
    let s := if old = 0 then (s.clearLane 4).setV .hamIi 0 0 else if old = 4 then s.holdEnd else s
    if m = 1 then s.setV .hamItgt 0 (s.v .hamIup)
    else if m = 4 then s.setV .hamIhv 0 (satS 32 (s.v .hamIhIb + s.v .hamIupU))
    else s

/-- With the carrier of H0 stopped there is no reload to wait for, and the wanted mode is in force at once (R248, R249; log entry 55). -/
def hamAtOnce (s : State) : State := if s.on Reg.PWM_CEN 32 then s else s.hamTake s.hamWant.1 s.hamWant.2

/-! ### Completion of rail commands (R395) -/

/-- The RAIL_ON or RAIL_OFF commands of a rail complete. -/
def endWaits (s : State) (r : Nat) (isOn : Bool) (status reason : Nat) : State :=
  let mine (w : RailWait) : Bool := w.rail == r && w.isOn == isOn
  let s' := (s.railWaits.filter mine).foldl (fun s w => s.complete w.port1 w.tag (if isOn then 0x21 else 0x22) status reason) s
  { s' with railWaits := s.railWaits.filter (fun w => !mine w) }

/-- The RAIL_ON commands of a rail complete. -/
def endOn (s : State) (r status : Nat) (reason : Nat := 0) : State := s.endWaits r true status reason

/-- The RAIL_OFF commands of a rail complete. -/
def endOff (s : State) (r status : Nat) (reason : Nat := 0) : State := s.endWaits r false status reason

/-- A RAIL_ON that has not acted is discarded with a reason (R146, R373, R395). -/
def unstageOn (s : State) (r reason : Nat) : State :=
  if s.vn .onStaged r = 1 then (s.setV .onStaged r 0).endOn r stFailed reason
  else if s.vn .onPub r = 1 then (s.setV .onPub r 0).endOn r stFailed reason
  else s

/-- A staged or published RAIL_OFF ends with the rail. -/
def clearOff (s : State) (r : Nat) : State :=
  let s := if s.vn .onStaged r = 2 then s.setV .onStaged r 0 else s
  if s.vn .onPub r = 2 then s.setV .onPub r 0 else s

/-! ### Procedures that a mode or rail change ends -/

/-- An identification run ends in an abort: no results, its channels are released (R163, R169); one that a halt of the AC has ended waits for its reason until the AC resumes. The record's code within class 0x10 is the model's (log entry 15). -/
def identAbort (s : State) (reason : Nat) : State :=
  if s.on Reg.IDENT_STAT_RUN ∧ (s.vn .identRunning ≠ 3 ∨ reason = 5) then
    let s := ((s.wr Reg.IDENT_STAT_RUN 0 0).wr Reg.IDENT_STAT_ABRT 0 1).wr Reg.IDENT_STAT_REASON 0 reason
    let s := (s.event 0x1002 1 (leBytes 1 (s.rd Reg.IDENT_CFG_RAIL) ++ leBytes 1 reason)).freeHolder holdIdent
    let s : State := { s with spectra := s.spectra.filter (fun x => x.job < 16) }
    ((s.complete (s.vn .identPort) (s.vn .identTag) 0x58 stFailed 0x0B).setV .identPort 0 0).setV .identRunning 0 0
  else s

/-- The identification run of a rail ends as the rail leaves REGULATE (R169). -/
def identLeaves (s : State) (r : Nat) : State := if s.rd Reg.IDENT_CFG_RAIL = r then s.identAbort 1 else s

/-- The procedure drives no rail any more; a start that it has not made is dropped. -/
def charFree (s : State) : State :=
  let t := s.vn .charTurn
  let s := if t ≠ 0 ∧ s.vn .onPub (t - 1) = 1 then s.setV .onPub (t - 1) 0 else s
  (s.setV .charTurn 0 0).setV .charAgain 0 0

/-- CAL_ADC begins: BUSY, the band of its set, and the factors and the converters' band in use at acceptance (R99 to R101); the Hamper is isolated. -/
def calStart (s : State) : State :=
  let s := ((s.wr Reg.CAL_STAT_BUSY 0 1).setV .calBand 0 s.band).setV .calAt 0 (s.now + 1)
  let s := s.setV .calVscBand 0 (if s.vn .vscBand = 0 then s.band + 1 else s.vn .vscBand)
  let s := (List.range 34).foldl (fun s c => (s.setV .calOfs c (s.rd Reg.CSA_OFS c)).setV .calGain c (s.rd Reg.CSA_GAIN c)) s
  s.hamAtOnce

/-- The procedure turns to a rail: it starts at the rail's boundary, or after a calibration when the band has no set (R203). -/
def charRail (s : State) (r : Nat) : State :=
  let s := (s.wr Reg.PHM_CHAR_RAIL 0 r).setV .charTurn 0 (r + 1)
  if bit (s.rd Reg.CAL_STAT_BANDS) s.band then s.setV .onPub r 1
  else if s.on Reg.CAL_STAT_BUSY then s
  else (s.setV .calPort 0 0).calStart

/-- The procedure turns to the next rail of its mask, or begins again for a band that the die has entered (R203). -/
def charNext (s : State) (after : Nat) : State :=
  let m := s.vn .charMask
  match (List.range 4).find? (fun r => decide (after ≤ r) && bit m r) with
  | some r => s.charRail r
  | none =>
    if s.vOn .charAgain then
      match (List.range 4).find? (fun r => bit m r) with
      | some r => (s.setV .charAgain 0 0).charRail r
      | none => s.setV .charTurn 0 0
    else s.setV .charTurn 0 0

/-- The die has entered another band: the loop runs again, now or after the present pass (R203). -/
def charBand (s : State) : State :=
  if s.on Reg.PHM_CHAR_RUN ∧ s.mode = 10 ∧ ¬ s.vOn .charLeave then
    if s.vn .charTurn = 0 then s.charNext 0 else s.setV .charAgain 0 1
  else s

/-- The characterisation procedure is aborted (R204). -/
def charAbort (s : State) (reason entry : Nat) : State :=
  if s.on Reg.PHM_CHAR_RUN then
    let s := ((s.charFree.wr Reg.PHM_CHAR_RUN 0 0).wr Reg.PHM_CHAR_ABRT 0 1).wr Reg.PHM_CHAR_REASON 0 reason
    (s.complete (s.vn .charPort) (s.vn .charTag) 0x7A stFailed entry).setV .charPort 0 0
  else s

/-- Halt causes (R485). -/
def haltRequest : Nat := 1
def haltStep : Nat := 2
def haltBreak : Nat := 3
def haltWatch : Nat := 4

/-- The halted flag and the cause field of a core. -/
def haltedFld : CoreId → Fld
  | .sc => Reg.DBG_STAT_SCHALTED
  | .ac => Reg.DBG_STAT_ACHALTED

def causeFld : CoreId → Fld
  | .sc => Reg.DBG_STAT_SCCAUSE
  | .ac => Reg.DBG_STAT_ACCAUSE

/-- A core is halted: its watchdog and the leases stop from now on (R19, R20), and a running identification stops with the AC. -/
def haltCore (s : State) (c : CoreId) (cause : Nat) : State :=
  if s.coreHalted c then s
  else
    let s := ((s.wr (haltedFld c) 0 1).wr (causeFld c) 0 cause).setV .haltAt c.idx s.now
    if c = .ac ∧ s.on Reg.IDENT_STAT_RUN then s.setV .identRunning 0 3 else s

/-- A halt that was requested of a core during its logic test takes effect as the test ends (R488). -/
def testHalts (s : State) : State :=
  let s := if s.on Reg.DBG_CTL_HALTSC then s.haltCore .sc haltRequest else s
  if s.on Reg.DBG_CTL_HALTAC then s.haltCore .ac haltRequest else s

/-- A self-test run stops; finished tests keep their results (R480). -/
def bistStop (s : State) (reason : Nat) : State :=
  if s.on Reg.BIST_STAT_RUN then
    let s := ((s.wr Reg.BIST_STAT_RUN 0 0).wr Reg.BIST_STAT_ABRT 0 1).testHalts
    (s.complete (s.vn .bistPort) (s.vn .bistTag) 0x79 stFailed reason).setV .bistPort 0 0
  else s

/-- The body of the estimator's state record (R281). -/
def gaugeBody (s : State) : List Byte :=
  let quiet := decide (s.rd Reg.HAM_CTL_AMODE = 0) && decide ((s.v .irvMa).natAbs ≤ 10 * s.rd Reg.GAU_CFG_ITAIL)
  leBytes 4 (s.rd Reg.GAU_STATE_STORED) ++ leBytes 4 (s.rd Reg.GAU_STATE_U) ++ leBytes 4 (s.rd Reg.GAU_LEDG_IN) ++
    leBytes 4 (s.rd Reg.GAU_LEDG_OUT) ++ leBytes 4 (s.rd Reg.GAU_LEDG_STORED0) ++ leBytes 4 (s.rd Reg.GAU_LEDG_LOSS) ++
    leBytes 2 (s.rd Reg.GAU_HLTH_CAP) ++ leBytes 2 (s.rd Reg.GAU_HLTH_DCR) ++ leBytes 4 (s.rd Reg.GAU_HLTH_THRU) ++ leBytes 2 (s.vn .a1soc) ++
    leBytes 1 (s.rd Reg.GAU_HLTH_NLEARN) ++ leBytes 1 (s.rd Reg.GAU_HLTH_CAPREJ) ++ leBytes 4 (code 32 (s.v .a1q)) ++
    leBytes 1 (s.rd Reg.GAU_STATE_CAPV + 2 * s.rd Reg.GAU_STATE_LSUSP + 4 * b2n quiet) ++ List.replicate 7 0

/-- The estimator's state record is written (R282), unless the final one of a brown-out waits (R284). -/
def gaugeRecord (s : State) : State := if s.on Reg.GAU_STATE_ACTIVE ∧ s.vn .tFinal = 0 then s.queueSlot 75 s.gaugeBody else s

/-- A change of the rest window's phase is reported to a load of version 3; the notices wait in order (R279; log entry 79). -/
def restNotice (s : State) (ph : Nat) : State :=
  let q := s.vn .restDue
  if s.rd Reg.CUE_LINK_AV < 3 then s else s.setV .restDue 0 (q + (ph + 1) * 4 ^ (if q = 0 then 0 else Nat.log2 q / 2 + 1))

/-- A rest window ends early: the saved SMODE is in force again unless the owner's stands (R280, R284). -/
def restAbort (s : State) (reason : Nat) : State :=
  if s.rd Reg.GAU_REST_PH = 2 then
    let s := if reason = 3 then s else (s.wr Reg.HAM_CTL_SMODE 0 (s.vn .smodeSave - 1)).hamAtOnce
    let s := (((s.setV .smodeSave 0 0).setV .tRelax 0 0).setV .relaxDone 0 0).setV .tRest 0 0
    let s := ((s.wr Reg.GAU_REST_PH 0 0).wr Reg.GAU_REST_GRANTED 0 0).wr Reg.GAU_REST_QONLY 0 0
    let s := ((s.wr Reg.GAU_REST_ABRTF 0 1).wr Reg.GAU_REST_ABRTR 0 reason).restNotice 0
    (s.event 0x6014 1 (leBytes 1 reason)).gaugeRecord
  else s

/-! ### Leaving RAMP, REGULATE and HICCUP -/

/-- Every phase of a rail is off at once, without waiting for its reload (R307, R310). -/
def forceOff (s : State) (r : Nat) : State :=
  (s.assigned r).foldl (fun s c => ((s.wr Reg.PWM_OST c 0).setV .ostArm c 0).wr Reg.PWM_ACC c 0) s

/-- Active phases of a rail outside RAMP and REGULATE read ROLE 2, an understudy that a characterisation made active ROLE 3 again; shedding stops (R178, R192, R203). -/
def phasesAside (s : State) (r : Nat) : State :=
  let s := (s.assigned r).foldl (fun s c => if s.rd Reg.PHM_ROLE c = 1 then (s.setRole c (if s.rd Reg.PHM_SLOT c = 0x3F then 3 else 2)).wrB Reg.PHM_DEPART c false else s) s
  ((((s.wr Reg.PHM_LEDG_SHEDDING r 0).wr Reg.PHM_LEDG_HOLDING r 0).setV .tDwell r 0).setV .tHold r 0).setV .shedJ r 0

/-- What ends when a rail leaves RAMP and REGULATE, or HICCUP: PGOOD, its timers, its window, its shedding, an identification run on it. -/
def leaveService (s : State) (r : Nat) : State :=
  let s := ((s.wr Reg.LE_PG r 0).setDown r false).closeForecast r
  let s := [Var.tEndly, .tPgdly, .tHoff, .tRetry, .starting, .stopping, .hicRetry, .curDown, .inWait, .inSkip, .stepNow, .uvDone].foldl (fun s x => s.setV x r 0) s
  (s.phasesAside r).identLeaves r

/-- EN_x is deasserted, unless the low-side hold keeps it (R145, R302). -/
def dropEn (s : State) (r : Nat) : State := if s.vOn .ovHold r then s else s.setV .en r 0

/-- A rail enters FAULTOFF (R68, R308, R395). -/
def enterFaultOff (s : State) (r cause : Nat) : State :=
  let s := ((s.leaveService r).forceOff r).dropEn r
  let s := ((s.setRail r railFaultOff).wr Reg.PROT_FOCAUSE r cause).irq 106
  let s := (s.event 0x3005 2 (leBytes 1 r ++ leBytes 1 cause)).alertFault 0x3005
  ((s.endOn r stFailed 0x04).endOff r stFailed 0x0F).clearOff r

/-- A rail enters HICCUP (R307). -/
def enterHiccup (s : State) (r : Nat) : State :=
  let s := ((s.leaveService r).forceOff r).dropEn r
  let s := ((s.setRail r railHiccup).wr Reg.PROT_HICF r 1).bump Reg.PROT_HICTOT r
  let s := (s.wr Reg.PROT_HCNT r 0).setV .cleanPer r 0
  let s := s.setV .tHoff r (s.now + s.rd Reg.PROT_HOFF r * 400000 + 1)
  ((s.event 0x3004 1 (leBytes 1 r)).capTrigger 0x09 r).endOn r stFailed 0x04

/-- A rail enters DISABLED; a RAIL_ON whose ramp had not ended fails, a RAIL_OFF completes (R145, R395). -/
def toDisabled (s : State) (r : Nat) : State :=
  let s := (s.leaveService r).dropEn r
  let s := s.setRail r railDisabled
  ((s.endOn r stFailed 0x04).endOff r stOk).clearOff r

/-! ### The device mode -/

/-- Modes in which RAIL_ON is served (R69). -/
def railOnModes : List Nat := [3, 4, 5]

/-- A transition that a host commanded ends with this mode entry (R43, R44). -/
def endModeCommand (s : State) (m : Nat) : State :=
  let w := s.vn .modeWant
  if w = 0 ∨ (w = 7 ∧ m = 7) then s
  else
    let ok := w == m || (w == 7 && s.mode == 7 && m == 3)
    let s := s.complete (s.vn .modePort) (s.vn .modeTag) 0x70 (if ok then stOk else stFailed) 0x0B
    (s.setV .modeWant 0 0).setV .modePort 0 0

/-- UP begins: telemetry starts, and STATUS follows at its interval (R222, R233). -/
def cueTimers (s : State) : State := (s.setV .tTelem 0 0).setV .tStatus 0 (s.now + s.rd Reg.CUE_CTL_STATPER * 40000 + 1)

/-- The Cue link follows the mode: OFF in BOOT and MINIMAL, LISTEN in INTERMISSION (R220). -/
def cueFollows (s : State) (m : Nat) : State :=
  let st := s.rd Reg.CUE_LINK_STATE
  if m = 1 ∨ m = 2 then
    if st = 0 then s else ((List.range 4).foldl (fun s r => s.closeWindow r outClosed) s).wr Reg.CUE_LINK_STATE 0 0
  else if st = 0 then if s.on Reg.CUE_CTL_CUEEN then s.wr Reg.CUE_LINK_STATE 0 1 else s
  else if m = 5 ∧ st = 4 then s.wr Reg.CUE_LINK_STATE 0 5
  else if m ≠ 5 ∧ st = 5 then (s.wr Reg.CUE_LINK_STATE 0 4).cueTimers
  else s

/-- Burst operation of a rail starts or ends: its active phases take or leave DEFER, and a change of policy clears ACC (R110, R191). -/
def setBurst (s : State) (r : Nat) (b : Bool) : State :=
  (s.active r).foldl (fun s c => if s.rd Reg.PWM_PFP c = 2 then s else s.wr Reg.PWM_ACC c 0) (s.setOn .burst r b)

/-- The recorder's run over stop modes (R462). -/
def runFollows (s : State) (old m : Nat) : State :=
  if stopMode m then
    if stopMode old then s else { s.wr Reg.EVR_STAT_RUN 0 1 with ring := s.ring.map (fun x => (x.1, { x.2 with inRun := false })) }
  else s.wr Reg.EVR_STAT_RUN 0 0

/-- Burst operation of every rail ends: where it replaced another policy, ACC is cleared (R110, R191). -/
def burstEnd (s : State) : State :=
  (List.range 4).foldl (fun s r => if s.vOn .burst r then s.setBurst r false else s) s

/-- The device enters a mode: SYS_MODE, its record and interrupt, and what the change ends (R40 to R47, R49, R68, R169, R191, R200, R204, R280, R282, R395, R475, R480, R482). -/
def enterMode (s : State) (m cause : Nat) : State :=
  let old := s.mode
  let s := s.endModeCommand m
  let s := (((s.wr Reg.SYS_MODE_PREV 0 old).wr Reg.SYS_MODE_MODE 0 m).wr Reg.SYS_MODE_CAUSE 0 cause).wr Reg.SYS_MODE_TRANS 0 0
  let s := s.wr Reg.SYS_BOOT_MINREASON 0 (if m = 2 then s.vn .minCause else 0)
  let s := ((s.irq 123).event (0x0200 + cause) 0 (leBytes 1 m ++ leBytes 1 old)).capTrigger 0x0B 0
  let s := ((s.runFollows old m).cueFollows m).setV .statusDue 0 2
  let s := s.setV .intEntry 0 0
  let s := if m = 5 then s else s.burstEnd
  let s := if m = 6 ∨ m = 7 then s else s.holdEnd
  let s := if m = 11 then (List.range 4).foldl (fun s r => if s.railLive r then (s.forceOff r).toDisabled r else s) s else s
  let s := if railOnModes.contains m then s else (List.range 4).foldl (fun s r => s.unstageOn r 0x0B) s
  let s := if m = 4 ∨ m = 10 then s else s.identAbort 2
  let s := if m = 3 ∨ m = 4 ∨ m = 5 then s else s.restAbort 5
  let s := if old = 9 then ((((s.wr Reg.LE_CTL_HALT 0 0).wr Reg.LE_CTL_HALTED 0 0).wr Reg.DBG_LE_HALTREQ 0 0).wr Reg.DBG_CTL_BSEN 0 0).setV .pinAct 0 0 else s
  let s := if m = 8 then s.bistStop 0x0B else s
  let s := if old = 10 then (if m = 3 then s else s.charAbort (if cause = 4 then 3 else 0) 0x0B).setV .charLeave 0 0 else s
  let s := if m = 3 ∨ m = 7 then s.saveTable.gaugeRecord else s
  (if m = 2 ∨ m = 8 then s.lockExpert else s).hamAtOnce

/-! ### INTERMISSION -/

/-- Shed steps of the entry into INTERMISSION: each rail in REGULATE above its NINT parks one more phase (R191); neither a throttled rail nor one under a judgement starts a step (R192, R315). -/
def interShed (s : State) (r : Nat) : State :=
  if s.vOn .intEntry ∧ s.railState r = railRegulate ∧ s.rd Reg.PHM_SHED_NINT r < s.nlive r ∧ (s.departing r).isNone ∧ ¬ s.on Reg.VSC_STATUS_JUDGE ∧ ¬ s.throttled r
  then s.startShed r else s

/-- Every rail in REGULATE has reached its INTERMISSION count (R191). -/
def interReached (s : State) : Bool :=
  (List.range 4).all (fun r => s.railState r != railRegulate || decide (s.nlive r ≤ s.rd Reg.PHM_SHED_NINT r))

/-- The entry into INTERMISSION ends when every rail has reached its count (R42, R191); it waits for a halted SC (R19). -/
def interCheck (s : State) : State := if s.vOn .intEntry ∧ s.interReached ∧ ¬ s.on Reg.DBG_STAT_SCHALTED then s.enterMode mInter 0x01 else s

/-- The entry into INTERMISSION starts (R42, R191); `port1` 0 names no session. -/
def startInter (s : State) (port1 tag : Nat) : State :=
  let s := (((s.setV .modeWant 0 5).setV .modePort 0 port1).setV .modeTag 0 tag).setV .intEntry 0 1
  let s := s.wr Reg.SYS_MODE_TRANS 0 1
  let s := (List.range 4).foldl (fun s r => if s.on Reg.PHM_SHED_BURST r then s.setBurst r true else s) s
  ((List.range 4).foldl (fun s r => s.interShed r) s).interCheck

/-- The entry is abandoned (R47): the command that started it fails, with this reason. -/
def interAbandon (s : State) (reason : Nat) : State :=
  if s.vOn .intEntry then
    let s := s.complete (s.vn .modePort) (s.vn .modeTag) 0x70 stFailed reason
    let s := (((s.setV .modeWant 0 0).setV .modePort 0 0).setV .intEntry 0 0).wr Reg.SYS_MODE_TRANS 0 0
    (List.range 4).foldl (fun s r => if s.railState r = railRegulate then s.reverseFull r 4 else s) s.burstEnd
  else s

/-- INTERMISSION ends in ACTIVE: parked phases rejoin (R47, R190). -/
def interExit (s : State) (cause : Nat) : State :=
  if s.mode = mInter then
    (List.range 4).foldl (fun s r => if s.railState r = railRegulate then s.reverseFull r 4 else s) (s.enterMode mActive cause)
  else s

/-- An exit trigger of R47: it ends INTERMISSION, or abandons its entry. -/
def interTrigger (s : State) : State := if s.mode = mInter then s.interExit 0x0A else s.interAbandon 0x0B

/-! ### CURTAIN -/

/-- A shed step ends where it stands: the departing phase stays active (R192, R211). -/
def stopShed (s : State) (r : Nat) : State :=
  ((s.assigned r).foldl (fun s c => s.wrB Reg.PHM_DEPART c false) s).wr Reg.PHM_LEDG_SHEDDING r 0

/-- A rail is switched off as for RDSLEW 0: its phases go off at their next reloads (R145, R259, R305). -/
def dropRail (s : State) (r : Nat) : State :=
  if s.railState r = railHiccup then s.toDisabled r
  else if s.railState r = railRamp ∨ s.railState r = railRegulate then
    let s := if s.railState r = railRegulate then s else s.endOn r stFailed 0x04
    let s := (((s.wr Reg.LE_PG r 0).closeForecast r).identLeaves r).setRail r railRamp
    let s := ((s.setDown r true).setV .refVal r 0).setV .refTgt r 0
    let s := ((((s.stopShed r).setV .stopping r 1).setV .tEndly r 0).setV .tPgdly r 0)
    let s := (s.assigned r).foldl (fun s c => s.armOst c ostOff) s
    if (s.assigned r).all (fun c => s.rd Reg.PWM_OST c == 0) then s.toDisabled r else s
  else s

/-- The rail that a slot of ORDER names (R264). -/
def curRail (s : State) (k : Nat) : Nat := bits (s.rd Reg.HAM_CURT_ORDER) (2 * k + 1) (2 * k)

/-- The rail is finished for CURTAIN (R259). -/
def curDone (s : State) (r : Nat) : Bool := s.railState r == railDisabled || s.railState r == railFaultOff

/-- The CURTAIN ends: the mode it ends in, or the device reset that follows 10 µs later (R42, R46, R259). -/
def curtainEnd (s : State) : State :=
  if s.mode = mCurtain ∧ (List.range 4).all s.curDone ∧ s.vn .tReset = 0 then
    let s := s.setV .tGap 0 0
    if s.vn .curReset = 0 then s.enterMode mStandby 0x03 else s.setV .tReset 0 (s.now + 4000 + 1)
  else s

/-- The deadline of the next rail: GAP after the latest one started, where a GAP stands and a rail is left (R259). -/
def gapArm (s : State) : State :=
  let gap := s.rd Reg.HAM_CURT_GAP
  s.setV .tGap 0 (if s.mode = mCurtain ∧ gap ≠ 0 ∧ s.vn .curTurn < 4 ∧ s.vn .curStart ≠ 0 then s.vn .curStart + gap * 4000 else 0)

/-- The turns of a CURTAIN: finished rails are skipped, a hiccuping rail is disabled at once, the next rail's ramp-down is armed; with a GAP the rest wait from then (R259). -/
def curtainTurn (s : State) : Nat → State
  | 0 => s
  | n + 1 =>
    let k := s.vn .curTurn
    if s.mode ≠ mCurtain ∨ 4 ≤ k then s
    else
      let r := s.curRail k
      let next := s.setV .curTurn 0 (k + 1)
      if s.curDone r then next.curtainTurn n
      else
        let next := (next.setV .curStart 0 (s.now + 1)).gapArm
        if s.railState r = railHiccup then
          let t := next.toDisabled r
          if t.rd Reg.HAM_CURT_GAP = 0 then t.curtainTurn n else t
        else if s.rampingDown r then next
        else next.setV .curDown r 1

/-- With GAP 0 the next rail starts when the one before it is disabled; then the CURTAIN may end (R259). -/
def curtainStep (s : State) : State :=
  if s.mode = mCurtain then
    let k := s.vn .curTurn
    let s := if s.rd Reg.HAM_CURT_GAP = 0 ∧ (k = 0 ∨ s.curDone (s.curRail (k - 1))) then s.curtainTurn 4 else s
    s.curtainEnd
  else s

/-- GAP or ORDER is published: a running CURTAIN goes on by the new spacing (R259). -/
def newCurt (s : State) : State := s.gapArm.curtainStep

/-- A CURTAIN starts, or a running one is marked as started by a reset cause; `reset1` is RSTCAUSE plus 1, 0 for none (R42, R46, R432). -/
def enterCurtain (s : State) (cause reset1 : Nat) : State :=
  if s.mode = mCurtain then if s.vn .curReset = 0 then s.setV .curReset 0 reset1 else s
  else
    let s := s.interAbandon 0x0B
    let s := (((((s.enterMode mCurtain cause).setV .curReset 0 reset1).setV .curTurn 0 0).setV .curStart 0 0).setV .tGap 0 0).setV .tReset 0 0
    let s := if cause = 0x01 ∨ cause = 0x11 then s else s.irq 110
    (s.curtainTurn 4).curtainEnd

/-- What follows when a rail has entered DISABLED or FAULTOFF: the part leaves ACTIVE, INTERMISSION or, once the SC runs (R19), CHARACTERISE when no rail is left, a characterisation turns to its next rail, and a CURTAIN goes on (R42, R69, R203, R259). -/
def railStopped (s : State) : State :=
  let m := s.mode
  if (m = mActive ∨ m = mInter) ∧ (List.range 4).all (fun r => s.railState r == railDisabled) then s.enterMode mStandby 0x03
  else if m = mCharacterise ∧ s.vOn .charLeave ∧ (List.range 4).all s.curDone then
    if s.on Reg.DBG_STAT_SCHALTED then s else (s.setV .charLeave 0 0).enterMode mStandby (s.vn .charLeave)
  else if m = mCharacterise ∧ s.on Reg.PHM_CHAR_RUN ∧ s.vn .charTurn ≠ 0 ∧ s.curDone (s.vn .charTurn - 1) then s.charNext (s.vn .charTurn)
  else s.curtainStep

/-- A rail enters DISABLED, with what follows from it. -/
def disable (s : State) (r : Nat) : State := (s.toDisabled r).railStopped

/-- A rail enters FAULTOFF, with what follows from it. -/
def faultOff (s : State) (r cause : Nat) : State := (s.enterFaultOff r cause).railStopped

/-- RAMP (down) starts at the rail's boundary; a hiccuping rail is disabled at once and a rail in FAULTOFF keeps its state; a RAIL_OFF clears the retry count (R145, R308). -/
def rampDown (s : State) (r : Nat) : State :=
  let st := s.railState r
  let s := if s.vn .onPub r = 2 then s.wr Reg.PROT_RETRYCNT r 0 else s
  let s := (s.setV .curDown r 0).clearOff r
  if st = railHiccup then s.disable r
  else if st = railFaultOff then s.endOff r stFailed 0x0F
  else if st = railDisabled then s.endOff r stOk
  else if s.rampingDown r then s
  else if s.rd Reg.LE_RDSLEW r = 0 then (s.dropRail r).railStopped
  else
    let s := if st = railRegulate then s else s.endOn r stFailed 0x04
    let s := (((s.wr Reg.LE_PG r 0).closeForecast r).identLeaves r).setRail r railRamp
    let s := ((s.setDown r true).slewRef r (s.rd Reg.LE_RDSLEW r)).aimRef r 0
    ((s.stopShed r).setV .tEndly r 0).setV .tPgdly r 0

/-! ### SAFESTOP -/

/-- The state of a cause of R309: whether it is still active. -/
def causeActive (s : State) : Nat → Bool
  | 0 => !(s.on Reg.CLK_STATUS_REFOK && s.on Reg.CLK_STATUS_LOCK)
  | 1 => (List.range 9).any (fun i => s.on Reg.THM_SDA i)
  | 2 => (List.range 4).any (fun r => bit (s.rd Reg.PROT_LATCH_RAILS) r && s.on Reg.CMP_OUT (34 + r))
  | 4 => s.on Reg.CMP_OUT 43
  | _ => false

/-- A cause is latched: its bit, FIRST, and the rail (R309, R322). -/
def latch (s : State) (b : Nat) (rail : Option Nat) : State :=
  let c := s.rd Reg.PROT_LATCH_CAUSE
  let s := if s.rd Reg.PROT_LATCH_FIRST = 0 then s.wr Reg.PROT_LATCH_FIRST 0 (b + 1) else s
  let s := s.wr Reg.PROT_LATCH_CAUSE 0 (if bit c b then c else c + 2 ^ b)
  match rail with
  | some r => let m := s.rd Reg.PROT_LATCH_RAILS; s.wr Reg.PROT_LATCH_RAILS 0 (if bit m r then m else m + 2 ^ r)
  | none => s

/-- The outputs of SAFESTOP: every rail off and DISABLED, but FAULTOFF stays; a low-side hold keeps its stages unless the clock failed (R69, R302, R310). -/
def allOff (s : State) (clock : Bool) : State :=
  let s := (List.range 4).foldl (fun s r =>
    let s := (if clock then s.setV .ovHold r 0 else s).forceOff r
    let s := s.wr Reg.LE_PG r 0
    if s.railState r = railFaultOff then (s.dropEn r) else if s.railState r = railDisabled then (s.endOff r stOk).clearOff r
    else s.toDisabled r) s
  let s := (List.range 4).foldl (fun s r => s.dropEn r) s
  [32, 33].foldl (fun s c => ((s.wr Reg.PWM_OST c 0).setV .ostArm c 0).wr Reg.PWM_ACC c 0) s

/-- The part enters SAFESTOP for a latched cause (R42, R309, R310). -/
def goSafestop (s : State) (b : Nat) (rail : Option Nat) (toMinimal : Bool) : State :=
  let old := s.mode
  let s := s.interAbandon 0x0B
  let cur := if old = mCurtain then s.vn .curReset else 0
  let s := (s.allOff (b = 0)).enterMode mSafestop (if b = 0 then 0x09 else 0x07)
  let s := s.setV .safeFrom 0 (if old = mMinimal ∨ toMinimal then 2 else 3)
  let s := (s.irq 104).event 0x3001 3 (leBytes 1 b ++ leBytes 1 (rail.getD 0xFF))
  let s := ((s.alertFault 0x3001).capTrigger 0x08 0).setV .tReset 0 0
  let s := (match s.update with
    | some u => if u.committing then s.complete u.port u.tag 0x7E stFailed 0x0B else s
    | none => s)
  let s := ({ s with update := none }).setV .charLeave 0 0
  if cur = 0 then s.setV .curReset 0 0 else s.setV .tReset 0 (s.now + 800000 + 1)

/-- A latching cause arises (R309); in BOOT it waits for the end of BOOT (R518), in SAFESTOP it joins the causes. -/
def safestop (s : State) (b : Nat) (rail : Option Nat) : State :=
  let s := s.latch b rail
  if s.mode = mBoot then s.setV .bootLatch 0 1
  else if s.mode = mSafestop then s
  else s.goSafestop b rail false

/-! ### Loss of the intermediate bus -/

/-- The Hamper takes over the IB in the tick of the loss (R249, R252, R256), unless the latch or an output of instance 46 or 47 keeps it in ISOLATE (R305). -/
def hamHold (s : State) : State :=
  let s := s.setV .hamRamp 0 0
  let s := if s.on Reg.PROT_LATCH_HAMLAT ∨ (s.rd Reg.HAM_CTL_AMODE = 0 ∧ (s.on Reg.CMP_OUT 46 ∨ s.on Reg.CMP_OUT 47)) then s
    else
      let s := if s.rd Reg.HAM_CTL_AMODE = 0 then (s.clearLane 4).setV .hamIi 0 0 else s
      ((s.showAmode 4).wr Reg.HAM_CTL_ICAUSE 0 0).setV .hamIhv 0 (satS 32 (s.v .hamIhIb + s.v .hamIupU))
  let s := ((s.wr Reg.HAM_STAT_HOLDF 0 1).wr Reg.HAM_STAT_HOLDT 0 0).setV .holdFrom 0 (s.now + 1)
  let s := (List.range 4).foldl (fun s r => s.setV .ipreFrom r 0) s
  let s := (List.range 4).foldl (fun s r => if s.railState r = railRegulate then s.raiseCap r 3 (ceilDiv (s.itot r) 128).toNat else s) s
  let h := s.rd Reg.HAM_IB_HOLDMAX
  s.setV .tHoldmax 0 (if h = 0 then 0 else s.now + h * 400000 + 1)

/-- Hold-up is exhausted: HOLDUP moves to CURTAIN (R258). -/
def exhaust (s : State) (why : Nat) : State :=
  if s.mode = mHoldup then
    ((s.wr Reg.HAM_STAT_EXHF 0 1).event 0x6003 2 (leBytes 1 why)).enterCurtain 0x06 0
  else s

/-- PROT declares IB loss, in service or outside it (R45, R256, R304). The qualification begins anew with the first assertion of a loss; a later one does not touch it (R257). The discharge limit counts unless it stands in its starting state (R71, R258, R259). -/
def ibLoss (s : State) : State :=
  let m := s.mode
  let limited := s.on Reg.HAM_STAT_DSLIMA && !s.vOn .dsStart
  let s := if s.vOn .ibLost then s else ((s.setV .ibLost 0 1).setV .ibQual 0 0).setV .tQual 0 0
  if m = mActive ∨ m = mInter ∨ m = mCharacterise ∨ m = mCurtain then
    let s := s.interAbandon 0x0B
    let s := s.restAbort 1
    let s := if m = mActive ∨ m = mInter then s.enterMode mHoldup 0x04 else if m = mCharacterise then s.enterCurtain 0x04 0 else s
    let s := ((s.hamHold.irq 109).event 0x6001 2 []).alertEvent 0x6001
    let s := if s.on Reg.PROT_LATCH_HAMLAT then s.exhaust 4 else if limited then s.exhaust 3 else s
    if s.mode = mCurtain ∧ (limited ∨ s.on Reg.PROT_LATCH_HAMLAT) then ((List.range 4).foldl (fun s r => s.dropRail r) s).railStopped else s
  else if m = mHoldup then s
  else
    let s := ((s.restAbort 1).irq 109).event 0x6004 1 []
    (if m = mMinimal then (s.dropRail 0).railStopped else s).hamAtOnce

/-- The Hamper latch is set (R305). -/
def hamLatch (s : State) : State :=
  if s.on Reg.PROT_LATCH_HAMLAT then s
  else
    let s := ((s.wr Reg.PROT_LATCH_HAMLAT 0 1).irq 107).event 0x3007 2 []
    let s := ((s.alertFault 0x3007).hamAtOnce).exhaust 4
    if s.vOn .ibLost ∧ s.mode = mCurtain then ((List.range 4).foldl (fun s r => s.dropRail r) s).railStopped else s

/-! ### The start of a rail -/

/-- A protective output withholds the rail: its OV, an IB comparator, or a shutdown threshold (R72). -/
def guarded (s : State) (r : Nat) : Bool :=
  s.on Reg.CMP_OUT (34 + r) || s.on Reg.CMP_OUT 42 || s.on Reg.CMP_OUT 43 || (List.range 9).any (fun i => s.on Reg.THM_SDA i)

/-- The bank address from which a user law is read. -/
def lawWord (s : State) (a : Nat) : Nat := s.ucode a

/-- A slot names an operation, operands and a coefficient address that the context may use (R150, R151, R155). -/
def slotLegal (ctx w : Nat) : Bool :=
  let op := bits w 39 34
  let named (c : Nat) : Bool := c < 0x2E || (0x30 ≤ c && c ≤ 0x33) || c == 0x3F
  let ca := bits w 15 7
  decide (op ≤ 0x10) && (op == 0 || op == 0x10 ||
    ((!([0x01, 0x02, 0x03, 0x04, 0x05, 0x06, 0x07, 0x08, 0x0A, 0x0B, 0x0C, 0x0D, 0x0F].contains op) || named (bits w 27 22)) &&
     (!([0x02, 0x03, 0x07, 0x08, 0x0A, 0x0B, 0x0F].contains op) || named (bits w 21 16)) &&
     (!([0x01, 0x02, 0x03, 0x09, 0x0A, 0x0B, 0x0C, 0x0D, 0x0E].contains op) || named (bits w 33 28)) &&
     (!([0x04, 0x05, 0x06, 0x0C, 0x0E].contains op) || coefAllowed ctx ca) && (op != 0x0C || coefAllowed ctx (ca + 1))))

/-- The check of a user law at RAIL_ON (R155). -/
def lawOk (s : State) (r : Nat) : Bool :=
  let e := s.rd Reg.LE_ENTRY r
  let n := s.rd Reg.LE_LEN r
  let apart (b l : Nat) : Bool := decide (e + n ≤ b) || decide (b + l ≤ e)
  s.rd Reg.LE_LAW r != 1 ||
    (decide (0 < n) && decide (e + n ≤ 4096) && apart (s.rd Reg.LE_BASE_BENTRY) (s.rd Reg.LE_BASE_BLEN) &&
      apart (s.rd Reg.LE_BASE_HENTRY) (s.rd Reg.LE_BASE_HLEN) &&
      (List.range n).all (fun i =>
        let w := s.lawWord (e + i)
        let f := bits w 95 92
        let t := bits w 91 80
        (decide (f ≤ 8) || f == 0xF) && slotLegal r (bits w 79 40) && slotLegal r (bits w 39 0) &&
          (f == 0 || f == 8 || f == 0xF || (decide (e ≤ t) && decide (t < e + n)))))

/-- RAMP (up) starts at the rail's boundary: EN_x, a cleared context, the start value, ENDLY (R143). -/
def startRamp (s : State) (r : Nat) : State :=
  let t := codeVolts (if s.rd Reg.LE_VSRC r = 0 then s.rd Reg.LE_VTGT r else s.rd Reg.LE_TGTNOW r)
  let s := if s.rd Reg.LE_VSRC r = 0 then s.wr Reg.LE_TGTNOW r (s.rd Reg.LE_VTGT r) else s
  let start := if s.on Reg.LE_PREBIAS r then clamp 0 t (s.v .vsense r * 15625) else 0
  let s := (((s.setRail r railRamp).setDown r false).setV .en r 1).clearLane r
  let s := (((s.setV .refVal r start).setV .refTgt r start).setV .refAt r s.now).setV .refSlew r (s.rd Reg.LE_SSSLEW r)
  let s := ((s.wr Reg.PROT_HCNT r 0).setV .cleanPer r 0).setV .hicRetry r 0
  let s := (s.assigned r).foldl (fun s c => (((s.wr Reg.PHM_TINT c 0).setV .tintFine c 0).setV .detRes c 0).setV .detPl c 0) s
  ((s.setV .starting r 1).setV .tEndly r (s.now + s.rd Reg.LE_ENDLY r * 400 + 1)).throttleRefresh r

/-- A published RAIL_ON reaches the rail's boundary: it starts, or completes with FAILED (R68, R72, R90, R143, R155, R193, R197). -/
def startRail (s : State) (r : Nat) : State :=
  let s := s.setV .onPub r 0
  if s.railState r ≠ railDisabled then s.endOn r stFailed 0x04
  else if s.guarded r then s.endOn r stFailed 0x02
  else if ¬ s.lawOk r then s.endOn r stFailed 0x03
  else if s.on Reg.VSC_STATUS_VABAD ∧ s.on Reg.VSC_STATUS_VBBAD then s.endOn r stFailed 0x05
  else
    let s := (s.assigned r).foldl (fun s c => if s.on Reg.CSA_CALFAIL c then s.declareFailed c 4 else s) s
    let s := if s.on Reg.PHM_CHAR_RUN then (s.understudies r).foldl (fun s c => s.setRole c 2) s else s
    let s := (s.fillFailed r).interTrigger.startRamp r
    if s.mode = mStandby then s.enterMode mActive 0x02 else s

/-- The safe-voltage rail of MINIMAL starts once the IB is qualified and nothing withholds it (R57, R72). -/
def safeStart (s : State) : State :=
  if s.mode = mMinimal ∧ s.rd Reg.SYS_STRAP_SAFEV ≠ 0 ∧ s.railState 0 = railDisabled ∧ s.vOn .ibQual ∧ ¬ s.guarded 0 then s.startRamp 0 else s

end State

end Sys2Proof.Machine
end

