-- ==== Sys2Proof/Machine/Swap.lean ====
section
/-!
DEFINITION. The two coefficient banks and their swap (R136, R147, R148).
-/

namespace Sys2Proof.Machine

/-- The address where the active bank starts, and the size of a bank (R27). -/
def bankA : Nat := 0x90010000
def bankSize : Nat := 0x800

namespace State

/-- The listed bytes of one coefficient bank (0 active, 1 staged), by offset. -/
def bankCells (s : State) (b : Nat) : List (Nat × Byte) :=
  (s.mem.filter (fun x => decide (bankA + b * bankSize ≤ x.1) && decide (x.1 < bankA + (b + 1) * bankSize))).map (fun x => (x.1 - (bankA + b * bankSize), x.2))

/-- Both banks replaced by listed bytes. -/
def setBanks (s : State) (a b : List (Nat × Byte)) : State :=
  { s with mem := s.mem.filter (fun x => decide (x.1 < bankA)) ++ a.map (fun x => (bankA + x.1, x.2)) ++
      b.map (fun x => (bankA + bankSize + x.1, x.2)) ++ s.mem.filter (fun x => decide (bankA + 2 * bankSize ≤ x.1)) }

/-- The staged bank becomes a copy of the active one (R148). -/
def refillStaged (s : State) : State := s.setBanks (s.bankCells 0) (s.bankCells 0)

/-- The banks hold different words in a context's block (R148, R169). -/
def blockDiffers (s : State) (ctx : Nat) : Bool :=
  (List.range 0x60).any (fun i => s.wordAt (bankA + 4 * (coefBase ctx + i)) != s.wordAt (bankA + bankSize + 4 * (coefBase ctx + i)))

/-- When every context has flipped, the roles exchange and the copy begins (R148). -/
def flipCheck (s : State) : State :=
  if s.on Reg.LE_CTL_SWPEND ∧ ¬ s.vOn .swapCopy ∧ (List.range 5).all (fun c => s.vOn .flipped c) then
    let s := (s.setBanks (s.bankCells 1) (s.bankCells 0)).setV .swapCopy 0 1
    (List.range 5).foldl (fun s c => s.setV .flipped c 0) s
  else s

/-- A context flips to the new bank (R148); a run on a rail whose block changes is aborted (R169). -/
def flip (s : State) (ctx : Nat) : State :=
  if s.on Reg.LE_CTL_SWPEND ∧ ¬ s.vOn .swapCopy ∧ ¬ s.vOn .flipped ctx then
    let s := if s.on Reg.IDENT_STAT_RUN ∧ s.rd Reg.IDENT_CFG_RAIL = ctx ∧ s.blockDiffers ctx then s.identAbort 3 else s
    let s := if s.rd Reg.IDENT_CFG_RAIL = ctx ∧ ¬ s.vOn .identOwn ∧ s.on Reg.IDENT_STAT_PROPV ∧ s.blockDiffers ctx then s.wr Reg.IDENT_STAT_PROPV 0 0 else s
    (s.setV .flipped ctx 1).setV .oldBank ctx (s.v .inWait ctx)
  else s

/-- An armed SWAP is published: contexts of rails in DISABLED and of an isolated Hamper flip at once (R148). -/
def publishSwap (s : State) : State :=
  if s.vOn .swapStaged then
    let s := (s.setV .swapStaged 0 0).wr Reg.LE_CTL_SWPEND 0 1
    let s := (List.range 4).foldl (fun s r => if s.railState r = railDisabled then s.flip r else s) s
    (if s.rd Reg.HAM_CTL_AMODE = 0 then s.flip 4 else s).flipCheck
  else s

/-- A RETUNE whose swap has ended replies OK, if its session is still open (R173). -/
def retuneReply (s : State) : State :=
  match s.retuning with
  | none => s
  | some (p, c) => let s : State := { s with retuning := none }
    if (s.sess p).isOpen then s.reply p true c stOk [] else s

/-- The copy into the staged bank ends (R148). -/
def copyDone (s : State) : State :=
  if s.vOn .swapCopy then
    let s := (((List.range 5).foldl (fun s c => s.setV .oldBank c 0) s).refillStaged.setV .swapCopy 0 0).wr Reg.LE_CTL_SWPEND 0 0
    ((s.setV .identOwn 0 0).setV .bankTouched 0 0).retuneReply
  else s

/-- An armed SWAP is disarmed and the staged bank refilled (R376). -/
def disarmSwap (s : State) : State :=
  let s := s.setV .swapStaged 0 0
  if s.on Reg.LE_CTL_SWPEND then s else s.refillStaged.setV .bankTouched 0 0

/-- A word of a context's block in the active or staged bank. -/
def coefWord (s : State) (staged : Bool) (a : Nat) : Nat := s.wordAt ((if staged then bankA + bankSize else bankA) + 4 * a)

/-- A word written to the staged bank (R147). -/
def putCoef (s : State) (a : Nat) (w : Nat) : State := s.putWord (bankA + bankSize + 4 * a) w

end State

end Sys2Proof.Machine
end

