-- ==== Sys2Proof/Machine/Ownership.lean ====
section
/-!
DEFINITION. Ownership of the part and the closing of sessions (R37, R65, R171, R363, R374 to R376).
-/

namespace Sys2Proof.Machine

/-- What a change of owner is recorded to come from (R383, log entry 15). -/
def meansClaim : Nat := 0
def meansYield : Nat := 1
def meansGrant : Nat := 2
def meansLapse : Nat := 3
def meansClose : Nat := 4

/-- The code of a port in a record, 0xFF for none (log entry 15). -/
def portCode : Option Port → Nat
  | some p => p.idx
  | none => 0xFF

namespace State

/-- The queued claim that a lapse would choose: highest priority, then the earlier, then port order (R374). -/
def bestClaim (s : State) (ok : Claim → Bool) : Option Port :=
  ([Port.twa, .twb, .hsp].foldl (fun (a : Option (Port × Claim)) p =>
    match (s.sess p).claim with
    | none => a
    | some c => if ok c then
        match a with
        | none => some (p, c)
        | some (q, d) => if d.prio < c.prio ∨ (d.prio = c.prio ∧ c.order < d.order) then some (p, c) else some (q, d)
      else a) none).map (·.1)

/-- A queued claim leaves its session; its CLAIM completes with the status (R374). -/
def endClaim (s : State) (p : Port) (status reason : Nat) : State :=
  match (s.sess p).claim with
  | none => s
  | some c => (s.updSess p (fun x => { x with claim := none })).complete (p.idx + 1) c.tag 0x02 status reason

/-- The ports that completion entries go to: one variable per long operation. -/
def entryPorts : List Var := [.modePort, .identPort, .calPort, .bistPort, .charPort, .resetPort]

/-- Long operations of a session that closes go on, but report to no one (R363). -/
def forgetPort (s : State) (p : Port) : State :=
  let s := entryPorts.foldl (fun s x => if s.vn x = p.idx + 1 then s.setV x 0 0 else s) s
  { s with railWaits := s.railWaits.map (fun w => if w.port1 = p.idx + 1 then { w with port1 := 0 } else w), update := s.update.map (fun u => if u.port = p.idx + 1 then { u with port := 0 } else u) }

/-- What closing a session drops: its commands, replies, entries, claim and capture jobs (R363). -/
def dropSession (s : State) (p : Port) (cause : Nat) : State :=
  if (s.sess p).isOpen then
    let s := (s.releaseJobs p).forgetPort p
    let s : State := { s.updSess p (fun x => { Session.none with rx := x.rx }) with retuning := s.retuning.filter (fun x => x.1 != p) }
    s.event 0x7002 0 (leBytes 1 p.idx ++ leBytes 1 cause)
  else s

/-- Every session is dropped and the part is unowned: entry into MINIMAL (R363). -/
def dropAll (s : State) : State :=
  let s := ((s.dropSession .twa 3).dropSession .twb 3).dropSession .hsp 3
  { s.lockExpert with owner := none, granting := none, draining := none }

/-- An update is aborted: its target bank stays empty and the part returns to the source mode (R65). -/
def abortUpdate (s : State) (reason : Nat) : State :=
  match s.update with
  | none => s
  | some u =>
    let s : State := { s with update := none }
    let s := if u.committing then s.complete u.port u.tag 0x7E stFailed reason else s
    if s.mode = 11 then
      let s := s.enterMode u.source 0x0C
      if u.source = 2 then s.dropAll.safeStart else s
    else s

/-- A command that an owner has admitted and that has not completed when ownership passes (R376). -/
def markOld (c : Cmd) : Cmd := { c with fromOld := c.fromOld || c.asOwner }

/-- The commands of an old owner that have not completed (R376). -/
def leaveOwner (s : State) (p : Port) : State :=
  let s := s.updSess p (fun x => { x with queue := x.queue.map markOld })
  { s with retuning := s.retuning.map (fun x => if x.1 = p then (x.1, markOld x.2) else x) }

/-- Ownership changes hands: records, causes, locks, the new owner's claim, and the drain of the old owner's commands (R37, R374 to R376). -/
def passOwner (s : State) (new : Option Port) (means : Nat) : State :=
  let old := s.owner
  let s : State := { s with owner := new, granting := none, draining := if old.isSome then old else s.draining }
  let s := (s.bump Reg.SYS_OWNER_OWNCHG 0).event 0x7003 0 (leBytes 1 (portCode old) ++ leBytes 1 (portCode new) ++ leBytes 1 means)
  let s := match old with
    | some p => ((s.leaveOwner p).alertPort p 3).lockExpert
    | none => s
  let s := match new with
    | some p => (((s.alertPort p 3).endClaim p stOk 0).setV .leaseLeft 0 0).renewLease
    | none => s
  if old.isSome then s.abortUpdate 0x01 else s

/-- A waiting GRANT ends without a handover: its reply, and the lease runs again (R375). -/
def dropGrant (s : State) (reason : Option Nat) : State :=
  match s.granting, s.owner with
  | some (_, c), some p =>
    let s : State := ({ s with granting := none }).setV .tLease 0 (s.now + s.vn .leaseLeft + 1)
    match reason with
    | some r => s.reply p true c stFailed (leBytes 1 r)
    | none => s
  | _, _ => { s with granting := none }

/-- A claim that a waiting GRANT has chosen is gone (R375). -/
def checkGrant (s : State) : State :=
  match s.granting with
  | some (q, _) => if (s.sess q).claim.isSome then s else s.dropGrant (some 0x09)
  | none => s

/-- A session closes (R363): an owner's ownership passes as on a lapse. -/
def closeSession (s : State) (p : Port) (cause : Nat) : State :=
  if (s.sess p).isOpen then
    let s := if s.isOwner p then s.dropGrant none else s
    let s := (s.dropSession p cause).checkGrant
    if s.isOwner p then s.passOwner (s.bestClaim (fun _ => true)) meansClose
    else s
  else s

/-- The owner's lease lapses (R374). -/
def lapse (s : State) : State :=
  match s.owner with
  | none => s
  | some p =>
    if s.granting.isSome ∨ s.on Reg.DBG_STAT_SCHALTED then s
    else
      let s := s.upTo (s.vn .tLease - 1)
      let s := (s.alertPort p 4).event 0x7004 1 (leBytes 1 p.idx)
      s.passOwner (s.bestClaim (fun _ => true)) meansLapse

/-- The owner's lease has run out (R374). -/
def leaseOver (s : State) : Bool := s.owner.isSome && s.granting.isNone && decide (s.vn .tLease ≤ s.now + 1)

/-- No session has a command left that it admitted as an owner that it no longer is (R376). -/
def drained (s : State) : Bool := s.retuning.all (fun x => !x.2.fromOld) && [Port.twa, .twb, .hsp].all (fun p => (s.sess p).queue.all (fun c => !c.fromOld))

/-- The end of a drain: staged values revert, an armed swap is disarmed, staged rail commands complete with FAILED, reason 0x0A (R376, R395). -/
def discardStaged (s : State) : State :=
  let s := (List.range 32).foldl (fun s c => s.setV .clrStaged c 0) ({ s with staged := [] }).disarmSwap
  (List.range 4).foldl (fun s r =>
    let s := s.setV .mapStaged r 0
    if s.vn .onStaged r = 1 then (s.endOn r stFailed 0x0A).setV .onStaged r 0
    else if s.vn .onStaged r = 2 then (s.endOff r stFailed 0x0A).setV .onStaged r 0
    else s) s

/-- The part leaves CHARACTERISE for STANDBY when its rails have reached DISABLED (R42); `cause` is shown then. -/
def charExit (s : State) (cause : Nat) : State :=
  let s := (List.range 4).foldl (fun s r => if s.curDone r || s.rampingDown r then s else s.setV .curDown r 1) (s.setV .charLeave 0 cause)
  if (List.range 4).all s.curDone then (s.setV .charLeave 0 0).enterMode mStandby cause else s

/-- The end of the present step of CAL_ADC, in ticks since its acceptance (R99). -/
def calStepEnd (s : State) : Nat :=
  (([80000, 560000, 1200000, 1520000, 1680000] : List Nat).find? (fun e => decide (s.now + 1 < s.vn .calAt + e))).getD 1920000

/-- CAL_ADC ends: the Hamper and the converter inputs return, BUSY clears (R99, R373); a characterisation that waited for it starts its rail (R203). -/
def calEnd (s : State) (status reason : Nat) : State :=
  let s := (s.wr Reg.CAL_STAT_BUSY 0 0).hamAtOnce.complete (s.vn .calPort) (s.vn .calTag) 0x78 status reason
  let s := (s.setV .calPort 0 0).setV .calStop 0 0
  if s.on Reg.PHM_CHAR_RUN ∧ s.vn .charTurn ≠ 0 then s.setV .onPub (s.vn .charTurn - 1) 1 else s

/-- One command that waits leaves, with FAILED, reason 0x01; another of its kind may wait for the same rail (R395). -/
def dropWait (s : State) (w : RailWait) : State :=
  ({ s with railWaits := s.railWaits.erase w }).complete w.port1 w.tag (if w.isOn then 0x21 else 0x22) stFailed 0x01

/-- Another command of the same kind waits for the same rail. -/
def sameWaits (s : State) (w : RailWait) : Bool := s.railWaits.any (fun x => x.rail == w.rail && x.isOn == w.isOn)

/-- A RAIL_ON named by ABORT (R395): not published, it is unstaged; begun, RAIL_OFF is staged in its place. -/
def abortOn (s : State) (w : RailWait) : State :=
  let s := s.dropWait w
  if s.sameWaits w then s
  else if s.vn .onStaged w.rail = 1 then s.setV .onStaged w.rail 0
  else if s.vn .onPub w.rail = 1 then s.setV .onPub w.rail 0
  else s.setV .onStaged w.rail 2

/-- A RAIL_OFF named by ABORT that is not published yet (R395). -/
def abortOff (s : State) (w : RailWait) : State :=
  let s := s.dropWait w
  if s.sameWaits w then s else s.setV .onStaged w.rail 0

/-- The long operation of a session that a tag names is aborted (R373, R395): the state and the reason of a FAILED reply, 0 for OK; none where there is no such operation. -/
def abortLong (s : State) (p : Port) (t : Nat) : Option (State × Nat) :=
  let mine (port tag : Var) : Bool := s.vn port == p.idx + 1 && s.vn tag == t
  match s.railWaits.find? (fun w => w.port1 == p.idx + 1 && w.tag == t) with
  | some w => if w.isOn then some (s.abortOn w, 0) else if s.vn .onStaged w.rail = 2 then some (s.abortOff w, 0) else some (s, 0x0D)
  | none =>
    if mine .identPort .identTag then some (if s.owner = some p then (s.identAbort 4, 0) else (s, 0x0D))
    else if mine .charPort .charTag then some ((s.charAbort 2 0x0B).charExit 0x0C, 0)
    else if mine .calPort .calTag then some (s.setV .calStop 0 s.calStepEnd, 0)
    else if mine .bistPort .bistTag then some (s.bistStop 0x01, 0)
    else if mine .modePort .modeTag then if s.vOn .intEntry then some (s.interAbandon 0x01, 0) else some (s, 0x0D)
    else if mine .resetPort .resetTag then some (s, 0x0D)
    else if s.update.any (fun u => u.committing && u.port == p.idx + 1 && u.tag == t) then some (s.abortUpdate 0x01, 0)
    else
      match s.spectra.find? (fun x => x.port == p.idx + 1 && x.tag == t) with
      | some x => some (({ s with spectra := s.spectra.erase x }).complete (p.idx + 1) t 0x52 stFailed 0x01, 0)
      | none => none

end State

end Sys2Proof.Machine
end

