-- ==== Sys2Proof/Machine/Trips.lean ====
section
/-!
DEFINITION. Trips of a PWM channel: the trip inputs as levels, the blanking, and what a trip does to the pulse and beside it (R116 to R119, R298, R305, R306).
Times are carrier times of the present period: edges in 1/16 tick, the operands of the commands in ticks.
-/

namespace Sys2Proof.Machine

namespace State

/-- The dead-time set in use on a channel (R109). -/
def dtSet (s : State) (c : Nat) : Nat := s.rd Reg.PWM_DTBAND c + (if 32 ≤ c then 8 else 0)

/-- A dead-time field in use on a channel (R109, R115). -/
def dt (s : State) (f : Fld) (c : Nat) : Nat := s.dtVal f (s.dtSet c) c

/-- The comparators that trip a channel (R298). -/
def tripInstances (c : Nat) : List Nat := if 32 ≤ c then [c, c + 12] else [c]

/-- The channel's pin is borrowed by the complementary channel below it (R112). -/
def borrowed (s : State) (c : Nat) : Bool := c % 2 == 1 && decide (c < 32) && s.rd Reg.PWM_OUTM (c - 1) == 1

/-- The level of a trip input: OUT past its starting state, the raw output, the registered fault of a phase that a rail holds (R71, R118, R119). -/
def tripLevel (s : State) (c : Nat) : TripPath → Bool
  | .filtered => (tripInstances c).any (fun i => s.on Reg.CMP_OUT i && !s.vOn .cmpStart i)
  | .asynchronous => (tripInstances c).any (fun i => s.on Reg.CMP_RAW i)
  | .faultPin => decide (c < 32) && s.on Reg.PWM_FLTLIVE c && s.on Reg.PHM_ASSIGN c && !s.borrowed c

/-- TRIPSEL or FLTTRIP admits a trip path (R118, R119). -/
def tripEnabled (s : State) (c : Nat) : TripPath → Bool
  | .filtered => s.rd Reg.PWM_TRIPSEL c != 1
  | .asynchronous => s.rd Reg.PWM_TRIPSEL c != 0
  | .faultPin => s.on Reg.PWM_FLTTRIP c

/-- A path that stands asserted and is admitted; the asynchronous one acts first (R118). -/
def heldPath (s : State) (c : Nat) : Option TripPath :=
  [TripPath.asynchronous, .filtered, .faultPin].find? (fun p => s.tripEnabled c p && s.tripLevel c p)

/-- A trip can act on the channel: its carrier runs, its output is live, and the period has not been tripped (R116). -/
def tripOpen (s : State) (c : Nat) : Bool := s.on Reg.PWM_CEN c && s.rd Reg.PWM_OST c == ostLive && !s.vOn .tripLatch c

/-- The period has a pulse. -/
def hasPulse (s : State) (c : Nat) : Bool := decide (s.v .riseAt c < s.v .fallAt c)

/-- The tick in which blanking ends (R117). -/
def blankEnd (s : State) (c : Nat) : Nat := (s.vn .riseAt c + 15) / 16 + s.vn .blankNow c

/-- A carrier time lies in the blanking after the rise of the high-side output (R117). -/
def blanked (s : State) (c t : Nat) : Bool := s.hasPulse c && decide (s.vn .riseAt c ≤ 16 * t) && decide (t < s.blankEnd c)

/-- The edges of the period after a trip: a pulse under way ends and LO rises a dead time later; a pulse that has not begun is suppressed, and LO, if it has fallen, rises again a dead time later, else it stays high (R116). -/
def tripEdges (s : State) (c t : Nat) : State :=
  let x : Int := 16 * t
  let lo : Int := x + s.dt Reg.PWM_DT_DTF c
  let comp := s.rd Reg.PWM_OUTM c == 1
  if ¬ s.hasPulse c ∨ s.v .fallAt c ≤ x then s
  else if s.v .riseAt c ≤ x then (s.setV .fallAt c x).setV .loRise c (if comp then lo else 0)
  else
    let s := (s.setV .riseAt c 0).setV .fallAt c 0
    if comp && decide (s.v .loFall c ≤ x) then s.setV .loRise c lo else (s.setV .loFall c 0).setV .loRise c 0

/-- A trip at a carrier time: the pulse, the flags and the count, ACC, and the report to PROT, where a stage fault does not count (R116, R305, R306). -/
def tripNow (s : State) (c : Nat) (path : TripPath) (t : Nat) : State :=
  let s := (((s.tripEdges c t).setV .tripLatch c 1).setV .csaTrip c 1).wr Reg.PWM_ACC c 0
  let s := ((s.wr Reg.PWM_TRIPF c 1).bump Reg.PWM_TRIPCNT c).setV .tripWait c 0
  let s := match s.railOf c with
    | some r => s.identSpoil r
    | none => s
  if path = .faultPin then s
  else if 32 ≤ c then
    if s.vOn .hamTripped then s
    else
      let s := (s.setV .hamTripped 0 1).setV .hamTrips 0 (s.v .hamTrips + 1)
      if (s.rd Reg.PROT_CTL_HTRIPN : Int) ≤ s.v .hamTrips then (s.setV .hamTrips 0 0).hamLatch else s
  else match s.railOf c with
    | some r => s.setV .railTripped r 1
    | none => s

/-- The channel's level has stood to the end of the blanking, if that came before carrier time `t`: it trips in the first tick after it (R117). -/
def tripDue (s : State) (c t : Nat) : State :=
  if s.vOn .tripWait c ∧ s.blankEnd c ≤ t then
    match s.heldPath c with
    | some p => if s.tripOpen c then s.tripNow c p (s.blankEnd c) else s.setV .tripWait c 0
    | none => s.setV .tripWait c 0
  else s

/-- A trip input is asserted at a carrier time: it trips at once, or, inside the blanking, when that ends if a level still stands then (R116, R117). -/
def tripAt (s : State) (c : Nat) (path : TripPath) (t : Nat) : State :=
  let s := s.tripDue c t
  if ¬ s.tripOpen c ∨ ¬ s.tripEnabled c path then s
  else if s.blanked c t then s.setOn .tripWait c (s.vOn .tripWait c || s.tripLevel c path)
  else s.tripNow c path t

/-- A level has been released: with none left, nothing waits for the end of the blanking. -/
def tripReleased (s : State) (c : Nat) : State := if (s.heldPath c).isNone then s.setV .tripWait c 0 else s

/-- A level that stands in the reload tick belongs to the new period and suppresses its pulse (R116, R119). -/
def tripReload (s : State) (c : Nat) : State :=
  if s.tripOpen c then match s.heldPath c with
    | some p => s.tripNow c p 0
    | none => s
  else s

/-- The channel that a comparator instance trips (R298). -/
def tripChannel (i : Nat) : Option Nat := if i < 34 then some i else if i = 44 ∨ i = 45 then some (i - 12) else none

/-- A comparator that trips a channel asserts at carrier time `t`; the raw output arrives first where TRIPSEL takes it (R118). -/
def cmpTrip (s : State) (i t : Nat) : State :=
  match tripChannel i with
  | some c => s.tripAt c (if s.rd Reg.PWM_TRIPSEL c = 0 then .filtered else .asynchronous) t
  | none => s

/-- What a release of a comparator that trips a channel finds at carrier time `t`, before the levels fall (R117). -/
def cmpTripDue (s : State) (i t : Nat) : State :=
  match tripChannel i with
  | some c => s.tripDue c t
  | none => s

/-- The levels of a comparator that trips a channel have fallen. -/
def cmpTripEnd (s : State) (i : Nat) : State :=
  match tripChannel i with
  | some c => s.tripReleased c
  | none => s

end State

end Sys2Proof.Machine
end

