-- ==== Sys2Proof/Machine/Comparators.lean ====
section
/-!
DEFINITION. The comparators and the policies that act on their outputs (R71 to R73, R293 to R305, R45, R256).
-/

namespace Sys2Proof.Machine

namespace State

/-- The UV threshold code in force for a rail: an offset below vt under TRACK (R303). -/
def uvCode (s : State) (r : Nat) : Int :=
  let d : Int := s.rd Reg.CMP_DAC (38 + r)
  if s.on Reg.CMP_TRACK (38 + r) then max (rdiv (s.v .vtNow r * 500) (2 ^ 28) - d) 0 else d

/-- Some phase of the rail is live (R111). -/
def phasesLive (s : State) (r : Nat) : Bool := (s.active r).any (fun c => s.rd Reg.PWM_OST c == ostLive)

/-- The conditions under which the UV policy of a rail acts (R303). -/
def uvActs (s : State) (r : Nat) : Bool :=
  !s.rampingDown r && (s.railState r == railRegulate || (s.railState r == railRamp && s.phasesLive r)) && decide (25 ≤ s.uvCode r)

/-- The UV policy of a rail, once for each assertion (R303). -/
def uvPolicy (s : State) (r : Nat) : State :=
  if s.on Reg.CMP_OUT (38 + r) ∧ ¬ s.vOn .cmpStart (38 + r) ∧ ¬ s.vOn .uvDone r ∧ s.uvActs r then
    let s := s.setV .uvDone r 1
    match s.rd Reg.PROT_UVPOL r with
    | 0 => s.event 0x3003 1 (leBytes 1 r)
    | 1 => s.enterHiccup r
    | 2 => s.faultOff r foUv
    | _ => s.safestop 3 (some r)
  else s

/-- The rail OV response (R302). -/
def ovResponse (s : State) (r : Nat) : State :=
  let s := (if s.vOn .en r then s.setV .ovHold r 1 else s).event 0x3002 2 (leBytes 1 r)
  let st := s.railState r
  if st = railRamp ∨ st = railRegulate ∨ st = railHiccup then
    if s.rd Reg.PROT_OVPOL r = 0 then s.safestop 2 (some r) else s.faultOff r foOv
  else s

/-- The low-side hold of a rail ends: its phases go off and EN_x is deasserted (R302). -/
def endHold (s : State) (r : Nat) : State := if s.vOn .ovHold r then ((s.forceOff r).setV .ovHold r 0).setV .en r 0 else s

/-- The IB over-voltage response (R304). -/
def ibOvResponse (s : State) : State :=
  let s := s.event 0x3006 2 []
  let m := s.mode
  if m = mBoot ∨ m = mSafestop then s
  else
    match s.rd Reg.PROT_CTL_IBOVPOL with
    | 1 =>
      if m = mMinimal then if s.railLive 0 then (s.rampDown 0).slewRef 0 (s.rd Reg.LE_SSSLEW 0) else s
      else if s.anyLive ∧ (m = mActive ∨ m = mInter ∨ m = mHoldup ∨ m = mCharacterise) then s.enterCurtain 0x10 0
      else s
    | 2 => s.safestop 4 none
    | _ => s

/-- What an assertion of OUT does, by instance (R190, R298, R302 to R305). A wake trigger ranks below what the assertion itself starts (R44, R47). -/
def outAsserted (s : State) (i : Nat) : State :=
  let s := (s.capTrigger 0x02 i).feedCmp i
  let woke := s.on Reg.CMP_WAKE i
  let s := if i < 32 then
    (match s.railOf i with
    | some r => if s.rd Reg.PHM_ROLE i = 1 then s.reverseFull r 2 else s
    | none => s)
  else if 34 ≤ i ∧ i < 38 then s.ovResponse (i - 34)
  else if 38 ≤ i ∧ i < 42 then ((s.reverseFull (i - 38) 2).setV .uvDone (i - 38) 0).uvPolicy (i - 38)
  else if i = 42 then s.ibLoss
  else if i = 43 then s.ibOvResponse
  else if (i = 46 ∨ i = 47) ∧ s.rd Reg.HAM_CTL_AMODE ≠ 0 then s.hamLatch
  else s
  if woke then s.interTrigger else s

/-- What a release of OUT does, by instance (R57, R302, R304). -/
def outReleased (s : State) (i : Nat) : State :=
  if 34 ≤ i ∧ i < 38 then (s.endHold (i - 34)).safeStart
  else if 38 ≤ i ∧ i < 42 then s.setV .uvDone (i - 38) 0
  else if i = 42 ∨ i = 43 then s.hamAtOnce.safeStart
  else if i = 46 ∨ i = 47 then s.hamAtOnce
  else s

/-- OUT of a comparator falls. -/
def dropOut (s : State) (i : Nat) : State := if s.on Reg.CMP_OUT i then ((s.wr Reg.CMP_OUT i 0).feedCmp i).outReleased i else s

/-- The filtered output asserts: LAT, the count, OUT, the trip of its channel, and what follows when OUT was released or in its starting state (R71, R118, R295, R296, R298). `t` is the carrier time of that channel. -/
def cmpAssert (s : State) (i t : Nat) : State :=
  if ¬ s.on Reg.CMP_EN i ∨ s.vOn .cmpFilt i then s
  else
    let acts := !s.on Reg.CMP_OUT i || s.vOn .cmpStart i
    let s := ((s.setV .cmpFilt i 1).setV .cmpStart i 0).wr Reg.CMP_RAW i 1
    let s := (((s.wr Reg.CMP_LAT i 1).bump Reg.CMP_ASSERTCNT i).wr Reg.CMP_OUT i 1).cmpTrip i t
    if acts then s.outAsserted i else s

/-- The filtered output releases; OUT follows under LMODE, at once from its starting state (R71, R296). -/
def cmpFalls (s : State) (i : Nat) : State :=
  if ¬ s.on Reg.CMP_EN i then s
  else if s.vOn .cmpStart i then ((s.setV .cmpStart i 0).wr Reg.CMP_RAW i 0).dropOut i
  else if s.vOn .cmpFilt i then
    let s := (s.setV .cmpFilt i 0).wr Reg.CMP_RAW i 0
    let m := s.rd Reg.CMP_LMODE i
    if m = 0 ∨ (m = 2 ∧ ¬ s.on Reg.CMP_LAT i) then s.dropOut i else s
  else s

/-- A release at carrier time `t` of the instance's channel, with what its trip level has done by then (R117, R296). -/
def cmpRelease (s : State) (i t : Nat) : State := ((s.cmpTripDue i t).cmpFalls i).cmpTripEnd i

/-- A reload of the channel that an instance follows releases an output held for a period (R296). -/
def cmpReload (s : State) (i : Nat) : State :=
  if s.rd Reg.CMP_LMODE i = 1 ∧ ¬ s.vOn .cmpFilt i ∧ ¬ s.vOn .cmpStart i then s.dropOut i else s

/-- LAT cleared by a write of 1 releases an output held by software (R296). -/
def latCleared (s : State) (i : Nat) : State :=
  if s.rd Reg.CMP_LMODE i = 2 ∧ ¬ s.vOn .cmpFilt i ∧ ¬ s.vOn .cmpStart i then (s.dropOut i).cmpTripEnd i else s

/-- The instances whose period is that of a channel's reload, for the lead channel of a rail and for H0 (R296). -/
def periodInstances (s : State) (c : Nat) : List Nat :=
  if c = 32 then [32, 44, 45, 42, 43, 46, 47]
  else if c = 33 then [33]
  else match s.railOf c with
    | some r => if s.lead r = some c then [c, 34 + r, 38 + r] else [c]
    | none => [c]

/-- A change of EN starts or stops a comparator (R73). -/
def cmpEnable (s : State) (i : Nat) (en : Bool) : State :=
  if en then (((s.setV .cmpStart i 1).setV .cmpFilt i 0).wr Reg.CMP_OUT i 1).feedCmp i
  else (((s.setV .cmpStart i 0).setV .cmpFilt i 0).wr Reg.CMP_RAW i 0).dropOut i

/-- A raw rising edge of a privileged instance (R297). -/
def rawEdge (s : State) (i : Nat) (passed : Bool) : State :=
  if ((34 ≤ i ∧ i ≤ 37) ∨ i = 42 ∨ i = 43) ∧ s.on Reg.CMP_EN i then
    let s := (s.wr Reg.CMP_EDGEF i 1).bump Reg.CMP_EDGECNT i
    if passed then s.wr Reg.CMP_RAW i 1 else s.event 0x3009 1 (leBytes 1 i)
  else s

end State

/-- COMPARATOR_ASSERT (R295). -/
def execComparatorAssert (inst : Timed 48) (s : State) : Host.Outcome State Fault Refusal := act s (fun s => s.cmpAssert inst.no inst.t)

/-- COMPARATOR_RELEASE (R296). -/
def execComparatorRelease (inst : Timed 48) (s : State) : Host.Outcome State Fault Refusal := act s (fun s => s.cmpRelease inst.no inst.t)

/-- COMPARATOR_RAW_EDGE (R297). -/
def execComparatorRawEdge (inst : Fin 48) (passed : Bool) (s : State) : Host.Outcome State Fault Refusal := act s (fun s => s.rawEdge inst passed)

end Sys2Proof.Machine
end

