-- ==== Sys2Proof/Machine/Effects.lean ====
section
/-!
DEFINITION. What a published value does in its block when it takes effect, at once or at its rail's boundary (R73, R79, R80, R145, R171, R235).
-/

namespace Sys2Proof.Machine

/-- The owner's capacity of a rail (R235, R243). -/
def thrFld : Nat → Fld
  | 0 => Reg.CUE_THR_CAP_A
  | 1 => Reg.CUE_THR_CAP_B
  | 2 => Reg.CUE_THR_CAP_C
  | _ => Reg.CUE_THR_CAP_D

namespace State

/-- A comparator whose EN has changed stops or starts (R73). -/
def newCmp (o s : State) (i : Nat) : State := if s.on Reg.CMP_EN i = o.on Reg.CMP_EN i then s else s.cmpEnable i (s.on Reg.CMP_EN i)

/-- The current sense channel: a channel newly enabled, or with a new depth, averages anew, and AVG reads 0 until its next sample (R79, R80). -/
def newCsa (o s : State) (c : Nat) : State :=
  if (s.on Reg.CSA_EN c ∧ ¬ o.on Reg.CSA_EN c) ∨ s.rd Reg.CSA_AVGN c ≠ o.rd Reg.CSA_AVGN c
  then ({ s with csaHist := kvErase c s.csaHist } : State).wr Reg.CSA_AVG c 0 else s

/-- Reason 5 follows the owner's capacity (R235). -/
def newThr (o s : State) (r : Nat) : State :=
  let c := s.rd (thrFld r)
  if c = o.rd (thrFld r) then s else if c = capNone then s.dropCap r 5 else s.raiseCap r 5 c

/-- ENV going from 0 to 1 takes the snapshot of KP (R171); a new envelope is compared with a standing proposal (R173, R174). -/
def newEnv (o s : State) (r : Nat) : State :=
  let s := if s.on Reg.LE_ENV r ∧ ¬ o.on Reg.LE_ENV r then s.wr Reg.LE_BASEKP r (s.coefWord false (coefBase r)) else s
  if [Reg.LE_ENV, Reg.LE_GSTEP, Reg.LE_GLO, Reg.LE_GHI].any (fun f => s.rd f r != o.rd f r) then s.refreshOoe else s

/-- RDSLEW turned to 0 in a ramp-down: the phases go off at their next reloads (R137, R145). -/
def newRdslew (o s : State) (r : Nat) : State :=
  if s.rampingDown r ∧ s.rd Reg.LE_RDSLEW r = 0 ∧ o.rd Reg.LE_RDSLEW r ≠ 0 then (s.dropRail r).railStopped else s

/-- What the values that have taken effect do, beside being in force; `o` is the state before. -/
def took (o s : State) : State :=
  let s := (List.range 48).foldl (fun s i => newCmp o s i) s
  let s := (List.range 34).foldl (fun s c => newCsa o s c) s
  (List.range 4).foldl (fun s r => newRdslew o (newEnv o ((newThr o s r).throttleRefresh r) r) r) s

/-- The published values that wait for a boundary take effect at it, with what they do (R115). -/
def atBoundary (s : State) (r : Nat) : State := if s.pubq.any (fun x => x.rail == r) then took s (s.boundary r) else s.boundary r

end State

end Sys2Proof.Machine
end

