-- ==== Sys2Proof/Machine/Factors.lean ====
section
/-!
DEFINITION. The calibration factors in use by band (R79, R100, R101): converters 0 to 33 are the current channels, then VA, VB, HKA and CCT.
-/

namespace Sys2Proof.Machine

def unitVa : Nat := 34
def unitVb : Nat := 35

namespace State

/-- A factor set is stored for a band (R103). -/
def hasSet (s : State) (b : Nat) : Bool := bit (s.rd Reg.CAL_STAT_BANDS) b

/-- The band whose set is used: the nearest with a set, the lower of two equally near (R101). -/
def setBand (s : State) (b : Nat) : Option Nat :=
  (List.range 8).foldl (fun a d =>
    match a with
    | some x => some x
    | none => if d ≤ b ∧ s.hasSet (b - d) then some (b - d) else if b + d < 8 ∧ s.hasSet (b + d) then some (b + d) else none) none

/-- Offset (a 12-bit signed code) and gain (UQ1.15) of a converter in use at a band (R101). -/
def factorOf (s : State) (b u : Nat) : Nat × Nat :=
  match s.setBand b with
  | some k => ((kvFind (k * 256 + 2 * u) s.calSets).getD 0, (kvFind (k * 256 + 2 * u + 1) s.calSets).getD 0x8000)
  | none => ((Config.factoryOffset u).toNat, (Config.factoryGain u).toNat)

/-- The channel's factors in the band's set are not its own: it failed the calibration that stored the set (R101). -/
def foreign (s : State) (b c : Nat) : Bool := (kvFind (b * 256 + 128 + c) s.calSets).isSome

/-- No set of the present band, or not the channel's own (R101); UNCAL tells of the band, whether or not the channel runs (R80). -/
def uncal (s : State) (c : Nat) : Bool := !s.hasSet s.band || s.foreign s.band c

/-- A current channel takes the factors of the present band (R101). -/
def takeFactors (s : State) (c : Nat) : State :=
  let f := s.factorOf s.band c
  (s.wr Reg.CSA_OFS c f.1).wr Reg.CSA_GAIN c f.2

end State

end Sys2Proof.Machine
end

