-- ==== Sys2Proof/Machine/Hamper.lean ====
section
/-!
DEFINITION. The Hamper: its limits, its law and shaping generator, changes of its mode, and the qualification of the intermediate bus (R247 to R258).
Currents are Q4.28 kA and voltages Q8.24 V, as the ports of R251 give them; each result is rounded once to its port's format (log entry 14).
-/

namespace Sys2Proof.Machine

/-- One ampere in Q4.28 kA, times 1000 (exact ratio 2^28 / 1000). -/
def kaOf (num den : Int) : Int := rdiv (num * 2 ^ 28) (den * 1000)

namespace State

/-- The latest IB result as Q8.24 volts: 16 V over 65,536 (R82, R251). -/
def vibQ (s : State) : Int := s.v .vibNow * 4096

/-- The latest reservoir result as Q8.24 volts. -/
def vrvQ (s : State) : Int := s.v .vrvNow * 4096

/-- CUR of H0 plus CUR of H1, in Q4.28 kA (R251). -/
def ihrvQ (s : State) : Int := kaOf (s.rdS Reg.CSA_CUR 32 + s.rdS Reg.CSA_CUR 33) 128

/-- Live Hamper phases (R250). -/
def hamLive (s : State) : Nat := ([32, 33].filter (fun c => s.rd Reg.PWM_OST c == ostLive)).length

/-- Share of the full limit within the last 0.5 V: `d` is the distance in units of 1/4,096,000 V. -/
def taper (s : State) (d : Int) : Int :=
  rdiv ((s.hamLive : Int) * s.rd Reg.HAM_LIM_IHMAX * 2 ^ 28 * clamp 0 (500 * 4096) d) (1000 * 500 * 4096)

/-- ICHLIM (R250). -/
def ichlim (s : State) : Int :=
  if s.on Reg.HAM_STAT_CHLIMA then 0 else s.taper ((s.rd Reg.HAM_LIM_VRVMAX : Int) * 4096 - s.v .vrvNow * 1000)

/-- IDSLIM (R250). -/
def idslim (s : State) : Int :=
  if s.on Reg.HAM_STAT_DSLIMA then 0 else s.taper (s.v .vrvNow * 1000 - (s.rd Reg.HAM_LIM_VRVMIN : Int) * 4096)

/-- Temperatures of the reservoir: the higher of TRV0 and TRV1, in 1/16 °C (R250). -/
def trv (s : State) : Int := max (s.rdS Reg.HKA_VAL 9) (s.rdS Reg.HKA_VAL 10)

/-- Both reservoir temperatures have a result (R250). -/
def trvKnown (s : State) : Bool := s.on Reg.HKA_VALID 9 && s.on Reg.HKA_VALID 10

/-- A known reservoir temperature lies outside limits coded in °C, widened inward by `h` °C (R250). -/
def trvOutside (s : State) (lo hi h : Int) : Bool := s.trvKnown && (decide (s.trv < (lo + h) * 16) || decide ((hi - h) * 16 < s.trv))

/-- What asserts the charge limit, with the levels moved inward by 0 or the hysteresis (R250). -/
def chCond (s : State) (mv deg : Int) : Bool :=
  decide (((s.rd Reg.HAM_LIM_VRVMAX : Int) - mv) * 4096 ≤ s.v .vrvNow * 1000 - (if mv = 0 then 0 else 1)) || s.trvOutside (s.rdS Reg.HAM_LIM_TCHLO) (s.rdS Reg.HAM_LIM_TCHHI) deg

/-- What asserts the discharge limit. -/
def dsCond (s : State) (mv deg : Int) : Bool :=
  decide (s.v .vrvNow * 1000 + (if mv = 0 then 0 else 1) ≤ ((s.rd Reg.HAM_LIM_VRVMIN : Int) + mv) * 4096) || s.trvOutside (s.rdS Reg.HAM_LIM_TDSLO) (s.rdS Reg.HAM_LIM_TDSHI) deg

/-- An assertion of the discharge limit ends a hold-up, or switches every rail off in a CURTAIN without the IB (R258, R259). -/
def dsActs (s : State) : State :=
  let s := s.exhaust 3
  if s.mode = mCurtain ∧ s.vOn .ibLost then ((List.range 4).foldl (fun s r => s.dropRail r) s).railStopped else s

/-- One limit output follows its conditions as a protective output (R71, R250). -/
def limitStep (s : State) (f : Fld) (start : Var) (assert hold : Bool) (acts : State → State) (which : Nat) : State :=
  if assert then
    if s.on f ∧ ¬ s.vOn start then s
    else acts ((((s.wr f 0 1).setV start 0 0).irq 61).event 0x6007 1 (leBytes 1 which))
  else if s.on f ∧ ¬ hold then ((s.wr f 0 0).setV start 0 0).irq 61
  else s

/-- The reservoir limits are evaluated on a reservoir voltage or temperature result: the voltage asserts by itself, and a release takes all three readings (R71, R250; log entry 78). -/
def reservoirLimits (s : State) : State :=
  if s.vOn .gotRv then
    let s := s.limitStep Reg.HAM_STAT_CHLIMA .chStart (s.chCond 0 0) (!s.trvKnown || s.chCond 50 3) (fun s => s) 0
    s.limitStep Reg.HAM_STAT_DSLIMA .dsStart (s.dsCond 0 0) (!s.trvKnown || s.dsCond 50 3) dsActs 1
  else s

/-- A reservoir result (source 0x6) is latched: limits, and the mean of the last 16 in HOLDUP (R250, R258). -/
def reservoirResult (s : State) (val : Nat) : State :=
  let k := s.vn .rvCount
  let s := (((s.setV .vrvNow 0 val).setV .rvHist (k % 16) (val + 1)).setV .rvCount 0 (k + 1)).setV .gotRv 0 1
  let s := s.reservoirLimits
  let sum : Int := (List.range 16).foldl (fun a i => a + (s.v .rvHist i - 1)) 0
  if (List.range 16).all (fun i => s.vOn .rvHist i) ∧ sum * 1000 ≤ 16 * 4096 * (s.rd Reg.HAM_LIM_VCURT : Int) then s.exhaust 1 else s

/-- An IB result (source 0x5) is latched: it starts or breaks the qualification (R257). -/
def ibResult (s : State) (val : Nat) : State :=
  let s := s.setV .vibNow 0 val
  if (s.rd Reg.HAM_IB_VRES : Int) * 4096 ≤ (val : Int) * 1000 then
    if s.vn .tQual = 0 ∧ ¬ s.vOn .ibQual then s.setV .tQual 0 (s.now + s.rd Reg.HAM_IB_TQUAL * 40000 + 1) else s
  else (s.setV .tQual 0 0).setV .ibQual 0 0

/-- An upstream current result (source 0x7): IUP = the shunt voltage over RIIB, in Q4.28 kA (R82, R251). -/
def iibResult (s : State) (val : Nat) : State :=
  let uv := sgn 16 val
  s.setV .hamIup 0 (satS 32 (rdiv (uv * 125000 * 2 ^ 28) (65536 * 1000 * (s.rd Reg.HAM_SHUNT_RIIB : Int))))

/-- The setpoint of CHARGE and DISCHARGE, IB-side (R248). CHARGE that has tapered to zero resumes 100 mV below VRVTGT. -/
def ihset (s : State) : State × Int :=
  let rc := kaOf (s.rd Reg.HAM_SHAPE_RCMAX) 16
  let d : Int := (s.rd Reg.HAM_SHAPE_VRVTGT : Int) * 4096 - s.v .vrvNow * 1000
  let full : Int := 100 * 4096
  match s.rd Reg.HAM_CTL_AMODE with
  | 2 =>
    let done := if d ≤ 0 then true else if full ≤ d then false else s.vOn .chargeDone
    (s.setOn .chargeDone 0 done, if done then 0 else -(rdiv (rc * clamp 0 full d) full))
  | 3 => (s, if d < 0 then min rc (max 0 (s.v .hamIup)) else 0)
  | _ => (s, 0)

/-- The interval of Hamper updates in LE ticks (R131). -/
def hamTs (s : State) : Nat := match s.slotsOf 5 with
  | 0 => 0
  | n => 64 / n

/-- SLIM over one update, in Q4.28 kA (R253). -/
def slimStep (s : State) : Int := rdiv ((s.rd Reg.HAM_SHAPE_SLIM : Int) * s.hamTs * 2 ^ 28) 400000000

/-- ih_ib: the Hamper's current into the IB (R252). -/
def ihIb (s : State) : Int := -(rdiv (s.ihrvQ * s.vrvQ) (max s.vibQ (2 ^ 24)))

/-- The pre-position terms in force (R255). -/
def ipre (s : State) : Int :=
  if s.on Reg.HAM_CTL_PRE then (List.range 4).foldl (fun a r => if 0 < s.v .ipreFrom r ∧ s.v .ipreFrom r ≤ s.now + 1 then a + s.v .ipreS r else a) 0 else 0

/-- Reason 4 and its capacities follow the headroom (R254). -/
def headroom (s : State) (hleft : Int) : State :=
  let room := kaOf (s.rd Reg.HAM_SHAPE_HROOM) 1
  let s := if ¬ s.on Reg.HAM_STAT_HDR ∧ hleft < room then ((s.wr Reg.HAM_STAT_HDR 0 1).event 0x6006 1 [1#8]).setV .hdrAt 0 0 else s
  if s.on Reg.HAM_STAT_HDR then
    let s := if 2 * room ≤ hleft then (if s.vn .tHdr = 0 then s.setV .tHdr 0 (s.now + 400000 + 1) else s) else s.setV .tHdr 0 0
    if s.vn .hdrAt = 0 ∨ s.vn .hdrAt + 40000 ≤ s.now + 1 then
      let rails := (List.range 4).filter (fun r => s.railState r == railRegulate)
      let n : Int := rails.length
      let s := s.setV .hdrAt 0 (s.now + 1)
      rails.foldl (fun s r =>
        let vref : Int := s.ref r / (volt / 32768)
        let extra := if vref ≤ 0 then 0 else hleft * 1000 * (s.v .vibNow * 16) * (s.rd Reg.HAM_SHAPE_ETA : Int) * 128 * 32768 / (2 ^ 28 * 65536 * 256 * n * vref)
        s.raiseCap r 4 (max 0 ((s.itot r + extra) / 128)).toNat) s
    else s
  else s

/-- QD as its field shows it: 0.1 mC (R253, R264). -/
def showQd (s : State) : State := s.wrS Reg.HAM_STAT_QD 0 (satS 16 (rdiv (s.v .hamQd) (40 * 2 ^ 28)))

/-- The IB-side current that SHAPING is left with moves toward zero at SLIM, whatever the law (R249). -/
def hamRampStep (s : State) : State :=
  if s.vOn .hamRamp then
    let x := s.v .hamIhv - clamp (-s.slimStep) s.slimStep (s.v .hamIhv)
    (s.setV .hamIhv 0 x).setOn .hamRampDone 0 (x == 0)
  else s

/-- The shaping generator runs once (R253); while SHAPING is left its target asks the ramped current of the Hamper (R249, log entry 78). -/
def generator (s : State) : State :=
  let ts : Int := s.hamTs
  let ih := s.ihIb
  let rcmax := kaOf (s.rd Reg.HAM_SHAPE_RCMAX) 16
  let idem := s.v .hamIup + ih
  let irc := clamp (-rcmax) rcmax (rdiv (s.v .hamQd) (40000 * (s.rd Reg.HAM_SHAPE_TRC : Int)))
  let tgt : Int := (s.rd Reg.HAM_SHAPE_VRVTGT : Int) * 4096
  let vrv := s.v .vrvNow * 1000
  let irc := if vrv < tgt - 409600 then irc + rdiv rcmax 4 else irc
  let irc := if tgt + 409600 < vrv then irc - rdiv rcmax 4 else irc
  let goal := idem + irc + s.ipre
  let it := s.v .hamItgt
  let it := if s.vOn .hamRamp then idem - s.v .hamIhv else it + clamp (-s.slimStep) s.slimStep (goal - it)
  let vib := max s.vibQ 1
  let hdis := rdiv (s.idslim * s.vrvQ) vib
  let hch := rdiv (s.ichlim * s.vrvQ) vib
  let itc := clamp (idem - hdis) (idem + hch) it
  let s := if itc ≠ it then ((s.bump Reg.HAM_STAT_SBCNT 0).irq 60).event 0x6005 1 [] else s
  let s := ((s.setV .hamItgt 0 itc).setV .hamQd 0 (s.v .hamQd + ih * ts)).showQd
  s.headroom (hdis - max (idem - itc) 0)

/-- A coefficient of the Hamper law (R252). -/
def hamCoef (s : State) (x : Nat) : Int := s.coef 4 (0x180 + x)

/-- The basic Hamper law: the state after it, the duty in Q4.28 and the direction (R249, R252). -/
def hamLaw (s : State) (hmode : Nat) : State × Int × Bool :=
  let vib := max s.vibQ (2 ^ 24)
  let vrv := s.vrvQ
  let ihrv := s.ihrvQ
  let ih := s.ihIb
  let r1 := s.ihset
  let s := r1.1
  let ev := (if hmode = 4 then (s.rd Reg.HAM_IB_VHOLD : Int) * 2 ^ 24 / 1000 else 0) - vib
  let ihv := if hmode = 4 then clamp 0 (s.hamCoef 6) (s.v .hamIhv + mulr (s.hamCoef 5) ev 24) else s.v .hamIhv
  let ref := if hmode = 4 then max (mulr (s.hamCoef 4) ev 20 + ihv) 0
    else if hmode = 1 then ih + mulr (s.hamCoef 3) (s.v .hamIup - s.v .hamItgt) 28
    else r1.2
  let s := s.setV .hamIhv 0 ihv
  let x := if vrv = 0 then (sgn 32 (s.free.1 % 2 ^ 32), s.free.2) else (rdiv (-ref * vib) vrv, s)
  let s := x.2
  let rv := clamp (-s.idslim) s.ichlim x.1
  let ei := rv - ihrv
  let dh := rdiv (s.hamCoef 2) 4
  let ii := clamp (-dh) dh (s.v .hamIi + mulr (s.hamCoef 1) ei 28)
  let d := rdiv (vrv * 2 ^ 28) vib + mulr (s.hamCoef 0) ei 24 + ii
  let dir := decide (rv < 0)
  (s.setV .hamIi 0 ii, clamp 0 (2 ^ 28) (if dir then 2 ^ 28 - d else d), dir)

/-- The input ports of context 4 by operand code from 0x20 (R251). -/
def hamPorts (s : State) : Ports :=
  let m := s.rd Reg.HAM_CTL_AMODE
  [s.vibQ, s.vrvQ, s.v .hamIup, s.ihrvQ, if m = 1 then s.v .hamItgt else 0, if m = 4 then (s.rd Reg.HAM_IB_VHOLD : Int) * 2 ^ 24 / 1000 else 0,
   s.ihset.2, s.ichlim, s.idslim, s.v .dutyPrev 4, 0, 0, (s.band : Int), (m : Int)]

/-- Both Hamper phases receive one width, with the direction that they take together with it at their next reload (R247); the shadow of a phase that is off counts once it goes live. -/
def hamDeliver (s : State) (d : Int) (dir : Bool) : State :=
  let dq := (clamp 0 (2 ^ 24 - 1) (d / 16)).toNat
  let s := ((s.wr Reg.LE_DOUT 4 dq).setV .dutyPrev 4 (dq * 16)).setOn .hamDir 0 dir
  [32, 33].foldl (fun s c => s.writeShadow c (min (2 ^ 21 - 1) (dq * 512 * s.half c / 2 ^ 24))) s

/-- What a Hamper update shows: IH and ITGT (R264). -/
def showHam (s : State) : State :=
  let f (x : Int) : Int := satS 16 (rdiv (x * 16000) (2 ^ 28))
  (s.wrS Reg.HAM_STAT_IH 0 (f (s.v .hamIhIb))).wrS Reg.HAM_STAT_ITGT 0 (f (if s.rd Reg.HAM_CTL_AMODE = 1 then s.v .hamItgt else 0))

/-- H0's reload: the wanted mode takes effect, after the ramp to zero when SHAPING is left other than for a forced isolation (R249). -/
def hamReload (s : State) : State :=
  let w := s.hamWant
  let old := s.rd Reg.HAM_CTL_AMODE
  if old = 1 ∧ w.1 ≠ 1 ∧ w.2 = 0 then
    if s.vOn .hamRamp then (if s.vOn .hamRampDone then s.hamTake w.1 w.2 else s)
    else ((s.setV .hamRamp 0 1).setV .hamRampDone 0 0).setV .hamIhv 0 (s.v .hamIhIb)
  else s.hamTake w.1 w.2

/-- The IB has stayed at or above VRES for TQUAL (R257); a HOLDMAX that ends in the same tick comes first (R266). -/
def ibRestored (s : State) : State :=
  if s.vn .tQual = 0 then s
  else
    let s := ((s.upTo (s.vn .tQual - 1)).setV .tQual 0 0).setV .ibQual 0 1
    let lost := s.vOn .ibLost
    let s := if s.mode = mHoldup ∧ s.vn .tHoldmax ≠ 0 ∧ s.vn .tHoldmax ≤ s.now + 1 then (s.setV .tHoldmax 0 0).exhaust 2 else s
    let m := s.mode
    let s := s.setV .ibLost 0 0
    let s := if lost ∧ (m = mHoldup ∨ m = mCurtain) then
        let s := s.holdEnd
        let s := (s.setV .tHoldmax 0 0).wr Reg.HAM_STAT_RESTF 0 1
        let s := ((List.range 4).foldl (fun s r => s.dropCap r 3) s).event 0x6002 0 []
        if m = mHoldup then s.enterMode (if (List.range 4).all (fun r => s.railState r == railDisabled) then mStandby else mActive) 0x05 else s
      else s
    s.hamAtOnce.safeStart

end State

/-- IB_QUALIFIED (R257). -/
def execIbQualified (s : State) : Host.Outcome State Fault Refusal := act s State.ibRestored

/-- HOLDMAX_EXPIRY (R258). -/
def execHoldmaxExpiry (s : State) : Host.Outcome State Fault Refusal :=
  act s (fun s => if s.vn .tHoldmax = 0 ∨ s.mode ≠ mHoldup then s else ((s.upTo (s.vn .tHoldmax - 1)).setV .tHoldmax 0 0).exhaust 2)

/-- CURTAIN_GAP_EXPIRY (R259). -/
def execCurtainGapExpiry (s : State) : Host.Outcome State Fault Refusal :=
  act s (fun s => if s.vn .tGap = 0 then s else (((s.upTo (s.vn .tGap - 1)).setV .tGap 0 0).curtainTurn 4).curtainEnd)

/-- HEADROOM_WITHDRAW (R254). -/
def execHeadroomWithdraw (s : State) : Host.Outcome State Fault Refusal :=
  act s (fun s => if s.vn .tHdr = 0 then s else ((s.upTo (s.vn .tHdr - 1)).setV .tHdr 0 0).headroomEnd)

end Sys2Proof.Machine
end

