-- ==== Sys2Proof/Machine/Pwm.lean ====
section
/-!
DEFINITION. The phase PWM array: reloads and rail boundaries, edges, trips, stage faults, synchronisation and the fine delay (R104 to R129, R143, R145, R148, R185, R189, R249, R306).
-/

namespace Sys2Proof.Machine

/-- What a stage pin shows (R111). -/
inductive PinLevel where
  | low | high | highZ
  deriving DecidableEq, Repr

/-- The four bits of `p` reversed: the dither sequence s(p) (R107). -/
def ditherSeq (p : Nat) : Nat := (List.range 4).foldl (fun a i => a * 2 + b2n (bit p i)) 0

/-- An edge position in sub-ticks realised in 1/16 ticks, with the dither step of a period (R107). -/
def edgeAt (dith : Bool) (p : Nat) (e : Int) : Int := e / 16 + (if dith && decide ((ditherSeq (p % 16) : Int) < e % 16) then 1 else 0)

namespace State

/-- The floor F of a channel (R105). -/
def floorW (s : State) (c : Nat) : Nat := 16 * s.dt Reg.PWM_DT_DTR c + 256 * s.dt Reg.PWM_DT_MINP c

/-- The maximum width of a channel (R105). -/
def maxW (s : State) (c : Nat) : Nat := 512 * s.half c - 256 * s.dt Reg.PWM_DT_MINOFF c - 32 * s.dt Reg.PWM_DT_DTF c

/-- The pulse-floor policy in force: DEFER in burst operation (R110, R191). -/
def policy (s : State) (c : Nat) : Nat :=
  if (s.railOf c).any (fun r => s.vOn .burst r) ∧ s.rd Reg.PHM_ROLE c = 1 then 2 else s.rd Reg.PWM_PFP c

/-- An edge of the present period in 1/16 ticks, with the dither step taken at the reload (R107). -/
def edge (s : State) (c : Nat) (e : Int) : Int := edgeAt (s.vOn .dithNow c) (s.vn .dithNow c - 1) e

/-- The sampling instant of a period with a pulse, in 1/16 ticks of carrier time: by SPM from the pulse as built, or OFFS / 256 of the period; then SDLY (R75). The centre is rounded down to a tick (log entry 75). -/
def sampleAt (s : State) (c : Nat) : Nat :=
  let rise := s.vn .riseAt c
  let fall := s.vn .fallAt c
  let n := 32 * s.half c
  let x := match s.rd Reg.CSA_SPM c with
    | 0 => (rise + fall) / 2
    | 1 => if n = 0 then 0 else ((rise + fall + n) / 2) % n
    | 2 => rise
    | 3 => fall
    | _ => n * s.vn .offsNow c / 256
  x / 16 * 16 + 16 * s.vn .sdlyNow c

/-- The falling edge of a pulse of halves Wr and Wf, and the rise of the complementary switch; the sampling instant follows the pulse (R75, R106, R107). -/
def setFall (s : State) (c wf : Nat) : State :=
  let ef : Int := 256 * (s.half c : Int) + wf
  let dtf : Int := s.dt Reg.PWM_DT_DTF c
  let comp := s.rd Reg.PWM_OUTM c == 1
  let s := (s.setV .edgeEf c ef).setV .fallAt c (s.edge c (if comp then ef else ef + 16 * dtf))
  let s := s.setV .loRise c (if comp then s.edge c (ef + 16 * dtf) else 0)
  s.setV .sampAt c (s.sampleAt c)

/-- The edges of a pulse of halves Wr and Wf, and of the complementary switch (R106, R107); under SWAP the switch that W drives is the low-side one (R111). -/
def setEdges (s : State) (c wr wf : Nat) : State :=
  let er : Int := 256 * (s.half c : Int) - wr
  let s := (s.setV .pulseWr c wr).setV .edgeEr c er
  let s := s.setV .riseAt c (s.edge c (er + 16 * (s.dt Reg.PWM_DT_DTR c : Int)))
  (s.setV .loFall c (if s.rd Reg.PWM_OUTM c = 1 then s.edge c er else 0)).setFall c wf

/-- A period with no pulse (R110); its sample is taken as FIXED with OFFS 0 (R78). -/
def noPulse (s : State) (c : Nat) : State :=
  let s := [Var.pulseWr, .edgeEr, .edgeEf, .riseAt, .fallAt, .loFall, .loRise].foldl (fun s x => s.setV x c 0) (s.wr Reg.PWM_WACT c 0)
  s.setV .sampAt c (16 * s.vn .sdlyNow c)

/-- The pulse-floor policy at a reload, and the edges of the pulse that survives it (R106, R110). -/
def reloadWidth (s : State) (c : Nat) : State :=
  if ¬ s.on Reg.PWM_CEN c ∨ s.rd Reg.PWM_OST c ≠ ostLive then (s.wr Reg.PWM_ACC c 0).noPulse c
  else
    let p := s.policy c
    let w := s.rd Reg.PWM_WSH c + (if p = 2 then s.rd Reg.PWM_ACC c else 0)
    let s := if p = 2 then s.wr Reg.PWM_ACC c 0 else s
    let m := s.maxW c
    let s := if m < w then s.bump Reg.PWM_CLAMPCNT c else s
    let w := min w m
    let f := s.floorW c
    let pulse (s : State) (w : Nat) : State := (s.wr Reg.PWM_WACT c w).setEdges c (w / 2) (w - w / 2)
    if w = 0 then s.noPulse c
    else if f ≤ w then pulse s w
    else if p = 1 then pulse (s.bump Reg.PWM_STRCNT c) f
    else
      let s := (s.noPulse c).bump Reg.PWM_DROPCNT c
      if p = 2 then s.wr Reg.PWM_ACC c w else s

/-- A departing phase's reload: g falls by one part, and the phase is parked at the last; a judgement holds the step (R189, R192). -/
def shedReload (s : State) (c : Nat) : State :=
  if s.on Reg.PHM_DEPART c ∧ ¬ s.on Reg.VSC_STATUS_JUDGE then
    match s.railOf c with
    | none => s
    | some r =>
      let j := s.vn .shedJ r
      if j < s.rd Reg.PHM_SHED_SHRAMP r then s.setV .shedJ r (j + 1)
      else
        let s := (((s.park c).wr Reg.PWM_OST c ostParked).setV .ostArm c 0).wr Reg.PHM_LEDG_SHEDDING r 0
        let s := ((s.setV .shedJ r 0).setV .tDwell r 0).irq 47
        ((s.dwellCheck r).interShed r).interCheck
  else s

/-- The over-current count of a rail at its boundary (R306). -/
def hcntBoundary (s : State) (r : Nat) : State :=
  let t := s.vOn .railTripped r
  let s := s.setV .railTripped r 0
  if (s.railState r = railRamp ∨ s.railState r = railRegulate) ∧ ¬ s.rampingDown r then
    if t then
      let n := s.rd Reg.PROT_HCNT r + 1
      let s := (s.wr Reg.PROT_HCNT r n).setV .cleanPer r 0
      if s.rd Reg.PROT_HN r ≤ n then s.enterHiccup r else s
    else
      let k := s.vn .cleanPer r + 1
      if 16 ≤ k then (s.wr Reg.PROT_HCNT r 0).setV .cleanPer r 16 else s.setV .cleanPer r k
  else s

/-- The rail command or turn that waits for the boundary takes effect (R68, R143, R145, R259, R307). -/
def railTurn (s : State) (r : Nat) : State :=
  let s := if s.vn .onPub r = 1 then (s.setV .railTripped r 0).startRail r else if s.vn .onPub r = 2 ∨ s.vOn .curDown r then s.rampDown r else s
  if s.vOn .hicRetry r ∧ s.railState r = railHiccup then (s.setV .railTripped r 0).startRamp r else s

/-- The period boundary of a rail: published values, rail commands, the over-current count, the bank flip, the table lookups, and the next shed step of an entry into INTERMISSION (R115, R143, R148, R185, R191, R306). -/
def railBoundary (s : State) (r : Nat) : State :=
  let s := ((((s.atBoundary r).settleDeclared r).railTurn r).hcntBoundary r).flip r
  (((s.flipCheck.lookupRail r).setV .susPeriod r 0).interShed r).interCheck

/-- The armed output state of a main channel takes effect at its reload (R111); a phase that goes live in a ramp becomes active (R143, R178). -/
def reloadOst (s : State) (c : Nat) : State :=
  let a := s.vn .ostArm c
  if a = 0 ∨ ¬ s.on Reg.PWM_CEN c then s
  else
    let s := (s.wr Reg.PWM_OST c (a - 1)).setV .ostArm c 0
    if a - 1 = ostLive then
      let up : Bool := match s.railOf c with
        | some r => s.railState r == railRamp && !s.rampingDown r
        | none => false
      (if s.rd Reg.PHM_ROLE c = 2 ∧ up then s.setRole c 1 else s).setV .livePer c 0
    else s

/-- The reload of H0 or H1: output state and direction (R247, R249); a channel without a carrier, and every one in SAFESTOP, stays off (R111, R310). -/
def hamChannel (s : State) (c : Nat) : State :=
  let on := s.on Reg.PWM_CEN c && s.mode != mSafestop && s.rd Reg.HAM_CTL_AMODE != 0 && (c == 32 || s.on Reg.HAM_CTL_H1EN)
  (s.wr Reg.PWM_OST c (if on then ostLive else ostOff)).wr Reg.PWM_SWAP c (s.vn .hamDir)

/-- What H0's reload does beside: the Hamper mode, the count of tripped periods, the flip of context 4 (R148, R249, R305). -/
def h0Reload (s : State) : State :=
  let s := ((s.atBoundary 4).flip 4).flipCheck
  let s := if s.vOn .hamTripped then s else s.setV .hamTrips 0 0
  (s.setV .hamTripped 0 0).hamReload

/-- The last phase of a rail that stops has gone off (R145). -/
def stopCheck (s : State) (c : Nat) : State :=
  match s.railOf c with
  | some r => if r < 4 ∧ s.vOn .stopping r ∧ (s.assigned r).all (fun d => s.rd Reg.PWM_OST d == ostOff) then s.disable r else s
  | none => s

/-- What a channel takes for the period that starts: the half-period in force, the fine-delay map, the dead-time set, the current factors, BLANK, the dither step, and the delays of the sampling instant (R75, R101, R105, R107 to R109, R113, R120, R121). -/
def startPeriod (s : State) (c : Nat) : State :=
  let s := (s.setV .halfNow c (s.srcHalf c + s.v .slewAdj c / 2)).setV .slewAdj c 0
  let s := if s.vOn .fdHave c then ((List.range 16).foldl (fun s k => s.setV .fdMap (c * 16 + k) (s.v .fdNew (c * 16 + k))) s).setV .fdHave c 0 else s
  let s := (s.wr Reg.PWM_DTBAND c s.band).takeFactors c
  let s := (s.setV .blankNow c (s.rd Reg.PWM_BLANK c)).setV .dithNow c (if s.on Reg.PWM_DITH c then 1 + (s.vn .perCount c + s.rd Reg.PWM_DOFS c) % 16 else 0)
  (s.setV .sdlyNow c (s.rd Reg.CSA_SDLY c)).setV .offsNow c (s.rd Reg.CSA_OFFS c)

/-- The part of a reload that each channel does for itself (R105, R107 to R110, R113, R116, R121, R296): a trip level that stands now belongs to the new period. -/
def channelReload (s : State) (c : Nat) : State :=
  let s := s.setV .perCount c (s.v .perCount c + 1)
  let s := s.applyArmed c
  let s := if s.on Reg.PWM_CEN c then s else (s.wr Reg.PWM_OST c ostOff).wr Reg.PWM_ACC c 0
  let s := s.startPeriod c
  let s := if 32 ≤ c then s.hamChannel c else s.reloadOst c
  let s := if s.rd Reg.PWM_OST c = ostLive then s.setV .livePer c (s.v .livePer c + 1) else s
  let s := (((s.setV .tripLatch c 0).setV .csaTrip c 0).setV .tripWait c 0).setV .sampDone c 0
  let s := (s.periodInstances c).foldl (fun s i => s.cmpReload i) s
  let s := ((s.shedReload c).reloadWidth c).setV .shadowNew c 0
  (s.tripReload c).stopCheck c

/-- A reload of a running carrier (R113); a trip level that has stood to the end of the blanking has tripped the period that ends (R117). -/
def reload (s : State) (c : Nat) : State :=
  if s.on Reg.PWM_CEN c then
    let s := s.tripDue c (2 * s.half c)
    let s := if c = 32 then s.h0Reload
      else match s.railOf c with
        | some r => if r < 4 ∧ s.lead r = some c then s.railBoundary r else s
        | none => s
    s.channelReload c
  else s

/-- A peak reload: a width written to the shadow since the reload replaces the falling half of the pulse; the rising half stands (R114). -/
def peakReload (s : State) (c : Nat) : State :=
  let wr := s.vn .pulseWr c
  let limit : Int := 256 * ((s.half c : Int) - 2)
  if ¬ s.on Reg.PWM_CEN c ∨ ¬ s.on Reg.PWM_RLDM c ∨ ¬ s.vOn .shadowNew c ∨ s.rd Reg.PWM_WACT c = 0 ∨ s.vOn .tripLatch c ∨
      limit < s.v .edgeEr c + 16 * (s.dt Reg.PWM_DT_DTR c : Int) then s
  else
    let wf := min (max (s.rd Reg.PWM_WSH c - wr) (s.floorW c - wr)) (s.maxW c - wr)
    ((s.wr Reg.PWM_WACT c (wr + wf)).setFall c wf).setV .shadowNew c 0

/-- A stage fault is registered: the flags, the trip of the present period under FLTTRIP, and the report to PHM (R119, R193). -/
def faultPin (s : State) (c t : Nat) : State :=
  if ¬ s.on Reg.PHM_ASSIGN c ∨ s.borrowed c then s
  else (((s.wr Reg.PWM_FLTF c 1).wr Reg.PWM_FLTLIVE c 1).tripAt c .faultPin t).declareFailed c 3

/-- The stage releases its fault pin: FLTLIVE clears, and the input no longer trips (R117, R119). -/
def faultRelease (s : State) (c t : Nat) : State := ((s.tripDue c t).wr Reg.PWM_FLTLIVE c 0).tripReleased c

/-- The correction of a period of `n` ticks for a phase error `d` beyond two ticks: at most a sixteenth of the period, an even number of ticks, longer where the carrier is ahead (R121). -/
def slewStep (n d : Int) : Int :=
  let k := min (d.natAbs : Int) (n / 16) / 2 * 2
  if 0 < d then k else -k

/-- A sync event: the carrier snaps to PHSV or slews toward it (R121). -/
def syncEvent (s : State) (c carrier : Nat) : State :=
  if ¬ s.on Reg.PWM_CEN c ∨ s.rd Reg.PWM_SYNCSEL c = 0 then s
  else
    let n : Int := 2 * s.half c
    let d0 : Int := if n = 0 then 0 else ((carrier : Int) - s.rd Reg.PWM_PHSV c) % n
    let d := if n < 2 * d0 then d0 - n else d0
    if d.natAbs ≤ 2 then (s.setV .slewAdj c 0).wr Reg.PWM_SLEWING c 0
    else
      (s.setV .slewAdj c (slewStep n d)).wr Reg.PWM_SLEWING c 1

/-- PREF treats SYNCI as lost and goes on at the last tracked period (R124). The record's code within class 0x20 is the model's (log entry 15). -/
def synciLost (s : State) (range : Bool) : State :=
  let s := (s.wr Reg.PWM_SYNCST_LOCK 0 0).wr Reg.PWM_SYNCST_LOSTF 0 1
  let s := if range then s.wr Reg.PWM_SYNCST_RANGEF 0 1 else s
  (((s.setV .synciValid 0 0).setV .synciIn 0 0).setV .prefHalf 0 (s.v .prefBase)).event 0x20F0 1 [BitVec.ofNat 8 (b2n range)]

/-- An offset in 1/256 of a period of `n` ticks, rounded (R123, R125). -/
def syncOffset (k n : Nat) : Nat := (rdiv ((k : Int) * n) 256).toNat

/-- The phase error of PREF at a SYNCI edge: how far its carrier time lies past the one that puts its τ = 0 round(SYNCPH M / 256) ticks after the edge, wrapped to half a period (R121, R123). -/
def synciError (s : State) (m carrier : Nat) : Int :=
  let d := if m = 0 then 0 else ((carrier : Int) + syncOffset (s.rd Reg.PWM_REF_SYNCPH) m) % (m : Int)
  if (m : Int) < 2 * d then d - m else d

/-- A SYNCI edge at PWM tick `t`, with PREF's carrier time at it (R123, R124). An odd M is rounded up to an even number, and the period measured first after a loss is compared with the last one before it (log entry 76). -/
def synciEdge (s : State) (carrier t : Nat) : State :=
  if s.rd Reg.PWM_REF_SYNCIM ≠ 1 then s
  else
    let last := s.vn .synciLast
    let prev := s.vn .synciM
    let s := s.setV .synciLast 0 (t + 1)
    if last = 0 then s
    else
      let m := t + 1 - last
      let s := (s.setV .synciM 0 m).wr Reg.PWM_SYNCST_MEAS 0 m
      let inRange := decide (266 ≤ m) && decide (m ≤ 5334)
      if ¬ inRange ∨ (prev ≠ 0 ∧ prev < 100 * ((m : Int) - prev).natAbs) then s.synciLost (!inRange)
      else
        let k := s.vn .synciValid + 1
        let s := s.setV .synciValid 0 (min k 8)
        if k < 8 then s
        else
          let err := s.synciError m carrier
          let near := decide (err.natAbs ≤ 2)
          let base := (m + 1) / 2
          let s := ((s.setV .prefBase 0 base).setV .prefHalf 0 (base + (if near then 0 else slewStep m err / 2))).setV .synciErr 0 err
          let s := (s.wrB Reg.PWM_SYNCST_SLEWING 0 (!near)).setV .synciIn 0 (if near then min (s.v .synciIn + 1) 8 else 0)
          if 8 ≤ s.vn .synciIn ∧ ¬ s.on Reg.PWM_SYNCST_LOCK then (s.wr Reg.PWM_SYNCST_LOCK 0 1).irq 14 else s

/-- The level of SYNCO at a carrier time of PREF: high in the first half of PREF's period, shifted by round(SYNCOFS N / 256) ticks; low with SYNCOEN 0 (R125). -/
def synco (s : State) (carrier : Nat) : Bool :=
  let n := 2 * s.prefHalf
  s.on Reg.PWM_REF_SYNCOEN && decide (2 * ((carrier + n - syncOffset (s.rd Reg.PWM_REF_SYNCOFS) n) % n) < n)

/-- No SYNCI edge within 1.5 periods (R124). -/
def synciLoss (s : State) : State :=
  if s.rd Reg.PWM_REF_SYNCIM ≠ 1 ∨ s.vn .synciLast = 0 then s else (s.synciLost false).setV .synciLast 0 0

/-- A successful measurement of the fine-delay line; the new map waits for the reload (R108). -/
def fineDelay (s : State) (c : Nat) (map : List Byte) : State :=
  if s.on Reg.PWM_CEN c then
    let s : State := (map.zipIdx).foldl (fun s x => s.setV .fdNew (c * 16 + x.2) x.1.toNat) s
    (s.setV .fdHave c 1).wr Reg.PWM_FDSTALE c 0
  else s

/-- No calibration window for 1 ms (R108). -/
def fdStale (s : State) (c : Nat) : State :=
  if s.on Reg.PWM_CEN c ∧ ¬ s.on Reg.PWM_FDSTALE c then (s.wr Reg.PWM_FDSTALE c 1).irq 12 else s

/-! ### Pins -/

/-- The outputs stand in the state of reset or of a clock failure (R25, R48). -/
def pinsHeld (s : State) : Bool := decide (s.power ≠ .running) || s.on Reg.CLK_STATUS_CLKFAIL

/-- The rail over-voltage response holds the low side of a channel's stage on (R302). -/
def lowHeld (s : State) (c : Nat) : Bool :=
  decide (c < 32) && match s.railOf c with
    | some r => decide (r < 4) && s.vOn .ovHold r && (s.rd Reg.PHM_ROLE c == 1 || s.rd Reg.PHM_ROLE c == 2)
    | none => false

/-- The channel switches its stage: its carrier runs and its output is live. -/
def switching (s : State) (c : Nat) : Bool := !s.pinsHeld && s.on Reg.PWM_CEN c && s.rd Reg.PWM_OST c == ostLive && !s.lowHeld c

/-- The switch that W drives is on at carrier time `t`, in 1/16 ticks (R106). -/
def wOn (s : State) (c : Nat) (t : Int) : Bool := decide (s.v .riseAt c ≤ t) && decide (t < s.v .fallAt c)

/-- The other switch of a complementary pair is on: outside the time between its two edges (R106). -/
def otherOn (s : State) (c : Nat) (t : Int) : Bool := !(decide (s.v .loFall c ≤ t) && decide (t < s.v .loRise c))

/-- The level of a channel's own pin, PWMnn or HxHI, at carrier time `t` in 1/16 ticks (R111). -/
def hiPin (s : State) (c : Nat) (t : Int) : PinLevel :=
  let lvl (b : Bool) : PinLevel := if b then .high else .low
  if s.rd Reg.PWM_OUTM c = 1 then lvl (s.switching c && (if s.on Reg.PWM_SWAP c then s.otherOn c t else s.wOn c t))
  else if s.switching c then lvl (s.wOn c t)
  else if s.lowHeld c ∧ ¬ s.pinsHeld then .low else .highZ

/-- The level of a complementary channel's LO pin, PWM(n + 1) or HxLO, at carrier time `t` (R111, R302). -/
def loPin (s : State) (c : Nat) (t : Int) : PinLevel :=
  if (s.switching c && (if s.on Reg.PWM_SWAP c then s.wOn c t else s.otherOn c t)) || (s.lowHeld c && !s.pinsHeld) then .high else .low

/-- The level of pin PWMnn: a borrowed pin is the LO of the channel below, at that channel's carrier time (R111, R112). -/
def pwmPin (s : State) (c : Nat) (t : Int) : PinLevel := if s.borrowed c then s.loPin (c - 1) t else s.hiPin c t

end State

/-- PWM_RELOAD (R113). -/
def execPwmReload (ch : Chan) (s : State) : Host.Outcome State Fault Refusal := act s (fun s => s.reload ch)

/-- PWM_PEAK_RELOAD (R114). -/
def execPwmPeakReload (ch : Chan) (s : State) : Host.Outcome State Fault Refusal := act s (fun s => s.peakReload ch)

/-- PWM_TRIP (R116): a trip input stands asserted at carrier time `t`; the asynchronous one may be a raw pulse that the comparator's filter does not pass. -/
def execPwmTrip (ch : Chan) (path : TripPath) (t : Nat) (s : State) : Host.Outcome State Fault Refusal :=
  act s (fun s => if path ≠ .asynchronous ∧ ¬ s.tripLevel ch path then s else s.tripAt ch path t)

/-- FLT_REGISTERED (R119). -/
def execFltRegistered (ch : Timed 32) (s : State) : Host.Outcome State Fault Refusal := act s (fun s => s.faultPin ch.no ch.t)

/-- FLT_RELEASE (R119). -/
def execFltRelease (ch : Timed 32) (s : State) : Host.Outcome State Fault Refusal := act s (fun s => s.faultRelease ch.no ch.t)

/-- SYNC_EVENT (R121). -/
def execSyncEvent (ch : Chan) (carrier : BitVec 13) (s : State) : Host.Outcome State Fault Refusal := act s (fun s => s.syncEvent ch carrier.toNat)

/-- SYNCI_EDGE (R123). -/
def execSynciEdge (carrier : BitVec 13) (t : Nat) (s : State) : Host.Outcome State Fault Refusal := act s (fun s => s.synciEdge carrier.toNat t)

/-- SYNCI_LOSS (R124). -/
def execSynciLoss (s : State) : Host.Outcome State Fault Refusal := act s State.synciLoss

/-- FINE_DELAY_MEASURE (R108): the map gives one tap per fine code. -/
def execFineDelayMeasure (ch : Chan) (map : List Byte) (s : State) : Host.Outcome State Fault Refusal :=
  if map.length = 16 then act s (fun s => s.fineDelay ch map) else .refused .illFormed

/-- FDSTALE_TIMEOUT (R108). -/
def execFdstaleTimeout (ch : Chan) (s : State) : Host.Outcome State Fault Refusal := act s (fun s => s.fdStale ch)

end Sys2Proof.Machine
end

