-- ==== Sys2Proof/Machine/Sensing.lean ====
section
/-!
DEFINITION. The converters: phase currents, rail and bus voltages with their cross-check and hand-over, housekeeping with the thermal unit, the coulomb counter, and the end of a calibration (R74 to R103, R313 to R317).
-/

namespace Sys2Proof.Machine

namespace State

/-! ### Phase currents -/

/-- A raw current code as a current in 1/128 A, with the channel's factors (R79). -/
def csaCurrent (s : State) (c : Nat) (raw : Int) : Int :=
  satS 16 (rdivAway ((raw - s.rdS Reg.CSA_OFS c) * s.rd Reg.CSA_GAIN c) (2 * (s.rd Reg.CSA_SGAIN c : Int)))

/-- The running mean over the last 2^AVGN samples, or those taken so far (R79). -/
def csaAvg (s : State) (c : Nat) : Int :=
  let l := ((kvFind c s.csaHist).getD []).take (2 ^ s.rd Reg.CSA_AVGN c)
  if l.isEmpty then 0 else rdivAway (l.foldl (· + ·) 0) l.length

/-- What PHM does with a main sample of a phase (R186, R187, R193, R196, R199). -/
def phaseSample (s : State) (c : Nat) : State :=
  match s.railOf c with
  | none => s
  | some r =>
    if 4 ≤ r then s
    else
      let q := s.rdS Reg.CSA_CUR c * s.rd Reg.PWM_WACT c
      let s := if s.rd Reg.PHM_ROLE c = 1 then (s.setV .cbRun 0 (s.v .cbRun + q)).setV .cbShare c (s.v .cbShare c + q) else s
      (((((s.balance r c).detect r c).learn r c).addCheck r).dwellCheck r)

/-- A conversion of a current channel, 100 ns or 80 PWM ticks, runs at PWM tick `t` (R76, R77). -/
def converting (s : State) (c t : Nat) : Bool := decide (t < s.vn .convEnd c)

/-- The main sample takes precedence over a slope sample under way: that one is dropped and counted, and its field keeps the value before it (R77). -/
def dropSlope (s : State) (c t : Nat) : State :=
  if s.converting c t then
    let s := (s.bump Reg.CSA_MISSCNT c).setV .slopeHave c 0
    s.wr (if s.v .convSlope c = 1 then Reg.CSA_S1 else Reg.CSA_S2) c (s.vn .slopeWas c)
  else s

/-- The result of a main sample (R78 to R81). -/
def mainResult (s : State) (c : Nat) (raw : Int) : State :=
  let sat := raw == -2048 || raw == 2047
  let noPulse := !s.on Reg.PWM_CEN c || s.rd Reg.PWM_OST c != ostLive || s.rd Reg.PWM_WACT c == 0
  let trip := s.vOn .csaTrip c
  let cur := s.csaCurrent c raw
  let s := ((s.wr Reg.CSA_RAW c (code 12 raw)).wrS Reg.CSA_CUR c cur).wr Reg.CSA_SEQ c (s.vn .perCount c)
  let s := ((s.wrB Reg.CSA_SAT c sat).wrB Reg.CSA_NOPULSE c noPulse).wrB Reg.CSA_TRIP c trip
  let s := if sat then s.wr Reg.CSA_SATF c 1 else s
  let s : State := { s with csaHist := kvPut c ((cur :: (kvFind c s.csaHist).getD []).take 128) s.csaHist }
  let s := s.wrS Reg.CSA_AVG c (s.csaAvg c)
  let s := s.capFeed (0x10 + c) (code 16 cur + 2 ^ 24 * b2n sat + 2 ^ 25 * b2n trip + 2 ^ 26 * b2n noPulse)
  s.phaseSample c

/-- A main sample of a current channel at PWM tick `t`, one in each period of a running carrier (R74 to R78); a calibration has the inputs switched away (R99). A trip level that has stood to the end of the blanking by the sampling instant has tripped the period (R117). -/
def csaSample (s : State) (c : Nat) (raw : Int) (t : Nat) : State :=
  if ¬ s.on Reg.CSA_EN c ∨ s.borrowed c ∨ s.on Reg.CAL_STAT_BUSY ∨ (s.on Reg.PWM_CEN c ∧ s.vOn .sampDone c) then s
  else
    let s := (s.setV .sampDone c 1).tripDue c (s.vn .sampAt c / 16)
    if s.converting c t ∧ ¬ s.vOn .convSlope c then s.bump Reg.CSA_MISSCNT c
    else (((s.dropSlope c t).setV .convEnd c (t + 80)).setV .convSlope c 0).mainResult c raw

/-- A slope sample in the off-time at PWM tick `t`; `toff` is the off-time in PWM ticks, 400 ns being 320; the off-time straddles the reload, so S2 may belong to the period after that of S1 (R76, R77, R106, R199). -/
def slopeSample (s : State) (c : Nat) (second : Bool) (raw : Int) (toff t : Nat) : State :=
  if ¬ s.on Reg.CSA_EN c ∨ ¬ s.on Reg.CSA_SLOPE c ∨ s.borrowed c ∨ s.on Reg.CAL_STAT_BUSY then s
  else if toff < 320 then if second then s else s.bump Reg.CSA_SLOPESKIP c
  else if s.converting c t then s.bump Reg.CSA_MISSCNT c
  else
    let cur := s.csaCurrent c raw
    let s := if raw = -2048 ∨ raw = 2047 then s.wr Reg.CSA_SATF c 1 else s
    let s := ((s.setV .convEnd c (t + 80)).setV .convSlope c (if second then 2 else 1)).setV .slopeWas c (s.rd (if second then Reg.CSA_S2 else Reg.CSA_S1) c)
    if ¬ second then (s.wrS Reg.CSA_S1 c cur).setV .slopeHave c (s.v .perCount c + 1)
    else
      let both := decide (s.v .slopeHave c = s.v .perCount c + 1) || (decide (s.v .slopeHave c = s.v .perCount c) && s.vOn .slopeHave c)
      let s := (s.wrS Reg.CSA_S2 c cur).setV .slopeHave c 0
      let d := s.rdS Reg.CSA_S1 c - cur
      match s.railOf c with
      | some r =>
        if r < 4 ∧ both ∧ 0 < d ∧ s.rd Reg.PHM_ROLE c = 1 ∧ s.on Reg.PHM_BAL_LEARN r ∧ s.railState r = railRegulate
        then s.learnInductance c (rdiv (s.v .vsense r * toff * 320) (2 ^ 28 * d)) else s
      | none => s

/-! ### Voltages -/

/-- Source codes of the voltage converters (R82). -/
def srcIb : Nat := 5
def srcRv : Nat := 6
def srcIib : Nat := 7

/-- The check source in force (R85). -/
def checkSource (s : State) : Nat := if s.rd Reg.VSC_CHECK_CHKSRC = 0 then s.vn .chkRot % 6 + 1 else s.rd Reg.VSC_CHECK_CHKSRC

/-- The band whose factors the voltage converters use: the one at the start of their cycle (R101). -/
def vscFactorBand (s : State) : Nat := if s.vn .vscBand = 0 then s.band else s.vn .vscBand - 1

/-- A raw voltage code with the converter's factors, two fraction bits kept, not yet limited (R82). -/
def vscValue (s : State) (vb : Bool) (raw : Int) : Int :=
  let f := s.factorOf s.vscFactorBand (if vb then unitVb else unitVa)
  rdivAway ((raw - sgn 12 f.1) * f.2 * 4) 32768

/-- A rail result is latched in its context's input register (R13, R131). -/
def latchRail (s : State) (r : Nat) (val : Nat) : State :=
  let s := ((s.setV .vsense r (val * 8192)).setV .latchAt r s.now).setV .oldBank r 0
  let s := if s.on Reg.IDENT_STAT_RUN ∧ s.rd Reg.IDENT_CFG_RAIL = r then (s.setV .identSum 0 (s.v .identSum + val * 8192)).setV .identCnt 0 (s.v .identCnt + 1) else s
  if (s.railState r = railRamp ∨ s.railState r = railRegulate) ∧ (¬ s.vOn .starting r ∨ s.rampingDown r) then
    let k := s.vn .inSkip r + 1
    if s.mode = mInter ∧ k < 4 then s.setV .inSkip r k
    else
      let s := s.setV .inSkip r 0
      let s := if s.vOn .inWait r then s.bump Reg.LE_OVRCNT r else s
      s.setV .inWait r 1
  else s

/-- A result of a source is latched in VSC_RES and presented to its users (R82, R91, R131, R250, R257). -/
def vscResult (s : State) (vb : Bool) (src : Nat) (x : Int) : State :=
  let y := if src = srcIib then satS 16 x else clamp 0 65535 x
  let n := code 16 y
  let i := src - 1
  let s := (((s.wr Reg.VSC_RES_VAL i n).wrB Reg.VSC_RES_SAT i (x != y)).wrB Reg.VSC_RES_CONV i vb).wr Reg.VSC_RES_SEQ i (s.vn .vscCycle)
  let s := s.capFeed src (n + 2 ^ 24 * b2n (x != y))
  if src ≤ 4 then s.latchRail (src - 1) n
  else if src = srcIb then
    let s := (s.ibResult n).setV .oldBank 4 0
    if s.rd Reg.HAM_CTL_AMODE = 0 then s
    else (if s.vOn .inWait 4 then s.bump Reg.LE_OVRCNT 4 else s).setV .inWait 4 1
  else if src = srcRv then s.reservoirResult n
  else s.iibResult n

/-- A plausibility counter moves by one (R86). -/
def stepCount (s : State) (f : Fld) (up : Bool) : State := if up then s.bump f 0 else s.wr f 0 (s.rd f - 1)

/-- The self-check reading of a converter: ground on even cycles, the reference on odd ones (R85, R86). -/
def selfCheck (s : State) (vb : Bool) (x : Int) : State :=
  let ok := if s.vn .vscCycle % 2 = 0 then decide (x.natAbs * 1000 ≤ 65536) else decide ((x * 2000 - 1200 * 65536).natAbs ≤ 3 * 65536)
  s.stepCount (if vb then Reg.VSC_STATUS_BADB else Reg.VSC_STATUS_BADA) (!ok)

/-- The hand-over to the healthy converter (R88). -/
def handOver (s : State) (vbBad : Bool) : State :=
  let s := ((s.wr (if vbBad then Reg.VSC_STATUS_VBBAD else Reg.VSC_STATUS_VABAD) 0 1).wr Reg.VSC_STATUS_JUDGE 0 0).identSpoil (s.rd Reg.IDENT_CFG_RAIL)
  ((((s.wr Reg.VSC_STATUS_SOLO 0 1).irq 17).event 0x300A 2 [BitVec.ofNat 8 (b2n vbBad)]).alertEvent 0x300A)

/-- Judgement starts; when exactly one self-check has failed it is decided at once (R86 to R88). -/
def startJudgement (s : State) : State :=
  let lim := s.rd Reg.VSC_CHECK_MISLIM
  let badA := decide (lim ≤ s.rd Reg.VSC_STATUS_BADA)
  let badB := decide (lim ≤ s.rd Reg.VSC_STATUS_BADB)
  let s := (s.wr Reg.VSC_STATUS_MISF 0 1).wr Reg.VSC_STATUS_JUDGE 0 1
  if badA != badB then s.handOver badB else s

/-- The cross-check at slot 15, once VB has converted: the counters, and the start of judgement (R85, R86). -/
def crossCheck (s : State) (vb : Bool) (x : Int) : State :=
  let i := s.vn .chkCount % 8
  let inRange := decide (0 ≤ x) && decide (x ≤ 65535)
  let s := (s.setV (if vb then .chkVb else .chkVa) i x).setOn (if vb then .chkOutB else .chkOutA) 0 (!inRange)
  if ¬ vb then s
  else
    let d := (s.v .chkVa i - x).natAbs
    let s := s.setV .chkCount 0 (s.v .chkCount + 1)
    let s := if s.vOn .chkOutA ∨ s.vOn .chkOutB then s
      else s.stepCount Reg.VSC_STATUS_MIS (decide (s.rd Reg.VSC_CHECK_WIN * 65536 < d * 8000))
    let lim := s.rd Reg.VSC_CHECK_MISLIM
    if ¬ s.on Reg.VSC_STATUS_JUDGE ∧ (lim ≤ s.rd Reg.VSC_STATUS_MIS ∨ lim ≤ s.rd Reg.VSC_STATUS_BADA ∨ lim ≤ s.rd Reg.VSC_STATUS_BADB)
    then s.startJudgement else s

/-- The 160 ns cycle ends: the count, and what the next cycle uses: the solo schedule after a hand-over, published schedules, the factors of the present band (R84, R88, R101). -/
def cycleEnd (s : State) : State :=
  let s := (s.setV .vscCycle 0 (s.v .vscCycle + 1)).setOn .soloNow 0 (s.on Reg.VSC_STATUS_SOLO)
  (s.boundary 5).setV .vscBand 0 (s.band + 1)

/-- A conversion of VA or VB in a slot of the cycle (R82 to R86, R88); an unhealthy converter stands still, a converter alone makes its self-check and no cross-check, and during a calibration no result is taken (R99). -/
def vscConvert (s : State) (vb : Bool) (slot : Nat) (raw : Nat) : State :=
  let solo := s.on Reg.VSC_STATUS_SOLO
  let bad := s.on (if vb then Reg.VSC_STATUS_VBBAD else Reg.VSC_STATUS_VABAD)
  let cal := s.on Reg.CAL_STAT_BUSY
  if bad then s
  else if slot < 14 then
    let k := (if s.vOn .soloNow then 2 else 0) + b2n vb
    match schedSlots[slot]? with
    | none => s
    | some f =>
      let src := s.rd f k
      if src = 0 ∨ 7 < src ∨ cal then s else s.vscResult vb src (s.vscValue vb (if src = srcIib then sgn 14 raw else raw))
  else if slot = 14 then if cal then s else s.selfCheck vb (s.vscValue vb raw)
  else
    let s := if solo ∨ cal then s else s.crossCheck vb (s.vscValue vb raw)
    if solo ∨ vb then s.cycleEnd else s

/-- The verdict of judgement from eight readings of the check tap (R87): 0.25 mV each, the IB and RV at the divided level. -/
def verdict (s : State) (l : List (BitVec 16)) : State :=
  if ¬ s.on Reg.VSC_STATUS_JUDGE then s
  else
    let h := l.foldl (fun a x => a + x.toInt) 0
    let sum (x : Var) : Int := (List.range 8).foldl (fun a i => a + s.v x i) 0
    let near (x : Var) : Bool := decide ((sum x * 8000 - h * 65536).natAbs ≤ 96 * 65536)
    let a := near .chkVa
    let b := near .chkVb
    if a && b then ((s.wr Reg.VSC_STATUS_UNRES 0 1).wr Reg.VSC_STATUS_MIS 0 0).wr Reg.VSC_STATUS_JUDGE 0 0
    else if a then s.handOver true
    else if b then s.handOver false
    else
      let s := ((s.wr Reg.VSC_STATUS_VABAD 0 1).wr Reg.VSC_STATUS_VBBAD 0 1).wr Reg.VSC_STATUS_JUDGE 0 0
      (s.wr Reg.VSC_STATUS_SOLO 0 0).safestop 5 none

/-- The check source advances under CHKSRC 0 (R85). -/
def rotate (s : State) : State :=
  if s.rd Reg.VSC_CHECK_CHKSRC = 0 then s.setV .chkRot 0 ((s.v .chkRot + 1) % 6) else s

/-! ### Housekeeping and temperatures -/

/-- 2 atanh(y) for y in Q40, by its series: ln of a ratio near 1. -/
def lnSeries (y : Int) : Int :=
  let y2 := y * y / 2 ^ 40
  2 * ((List.range 24).foldl (fun (a : Int × Int) (k : Nat) => (a.1 + a.2 / (2 * (k : Int) + 1), a.2 * y2 / 2 ^ 40)) (0, y)).1

/-- The natural logarithm of a positive ratio, in Q40 (R313; log entry 14). -/
def lnRatio (a b : Nat) : Int :=
  if a = 0 ∨ b = 0 then 0
  else
    let k : Int := (a.log2 : Int) - b.log2
    let x : Int := if 0 ≤ k then a else a * 2 ^ (-k).toNat
    let y : Int := if 0 ≤ k then b * 2 ^ k.toNat else b
    k * 762123384786 + lnSeries ((x - y) * 2 ^ 40 / (x + y))

/-- The temperature of a remote diode from its ΔV in µV, in 1/16 °C (R313). -/
def diodeTemp (nf : Nat) (uv : Int) : Int :=
  let den : Int := 10000000 * (nf : Int) * (4 * 762123384786)
  if nf = 0 then 0 else rdiv (uv * 116045 * 128 * 16 * 2 ^ 40 * 10 - 43704 * den) (10 * den)

/-- The temperature of an NTC from its voltage in µV, with its nominal values and the supply in µV, in 1/16 °C (R313). -/
def ntcTemp (rnom beta rpu : Nat) (uv vdda : Int) : Int :=
  let l := lnRatio (rpu * uv.toNat) (rnom * (vdda - uv).toNat)
  let b : Int := beta
  let den := 20 * b * 2 ^ 40 + 5963 * l
  if den ≤ 0 then 0 else rdiv (5963 * b * 2 ^ 40 * 16 * 100 - 27315 * 16 * den) (100 * den)

/-- Clear or set of a sensor's shutdown output (R71, R314, R316). -/
def shutdownStep (s : State) (i : Nat) (t sd h : Int) : State :=
  if sd ≤ t then
    if s.on Reg.THM_SDA i ∧ ¬ s.vOn .thmStartSd i then s
    else (((((s.wr Reg.THM_SDA i 1).setV .thmStartSd i 0).wr Reg.THM_SDF i 1).event 0x4004 3 (leBytes 1 i))).safestop 1 none
  else if t ≤ sd - h then (s.wr Reg.THM_SDA i 0).setV .thmStartSd i 0
  else s

/-- A sensor's throttle output asserts (R314, R315). -/
def throttleOn (s : State) (i : Nat) : State :=
  if s.on Reg.THM_THRA i ∧ ¬ s.vOn .thmStartThr i then s
  else (((s.wr Reg.THM_THRA i 1).setV .thmStartThr i 0).wr Reg.THM_THRF i 1).event 0x4002 1 (leBytes 1 i)

/-- A sensor's throttle output (R71, R314, R315). -/
def throttleStep (s : State) (i : Nat) (t thr h : Int) : State :=
  if thr ≤ t then s.throttleOn i
  else if t ≤ thr - h ∧ s.on Reg.THM_THRA i then
    let quiet := s.vOn .thmStartThr i
    let s := (s.wr Reg.THM_THRA i 0).setV .thmStartThr i 0
    if quiet then s else s.event 0x4003 0 (leBytes 1 i)
  else s

/-- A sensor's warning output (R314). -/
def warnStep (s : State) (i : Nat) (t w h : Int) : State :=
  if w ≤ t then
    if s.on Reg.THM_WARNA i then s
    else ((((s.wr Reg.THM_WARNA i 1).wr Reg.THM_WARNF i 1).event 0x4001 1 (leBytes 1 i)).alertEvent 0x4001)
  else if t ≤ w - h then s.wr Reg.THM_WARNA i 0
  else s

/-- A threshold code as a temperature in 1/16 °C (R325, R326). -/
def degOf (c : Nat) : Int := ((c : Int) - 64) * 16

/-- The thresholds of one sensor on a filtered result (R314). -/
def thresholds (s : State) (i : Nat) (t : Int) : State :=
  let h : Int := s.rd Reg.THM_HYS i * 16
  let s := (s.wrS Reg.THM_TEMP i t).wr Reg.THM_OPENF i 0
  let s := s.warnStep i t (degOf (s.rd Reg.THM_WARN i)) h
  let s := s.throttleStep i t (degOf (s.rd Reg.THM_THR i)) h
  s.shutdownStep i t (degOf (s.rd Reg.THM_SD i)) h

/-- The boundaries B1 to B7 (R325). -/
def bandBounds (s : State) : List Int :=
  [Reg.THM_BAND_B1, Reg.THM_BAND_B2, Reg.THM_BAND_B3, Reg.THM_BAND_B4, Reg.THM_BAND_B5, Reg.THM_BAND_B6, Reg.THM_BAND_B7].map (fun f => degOf (s.rd f))

/-- The band of the die reading: up at the next boundary, down past the lower one by BHYS, the first reading without hysteresis (R317). -/
def nextBand (s : State) (t : Int) : Nat :=
  let plain := (s.bandBounds.filter (fun b => decide (b ≤ t))).length
  let h : Int := s.rd Reg.THM_BAND_BHYS * 16
  if ¬ s.vOn .bandKnown then plain
  else if s.band < plain then plain
  else if plain < s.band ∧ t < s.bandBounds.getD (s.band - 1) 0 - h then plain
  else s.band

/-- The die reading moves the band (R317). -/
def bandStep (s : State) (t : Int) : State :=
  let b := s.nextBand t
  let s' := s.setV .bandKnown 0 1
  if b = s.band then s' else (((s'.wr Reg.THM_BAND_BAND 0 b).irq 99).event 0x4005 0 (leBytes 1 b ++ leBytes 1 s.band)).charBand

/-- A sensor whose input lies outside its range: the throttle output asserts and the rest holds (R314). -/
def sensorOpen (s : State) (i : Nat) : State :=
  let s := s.throttleOn i
  if s.on Reg.THM_OPENF i then s else ((s.wr Reg.THM_OPENF i 1).irq 100).event 0x4006 1 (leBytes 1 i)

/-- The value that a conversion contributes, none outside a sensor's valid range (R313, R314). -/
def hkaValue (s : State) (i : Nat) (x : Int) : Option Int :=
  let ty := if 1 ≤ i ∧ i ≤ 8 then s.rd Reg.HKA_TYPE i else 0
  let vdda := s.rdS Reg.HKA_VAL 12 * 250
  if ty = 1 then if 40000 ≤ x ∧ x ≤ 120000 then some (diodeTemp (s.rd Reg.THM_NF i) x) else none
  else if ty = 2 then
    if 10000 ≤ x ∧ x ≤ vdda - 10000 then some (ntcTemp (s.rd Reg.THM_RNOM i) (s.rd Reg.THM_BETA i) (s.rd Reg.THM_RPU i) x vdda) else none
  else some x

/-- The result of a housekeeping input: the mean of its last conversions (R94). -/
def hkaResult (s : State) (i : Nat) (x : Int) : State :=
  let l := (x :: (kvFind i s.hkaHist).getD []).take 8
  let m := l.take (2 ^ s.rd Reg.HKA_FILT i)
  let v := satS 16 (rdiv (m.foldl (· + ·) 0) (max 1 m.length))
  let s : State := { s with hkaHist := kvPut i l s.hkaHist }
  let s := ((s.wrS Reg.HKA_VAL i v).wr Reg.HKA_VALID i 1).wr Reg.HKA_SEQ i (s.vn .hkaRounds)
  s.capFeed (0x60 + i) (code 16 v)

/-- One conversion of the round counts toward it (R93, R435 source 101). -/
def hkaCount (s : State) : State :=
  let k := s.vn .hkaCnt + 1
  if s.hkaRound ≤ k then ((s.setV .hkaCnt 0 0).setV .hkaRounds 0 (s.v .hkaRounds + 1)).irq 101 else s.setV .hkaCnt 0 k

/-- A calibration is at a step between two times after its acceptance, in LE ticks (R99). -/
def calStep (s : State) (lo hi : Nat) : Bool :=
  s.on Reg.CAL_STAT_BUSY && decide (s.vn .calAt + lo ≤ s.now + 1) && decide (s.now + 1 < s.vn .calAt + hi)

/-- A housekeeping conversion (R92 to R94, R250, R313 to R317); between 3.0 and 3.8 ms of a calibration the converter serves that, and the round waits (R93, R99). The operand is the conversion in the input's result format (log entry 77). -/
def hkaConvert (s : State) (i : Nat) (x : Int) : State :=
  if s.rd Reg.HKA_WEIGHT i = 0 ∨ s.calStep 1200000 1520000 then s
  else
    let sensor := i == 0 || (decide (i ≤ 8) && (s.rd Reg.HKA_TYPE i == 1 || s.rd Reg.HKA_TYPE i == 2))
    let s := match s.hkaValue i x with
      | some v =>
        let s := s.hkaResult i (if i = 39 then 0 else v)
        let s := if sensor then s.thresholds i (s.rdS Reg.HKA_VAL i) else s
        if i = 0 then s.bandStep (s.rdS Reg.HKA_VAL 0) else s
      | none => (s.sensorOpen i).wr Reg.HKA_VALID i 1
    let s := if sensor then ((List.range 4).foldl (fun s r => s.throttleRefresh r) s).safeStart else s
    (if i = 9 ∨ i = 10 then s.reservoirLimits else s).hkaCount

/-! ### Coulomb counter -/

/-- The sum of the latest 16 reservoir results, 65,536 to the volt, once there are 16 (R270). -/
def rvSum (s : State) : Option Int :=
  if (List.range 16).all (fun i => s.vOn .rvHist i) then some ((List.range 16).foldl (fun a i => a + (s.v .rvHist i - 1)) 0) else none

/-- A current step of at least 20 A between two samples teaches the reservoir's resistance, kept to 2^-16 of 10 µΩ (R270). -/
def dcrStep (s : State) (was : Int) : State :=
  match s.rvSum with
  | none => s
  | some sum =>
    let di := s.v .irvMa - was
    let r := rdiv ((sum + 1 - s.v .rvPrev) * 100000000 * (if di < 0 then -1 else 1)) (65536 * di.natAbs)
    let s' := if s.on Reg.GAU_STATE_ACTIVE ∧ ¬ s.on Reg.DBG_STAT_ACHALTED ∧ s.vOn .rvPrev ∧ 20000 ≤ di.natAbs ∧
        (s.rd Reg.GAU_CFG_DCRR : Int) ≤ 4 * r ∧ r ≤ 4 * (s.rd Reg.GAU_CFG_DCRR : Int) then
        let x := s.v .dcrFine + rdiv (r * 65536 - s.v .dcrFine) 32
        (s.setV .dcrFine 0 x).wr Reg.GAU_HLTH_DCR 0 (clamp 0 65535 (rdiv x 65536)).toNat
      else s
    s'.setV .rvPrev 0 (sum + 1)

/-- How long the reservoir current has been a tail current (R271 Full). -/
def tailCheck (s : State) : State :=
  if 0 ≤ s.v .irvMa ∧ s.v .irvMa ≤ 10 * (s.rd Reg.GAU_CFG_ITAIL : Int) then (if s.vOn .fullSince then s else s.setV .fullSince 0 (s.now + 1))
  else s.setV .fullSince 0 0

/-- A sample of the coulomb counter with the factors of the present band, limited to 16 bits (R95, R101; log entry 77). -/
def cctValue (s : State) (x : Int) : Int :=
  let f := s.factorOf s.band 37
  satS 16 (rdivAway ((x - sgn 12 f.1) * f.2) 32768)

/-- A decimated sample of the coulomb counter (R95); integration pauses in the offset step of a calibration, 3.8 to 4.2 ms after its acceptance (R99). -/
def cctSample (s : State) (raw : Int) : State :=
  if ¬ s.on Reg.CCT_CTL_EN ∨ s.calStep 1520000 1680000 then s
  else
    let x := s.cctValue raw
    let s := ((s.setV .cctAcc 0 (sgn 48 (code 48 (s.v .cctAcc + x)))).setV .cctN 0 ((s.v .cctN + 1) % 2 ^ 32)).setV .cctLast 0 x
    let was := s.v .irvMa
    let s := s.setV .irvMa 0 (rdiv (x * 50000000) (32768 * (s.rd Reg.HAM_SHUNT_RRV : Int)))
    let s := ((s.dcrStep was).tailCheck).relaxCheck
    (s.capFeed 0x90 (code 16 x)).irq 64

/-! ### The end of a calibration -/

/-- The offset limit of a converter in raw codes; CCT's ±64 µV in its sample LSB (R100). -/
def offsetOk (u : Nat) (o : Int) : Bool :=
  if u < 34 then decide (o.natAbs ≤ 16) else if u ≤ 35 then decide (o.natAbs ≤ 32) else if u = 36 then decide (o.natAbs ≤ 8)
  else decide (o.natAbs * 50000 ≤ 64 * 32768)

/-- A converter passes (R100). -/
def calPass (u : Nat) (f : CalFactor) : Bool := offsetOk u f.offset && decide (970 * 32768 ≤ f.gain * 1000) && decide (f.gain * 1000 ≤ 1030 * 32768)

/-- The factors a converter was using before the calibration (R100). -/
def usedFactor (s : State) (u : Nat) : Nat × Nat :=
  if u < 34 then (s.vn .calOfs u, s.vn .calGain u) else s.factorOf (if u < 36 then s.vn .calVscBand - 1 else s.vn .calBand) u

/-- A channel that failed keeps UNCAL in the band unless the factors it kept were already those of the band (R101). -/
def markForeign (s : State) (b u : Nat) (pass : Bool) : State :=
  if u < 34 then
    if pass ∨ (s.hasSet b ∧ s.band = b ∧ ¬ s.foreign b u) then { s with calSets := kvErase (b * 256 + 128 + u) s.calSets }
    else { s with calSets := kvPut (b * 256 + 128 + u) 1 s.calSets }
  else s

/-- The set of a band as the body of its slot: offset and gain of each converter, then the channels' marks. -/
def calBody (s : State) (b : Nat) : List Byte :=
  (List.range 38).flatMap (fun u => leBytes 2 ((kvFind (b * 256 + 2 * u) s.calSets).getD 0) ++ leBytes 2 ((kvFind (b * 256 + 2 * u + 1) s.calSets).getD 0)) ++
    leBytes 8 (listMask ((List.range 34).filter (s.foreign b))) ++ List.replicate 96 0

/-- CAL_ADC ends: one that was aborted at the end of its step, with no set stored (R373); else pass or fail of each converter, the set stored, hand-over or return of VA and VB, failed phases, the uncounted charge, completion (R90, R99 to R101, R193, R277). -/
def calDone (s : State) (l : List CalFactor) : State :=
  if ¬ s.on Reg.CAL_STAT_BUSY then s
  else if s.vOn .calStop then (s.upTo (s.vn .calAt - 1 + s.vn .calStop)).calEnd stFailed 0x01
  else
    let b := s.vn .calBand
    let pass (u : Nat) : Bool := match l[u]? with
      | some f => calPass u f
      | none => false
    let all := (List.range 38).all pass
    let keep := (List.range 38).map s.usedFactor
    let s := (List.range 38).foldl (fun s u => s.markForeign b u (pass u)) s
    let s : State := (List.range 38).foldl (fun s u =>
      let f : Nat × Nat := if pass u then (match l[u]? with
        | some f => (code 12 f.offset, f.gain)
        | none => (0, 0)) else keep.getD u (0, 0)
      { s with calSets := kvPut (b * 256 + 2 * u + 1) f.2 (kvPut (b * 256 + 2 * u) f.1 s.calSets) }) s
    let s := (s.wr Reg.CAL_STAT_BANDS 0 (if s.hasSet b then s.rd Reg.CAL_STAT_BANDS else s.rd Reg.CAL_STAT_BANDS + 2 ^ b)).wr Reg.CAL_STAT_LASTBAND 0 b
    let s := ((s.wrB Reg.CAL_STAT_VAF 0 (!pass 34)).wrB Reg.CAL_STAT_VBF 0 (!pass 35)).wrB Reg.CAL_STAT_CSAF 0 (!(List.range 34).all pass)
    let s := ((s.wrB Reg.CAL_STAT_HKAF 0 (!pass 36)).wrB Reg.CAL_STAT_CCTF 0 (!pass 37)).queueSlot (65 + b) (s.calBody b)
    let clear := pass 34 && pass 35
    let badA := !clear && (s.on Reg.VSC_STATUS_VABAD || !pass 34)
    let badB := !clear && (s.on Reg.VSC_STATUS_VBBAD || !pass 35)
    let s := (s.wrB Reg.VSC_STATUS_VABAD 0 badA).wrB Reg.VSC_STATUS_VBBAD 0 badB
    let s := if badA != badB then s.handOver badB else s.wr Reg.VSC_STATUS_SOLO 0 0
    let s := (List.range 34).foldl (fun s c => s.wrB Reg.CSA_CALFAIL c (!pass c)) s
    let s := (List.range 32).foldl (fun s c => if s.on Reg.CSA_CALFAIL c ∧ s.on Reg.PHM_ASSIGN c then s.declareFailed c 4 else s) s
    let s := if all then s else s.irq 20
    let s := if s.on Reg.GAU_STATE_ACTIVE then s.setV .gU 0 (s.v .gU + rdiv ((s.rd Reg.GAU_CFG_IOFS : Int) * 4 * 2 ^ 32) 10000) else s
    let s := if s.vn .tRelax = 0 then s else s.setV .tRelax 0 (s.now + s.rd Reg.GAU_CFG_RELAX * 400000000 + 1)
    s.calEnd (if all then stOk else stFailed) 0x08

end State

/-- CSA_SAMPLE (R81). -/
def execCsaSample (ch : Chan) (raw : BitVec 12) (t : Nat) (s : State) : Host.Outcome State Fault Refusal := act s (fun s => s.csaSample ch raw.toInt t)

/-- CSA_SLOPE_SAMPLE (R76). -/
def execCsaSlopeSample (ch : Chan) (second : Bool) (raw : BitVec 12) (toff t : Nat) (s : State) : Host.Outcome State Fault Refusal :=
  act s (fun s => s.slopeSample ch second raw.toInt toff t)

/-- VSC_CONVERSION (R82). -/
def execVscConversion (vb : Bool) (slot : Fin 16) (raw : BitVec 14) (s : State) : Host.Outcome State Fault Refusal :=
  act s (fun s => s.vscConvert vb slot raw.toNat)

/-- JUDGEMENT_VERDICT (R87): eight readings of the check tap. -/
def execJudgementVerdict (readings : List (BitVec 16)) (s : State) : Host.Outcome State Fault Refusal :=
  if readings.length = 8 then act s (fun s => s.verdict readings) else .refused .illFormed

/-- CHECK_SOURCE_ROTATE (R85). -/
def execCheckSourceRotate (s : State) : Host.Outcome State Fault Refusal := act s State.rotate

/-- HKA_CONVERSION (R93). -/
def execHkaConversion (inst : Fin 40) (x : Int) (s : State) : Host.Outcome State Fault Refusal := act s (fun s => s.hkaConvert inst x)

/-- CCT_SAMPLE (R95). -/
def execCctSample (x : BitVec 16) (s : State) : Host.Outcome State Fault Refusal := act s (fun s => s.cctSample x.toInt)

/-- CAL_ADC_DONE (R99): one result per converter. -/
def execCalAdcDone (factors : List CalFactor) (s : State) : Host.Outcome State Fault Refusal :=
  if factors.length = 38 then act s (fun s => s.calDone factors) else .refused .illFormed

end Sys2Proof.Machine
end

