-- ==== Sys2Proof/Machine/Numeric.lean ====
section
/-!
DEFINITION. The functions of real numbers that the Analysis Core's processing uses, in integers with 40 fraction bits (R164, R167, R172, R339 to R343; log entry 14).
-/

namespace Sys2Proof.Machine

/-- π in Q40. -/
def pi40 : Int := 3454217652358

/-- ln 10 in Q40. -/
def ln10Q : Int := 2531719083691

/-- ln 2 in Q40. -/
def ln2Q : Int := 762123384786

/-- cos of an angle of Q40 radians from 0 to π/2, by its series. -/
def cosSeries (a : Int) : Int :=
  let a2 := a * a / 2 ^ 40
  ((List.range 14).foldl (fun (x : Int × Int) (k : Nat) => (x.1 + x.2, -(x.2 * a2 / 2 ^ 40) / ((2 * (k : Int) + 1) * (2 * (k : Int) + 2)))) (0, 2 ^ 40)).1

/-- sin of an angle of Q40 radians from 0 to π/2, by its series. -/
def sinSeries (a : Int) : Int :=
  let a2 := a * a / 2 ^ 40
  ((List.range 14).foldl (fun (x : Int × Int) (k : Nat) => (x.1 + x.2, -(x.2 * a2 / 2 ^ 40) / ((2 * (k : Int) + 2) * (2 * (k : Int) + 3)))) (0, a)).1

/-- cos of `k / n` of a turn, in Q40. -/
def cosTurn (k n : Nat) : Int :=
  let k := k % n
  let q := 4 * k / n
  let a := rdiv (pi40 * (4 * k - q * n : Nat)) (2 * (n : Int))
  if q = 0 then cosSeries a else if q = 1 then -sinSeries a else if q = 2 then -cosSeries a else sinSeries a

/-- The cosines of the `n` parts of a turn. -/
def cosTable (n : Nat) : Array Int := ((List.range n).map (fun k => cosTurn k n)).toArray

/-- atan of `y / x` for 0 ≤ y ≤ x, in Q40 radians: the angle is halved twice, then its series. -/
def atanSmall (y x : Int) : Int :=
  let half (z : Int) : Int := z * 2 ^ 40 / (2 ^ 40 + (isqrt (2 ^ 80 + z * z).toNat : Nat))
  let z := half (half (y * 2 ^ 40 / x))
  let z2 := z * z / 2 ^ 40
  4 * ((List.range 20).foldl (fun (a : Int × Int) (k : Nat) => (a.1 + a.2 / (2 * (k : Int) + 1), -(a.2 * z2 / 2 ^ 40))) (0, z)).1

/-- The angle of `p + i q` in degrees, Q32, above -180 and up to 180. -/
def argDeg (p q : Int) : Int :=
  let a : Int := p.natAbs
  let b : Int := q.natAbs
  let deg (x : Int) : Int := rdiv (x * (180 * 2 ^ 32)) pi40
  let t := if a = 0 ∧ b = 0 then 0 else if b ≤ a then deg (atanSmall b a) else 90 * 2 ^ 32 - deg (atanSmall a b)
  let t := if p < 0 then 180 * 2 ^ 32 - t else t
  if q < 0 then -t else t

/-- e to the power of a Q40 number, in Q40. -/
def expQ (x : Int) : Int :=
  let k := x / ln2Q
  let r := x - k * ln2Q
  let e := ((List.range 22).foldl (fun (a : Int × Int) (j : Nat) => (a.1 + a.2, a.2 * r / 2 ^ 40 / ((j : Int) + 1))) (0, 2 ^ 40)).1
  if 0 ≤ k then e * 2 ^ k.toNat else e / 2 ^ (-k).toNat

/-- 10 to the power `a / b`, in Q40. -/
def pow10 (a b : Int) : Int := expQ (rdiv (ln10Q * a) b)

/-- 10 log10 of a positive ratio, in Q32. -/
def decibel (a b : Nat) : Int := rdiv (State.lnRatio a b * (10 * 2 ^ 32)) ln10Q

/-- A window's value at sample `n` of `N`, in Q40: rectangular, Hann, flat-top, four-term Blackman-Harris (R339, log entry 21). -/
def windowAt (tab : Array Int) (w n size : Nat) : Int :=
  let c (j : Nat) : Int := tab.getD (j * n % size) 0
  if w = 0 then 2 ^ 40
  else if w = 1 then (2 ^ 40 - c 1) / 2
  else if w = 2 then (21557895 * 2 ^ 40 - 41663158 * c 1 + 27726316 * c 2 - 8357895 * c 3 + 694737 * c 4) / 100000000
  else (35875 * 2 ^ 40 - 48829 * c 1 + 14128 * c 2 - 1168 * c 3) / 100000

/-- One bin of the discrete Fourier transform: real and imaginary part, times 2^40. -/
def dftBin (tab x : Array Int) (m : Nat) : Int × Int :=
  let n := x.size
  (List.range n).foldl (fun a i => (a.1 + x.getD i 0 * tab.getD (m * i % n) 0, a.2 - x.getD i 0 * tab.getD ((m * i + 3 * n / 4) % n) 0)) (0, 0)

/-- A segment with its mean removed, times its length, and windowed, in the samples' unit times the length and 2^40. -/
def windowed (tab : Array Int) (w : Nat) (l : List Int) : Array Int :=
  let n := l.length
  let sum := l.foldl (· + ·) 0
  (l.zipIdx.map (fun x => (x.1 * n - sum) * windowAt tab w x.2 n)).toArray

/-- `y · conj r` of two complex numbers. -/
def mulConj (y r : Int × Int) : Int × Int := (y.1 * r.1 + y.2 * r.2, y.2 * r.1 - y.1 * r.2)

/-- The square of a complex number's magnitude. -/
def normSq (y : Int × Int) : Int := y.1 * y.1 + y.2 * y.2

/-- The median of a list; of an even count, the mean of the middle two (log entry 14). -/
def median (l : List Int) : Int :=
  let s := l.mergeSort (fun a b => decide (a ≤ b))
  let n := s.length
  if n = 0 then 0 else if n % 2 = 1 then s.getD (n / 2) 0 else rdiv (s.getD (n / 2 - 1) 0 + s.getD (n / 2) 0) 2

end Sys2Proof.Machine
end

