-- ==== Sys2Proof/Machine/Ident.lean ====
section
/-!
DEFINITION. Loop identification: the perturbation generator, the records of both bands, their transforms and sums, the results, and the retune proposal (R160 to R177, R343).
-/

namespace Sys2Proof.Machine

/-- Samples of a record (R163). -/
def recLen : Nat := 4096

/-- The queue entries of the FFT unit that stand for an identification record: band H and band L (R163). -/
def fftH : Nat := 16
def fftL : Nat := 17

/-- A point's place in a log-frequency scale is `k`; a quantity at point `k`, Q32 of dB or degrees. -/
structure Point where
  valid : Bool
  gain : Int
  phase : Int
  coh : Int
  /-- The closed-loop response is defined at the point. -/
  known : Bool

/-- The bins of a band that point `k` sums, from the first to the last (R164). -/
def binRange (k : Nat) : Nat × Nat :=
  let d : Int := if k < 32 then 128000 else 4000
  let edge (j : Int) : Int := pow10 j 126 * 1000 * d * 4096
  let den : Int := 3125000 * 4000 * 2 ^ 40
  ((-(-(edge (6 * k - 3)) / den)).toNat, (edge (6 * k + 3) / den).toNat)

/-- Words of a context's block that a retune scales (R172). -/
def retuneWords : List Nat := [0x00, 0x01, 0x02, 0x30, 0x31, 0x32]

namespace State

/-- A value of the identification store set. -/
def setId (s : State) (k : Nat) (x : Int) : State := { s with ident := if x = 0 then kvErase k s.ident else kvPut k x s.ident }

/-- The channels that identification holds, rising: band H r and y, band L r and y (R163). -/
def identChans (s : State) : List Nat := (List.range 16).filter (fun c => s.rd Reg.CAP_HOLD c == holdIdent)

/-- The channel that the armed ESR capture of a rail holds (R343); its JOB field names the rail. -/
def esrChan (s : State) (r : Nat) : Option Nat := (List.range 16).find? (fun c => s.rd Reg.CAP_HOLD c == holdEsr && s.rd Reg.CAP_JOB c == r)

/-- One identification sample, a Q4.28 word, enters a channel's double buffer (R163). -/
def identSample (s : State) (c : Nat) (x : Int) : State :=
  let k := s.vn .capTot c
  let n := max 1 (s.recSize c)
  ((s.putWord (0x91000000 + 4096 * s.rd Reg.CAP_TOK0 c + 4 * (k % n)) (code 32 x)).setV .capTot c (k + 1)).capIndex c

/-- The sinc³ decimator by 32, one input: three sums, and at every 32nd input three differences (R163). Its state starts at `b` in the identification store. -/
def sincStep (s : State) (b : Nat) (x : Int) (out : Bool) : State × Int :=
  let i1 := s.idv b + x
  let i2 := s.idv (b + 1) + i1
  let i3 := s.idv (b + 2) + i2
  let s := ((s.setId b i1).setId (b + 1) i2).setId (b + 2) i3
  if out then
    let d1 := i3 - s.idv (b + 3)
    let d2 := d1 - s.idv (b + 4)
    let d3 := d2 - s.idv (b + 5)
    (((s.setId (b + 3) i3).setId (b + 4) d1).setId (b + 5) d2, rdiv d3 32768)
  else (s, 0)

/-- The mean of what was latched in the chip, or the latest mean where nothing was. -/
def chipMean (s : State) (sum cnt mean : Var) : Int := if s.v cnt = 0 then s.v mean else rdiv (s.v sum) (s.v cnt)

/-- A chip has ended: its samples enter both bands; the records hold samples from the 4,097th chip on (R163, R166). -/
def chipEnds (s : State) (r : Nat) : State :=
  let n := s.vn .identChips
  let x := s.v .pert r
  let y := s.chipMean .identSum .identCnt .identMean
  let i := s.chipMean .identSumI .identCntI .identMeanI
  let s := ((s.setV .identSum 0 0).setV .identCnt 0 0).setV .identMean 0 y
  let s := ((s.setV .identSumI 0 0).setV .identCntI 0 0).setV .identMeanI 0 i
  let out := n % 32 == 0
  let a := s.sincStep 0 x out
  let b := a.1.sincStep 8 y out
  let s := b.1
  if n ≤ recLen then s
  else
    let s := match s.identChans with
      | [h, g, l, m] =>
        let s := (s.identSample h x).identSample g y
        if out then (s.identSample l a.2).identSample m b.2 else s
      | _ => s
    match s.esrChan r with
    | some c => s.identSample c i
    | none => s

/-- The reference moves, or the live phases have changed: the records are spoiled (R165). -/
def chipLook (s : State) (r : Nat) : State :=
  let s := if s.atTarget r then s else s.identSpoil r
  let s := if s.v .identLive = (s.nlive r : Int) then s else s.identSpoil r
  s.setV .identLive 0 (s.nlive r)

/-- A chip begins: the generator's output sets the perturbation; what happened while the loop settled spoils no record (R165, R166); and the generator advances; a generator that is to stop stops here (R161, R166, R169). -/
def identChip (s : State) : State :=
  let r := s.rd Reg.IDENT_CFG_RAIL
  let n := s.vn .identChips
  let s := if s.vn .identChipAt = 0 then s else s.upTo (s.vn .identChipAt - 1 + 128)
  if s.vn .identRunning ≠ 1 then
    if s.vn .identChipAt = 0 then s
    else ((List.range 4).foldl (fun s q => s.setV .pert q 0) s).setV .identChipAt 0 0
  else
    let s := if n = 0 then s.setV .identLive 0 (s.nlive r) else (s.chipLook r).chipEnds r
    let s := if n = recLen then s.setV .identBad 0 0 else s
    let x := s.vn .lfsr
    let amp : Int := s.rd Reg.IDENT_CFG_AMP
    let step : Int := rdiv (amp * 2 ^ 28) 4000
    let s := s.setV .pert r (if bit x 14 then step else -step)
    let s := s.setV .lfsr 0 (x * 2 % 32768 + b2n (bit x 14 != bit x 13))
    (s.setV .identChips 0 (n + 1)).setV .identChipAt 0 (s.now + 1)

/-- A record's samples of a channel, in order: the half of the buffer that holds the `j`-th record. -/
def recordOf (s : State) (c j : Nat) : List Int :=
  let a := 0x91000000 + 4096 * s.rd Reg.CAP_TOK0 c + 16384 * (j % 2)
  (List.range recLen).map (fun i => sgn 32 (s.wordAt (a + 4 * i)))

/-- The sums of one record at point `k`: Re and Im of Y·R*, |R|², |Y|², Re and Im of I·R*, |I|² (R164, R343). -/
def pointSums (tab r y i : Array Int) (k : Nat) : List Int :=
  let b := binRange k
  ((List.range (b.2 + 1 - b.1)).map (· + b.1)).foldl (fun a m =>
    let x := dftBin tab r m
    let z := dftBin tab y m
    let w := dftBin tab i m
    let p := mulConj z x
    let q := mulConj w x
    (a.zip [p.1, p.2, normSq x, normSq z, q.1, q.2, normSq w]).map (fun u => u.1 + u.2)) [0, 0, 0, 0, 0, 0, 0]

/-- The points of a band. -/
def bandPoints (bandH : Bool) : List Nat := (List.range 32).map (fun k => if bandH then k + 32 else k)

/-- The sums of a record wait for the FFT unit, by the half of the buffer (R163). -/
def holdSums (s : State) (bandH : Bool) (j : Nat) : State :=
  match s.identChans with
  | [h, g, l, m] =>
    let tab := cosTable recLen
    let arr (c : Nat) : Array Int := windowed tab 1 (s.recordOf c j)
    let r := arr (if bandH then h else l)
    let y := arr (if bandH then g else m)
    let i := match bandH, s.esrChan (s.rd Reg.IDENT_CFG_RAIL) with
      | true, some c => arr c
      | _, _ => #[]
    (bandPoints bandH).foldl (fun s k => ((pointSums tab r y i k).zipIdx).foldl (fun s x => s.setId (3000 + 1000 * (j % 2) + 8 * k + x.2) x.1) s) s
  | _ => s

/-- A record whose transform has not started when its buffer is needed again is dropped (R163). -/
def dropRecord (s : State) (bandH : Bool) (j : Nat) : State :=
  let f := if bandH then fftH else fftL
  match s.spectra.drop 1 |>.find? (fun x => x.job == f && x.ch == j % 2) with
  | none => s
  | some x =>
    let s : State := { s with spectra := s.spectra.take 1 ++ (s.spectra.drop 1).erase x }
    let s := (s.bump Reg.IDENT_STAT_DROPREC 0).irq 76
    if bandH then s.wr Reg.IDENT_STAT_GOODH 0 (s.rd Reg.IDENT_STAT_GOODH - 1) else s.wr Reg.IDENT_STAT_GOODL 0 (s.rd Reg.IDENT_STAT_GOODL - 1)

/-- The run ends with its last record: the perturbation stops at the next chip, resources are released (R163, R166). -/
def identLast (s : State) : State :=
  let n := s.rd Reg.IDENT_CFG_NAVG
  if n ≤ s.rd Reg.IDENT_STAT_GOODL ∨ 2 * n ≤ s.vn .identRecL then
    ((s.wrB Reg.IDENT_STAT_LOWREC 0 (decide (s.rd Reg.IDENT_STAT_GOODL < n))).setV .identRunning 0 2).freeHolder holdIdent
  else s

/-- The record that is being filled has its samples (R163, R166). -/
def recordFull (s : State) (bandH : Bool) : Bool :=
  match s.identChans[if bandH then 0 else 2]? with
  | some c => decide (recLen * (s.vn (if bandH then .identRecH else .identRecL) + 1) ≤ s.vn .capTot c)
  | none => false

/-- A record of a band ends: it is qualified and queued for its transform, or discarded (R163, R165, R166). -/
def recordEnds (s : State) (bandH : Bool) : State :=
  if s.vn .identRunning ≠ 1 ∨ ¬ s.recordFull bandH then s
  else
    let cnt : Var := if bandH then .identRecH else .identRecL
    let j := s.vn cnt
    let s := (s.chipLook (s.rd Reg.IDENT_CFG_RAIL)).setV cnt 0 (j + 1)
    let mask := if bandH then 1 else 2
    let bad := s.vn .identBad
    let s := s.setV .identBad 0 (if bandH then bad / 2 * 2 else bad % 2)
    let s := s.dropRecord bandH (j + 1)
    let s :=
      if bad / mask % 2 = 1 then s.bump Reg.IDENT_STAT_DISC 0
      else
        let s := s.bump (if bandH then Reg.IDENT_STAT_GOODH else Reg.IDENT_STAT_GOODL) 0
        let s := s.holdSums bandH j
        { s with spectra := s.spectra ++ [⟨0, 0, if bandH then fftH else fftL, j % 2, 12, 1, 1, 1⟩] }
    if bandH then s else s.identLast

/-- The sums of a transformed record join those of the run (R164). -/
def addSums (s : State) (x : Spectrum) : State :=
  (bandPoints (x.job == fftH)).foldl (fun s k => (List.range 7).foldl (fun s j =>
    (s.setId (1000 + 8 * k + j) (s.idv (1000 + 8 * k + j) + s.idv (3000 + 1000 * x.ch + 8 * k + j))).setId (3000 + 1000 * x.ch + 8 * k + j) 0) s) s

/-- The FFT unit finishes the transform of an identification record: its sums join those of the run (R163, R164); the transforms of a SPECTRUM end with SPECTRUM_DONE. -/
def fftDone (s : State) : State :=
  if s.on Reg.DBG_STAT_ACHALTED then s
  else
    match s.spectra with
    | x :: rest =>
      if x.job < 16 then s.irq 74
      else
        let s : State := { s with spectra := rest }
        (s.addSums x).irq 74
    | [] => s

/-! ### Results (R167, R170, R177) -/

/-- Point `k` of the run: loop gain, phase and coherence. Where the sums leave a quantity without a value it is a free value (log entry 22). -/
def point (s : State) (k : Nat) : Point :=
  let q (j : Nat) : Int := s.idv (1000 + 8 * k + j)
  let a := (q 0, q 1)
  let b := (q 2 - q 0, -q 1)
  let l := mulConj a b
  let na := (normSq a).toNat
  let nb := (normSq b).toNat
  let good := if k < 32 then 0 < s.rd Reg.IDENT_STAT_GOODL else 0 < s.rd Reg.IDENT_STAT_GOODH
  let fr (j : Nat) : Nat := Config.freeValue (s.freeCtr + 4 * k + j)
  let den := q 2 * q 3
  let known := decide (0 < na) && decide (0 < nb)
  let coh : Int := if 0 < den then rdiv (normSq a * 65536) den else fr 2 % 65536
  let seen : Bool := if 0 < den then decide ((s.rd Reg.IDENT_CFG_COHMIN : Int) * den ≤ normSq a * 256) else decide ((s.rd Reg.IDENT_CFG_COHMIN : Int) * 256 ≤ coh)
  ⟨good && seen, if known then decibel na nb else sgn 16 (fr 0 % 65536) * 2 ^ 24,
    if known then argDeg l.1 l.2 else rdiv (sgn 16 (fr 1 % 65536) * 2 ^ 32) 100, coh, known⟩

/-- Every point of the run. -/
def points (s : State) : List Point := (List.range 64).map s.point

/-- The second phase shifted to lie within 180° of the first (R167). -/
def nearPhase (a b : Int) : Int := if b - a > 180 * 2 ^ 32 then b - 360 * 2 ^ 32 else if a - b > 180 * 2 ^ 32 then b + 360 * 2 ^ 32 else b

/-- A phase brought into -180° to 180° (R167). -/
def wrapPhase (a : Int) : Int := if a > 180 * 2 ^ 32 then a - 360 * 2 ^ 32 else if a < -(180 * 2 ^ 32) then a + 360 * 2 ^ 32 else a

/-- A quantity at the fraction `x` (Q32) of an interval (R167). -/
def lerp (a b x : Int) : Int := a + rdiv ((b - a) * x) (2 ^ 32)

/-- The descending zero crossings of the gain, each as a place in Q32 and the phase there (R167). -/
def crossings (l : List Point) : List (Int × Int) :=
  ((l.zip (l.drop 1)).zipIdx).filterMap (fun z =>
    let p := z.1.1
    let q := z.1.2
    if p.valid && q.valid && decide (0 ≤ p.gain) && decide (q.gain < 0) then
      let x := rdiv (p.gain * 2 ^ 32) (p.gain - q.gain)
      some ((z.2 : Int) * 2 ^ 32 + x, wrapPhase (lerp p.phase (nearPhase p.phase q.phase) x))
    else none)

/-- The gain margin: the gain at the first phase crossing of -180°, from either side, above a place and below 1 MHz (R167). -/
def gainMargin (l : List Point) (above : Int) : Option Int :=
  (((l.zip (l.drop 1)).zipIdx).filterMap (fun z =>
    let p := z.1.1
    let q := z.1.2
    let ph := nearPhase p.phase q.phase
    let half : Int := 180 * 2 ^ 32
    let cross (d : Int) : Option Int :=
      let x := rdiv (d * 2 ^ 32) (ph - p.phase)
      let place := (z.2 : Int) * 2 ^ 32 + x
      if above < place ∧ place < 63 * 2 ^ 32 then some (-(lerp p.gain q.gain x)) else none
    if !p.valid || !q.valid then none
    else if -half < p.phase ∧ ph ≤ -half then cross (-half - p.phase)
    else if p.phase < half ∧ half ≤ ph then cross (half - p.phase)
    else none)).head?

/-- The frequency in Hz of a place on the scale, 1 kHz at 0 and 1 MHz at 63 (R164). -/
def placeHz (x : Int) : Nat := (rdiv (pow10 (3 * x) (63 * 2 ^ 32) * 1000) (2 ^ 40)).toNat

/-- The place of a frequency in kHz; exact at the decades (R172). -/
def kHzPlace (f : Nat) : Int :=
  if f = 1 then 0 else if f = 10 then 21 * 2 ^ 32 else if f = 100 then 42 * 2 ^ 32 else if f = 1000 then 63 * 2 ^ 32
  else rdiv (decibel f 1 * 21) 10

/-- Gain and phase at a place, from the points on each side where both are valid (R172). -/
def atPlace (l : List Point) (x : Int) : Option (Int × Int) :=
  let k := (x / 2 ^ 32).toNat
  let f := x % 2 ^ 32
  match l[k]?, (if f = 0 then l[k]? else l[k + 1]?) with
  | some p, some q => if p.valid && q.valid then some (lerp p.gain q.gain f, wrapPhase (lerp p.phase (nearPhase p.phase q.phase) f)) else none
  | _, _ => none

/-- The search for the proposed crossover: down the grid until the margin suffices (R172). -/
def searchTarget (l : List Point) (pmmin : Int) : Nat → Int → Option (Int × Int × Int)
  | 0, _ => none
  | n + 1, x =>
    match atPlace l x with
    | none => none
    | some (g, ph) =>
      if pmmin * 2 ^ 32 ≤ 180 * 2 ^ 32 + ph then some (x, g, ph)
      else if x ≤ 0 then none
      else searchTarget l pmmin n (if x % 2 ^ 32 = 0 then x - 2 ^ 32 else x / 2 ^ 32 * 2 ^ 32)

/-- Bytes of the result window replaced (R177). -/
def putRes (s : State) (off : Nat) (bs : List Byte) : State :=
  { s with identRes := (bs.zipIdx).foldl (fun m x => if x.1 = 0 then kvErase (off + x.2) m else kvPut (off + x.2) x.1.toNat m) s.identRes }

/-- A byte of the result window. -/
def resByte (s : State) (off : Nat) : Byte := BitVec.ofNat 8 ((kvFind off s.identRes).getD 0)

/-- A Q32 quantity in Q8.8. -/
def q88 (x : Int) : Nat := code 16 (satS 16 (rdiv x (2 ^ 24)))

/-- The bytes of a point (R177). -/
def pointBytes (k : Nat) (p : Point) : List Byte :=
  let b := binRange k
  leBytes 2 (q88 p.gain) ++ leBytes 2 (code 16 (satS 16 (rdiv (p.phase * 100) (2 ^ 32)))) ++ leBytes 2 (clamp 0 65535 p.coh).toNat ++
    leBytes 1 (b2n p.valid + 2 * b2n (decide (32 ≤ k))) ++ leBytes 1 (b.2 + 1 - b.1)

/-- The proposal of R172: place, factor in 1/4096, margin; none leaves PROPV at 0. -/
def proposal (s : State) (r : Nat) (l : List Point) (noxover : Bool) : Option (Int × Int × Int) :=
  if s.rd Reg.LE_LAW r ≠ 0 ∨ noxover then none
  else
    match searchTarget l (s.rd Reg.LE_PMMIN r) 66 (kHzPlace (s.rd Reg.LE_FCT r)) with
    | none => none
    | some (x, g, ph) => some (x, rdiv (pow10 (-g) (20 * 2 ^ 32) * 4096) (2 ^ 40), 180 * 2 ^ 32 + ph)

/-- The proposal is formed and kept, or there is none (R172, R177). -/
def propose (s : State) (r : Nat) (l : List Point) (noxover : Bool) : State :=
  let s := (s.putRes 0x208 (List.replicate 0x14 0)).wr Reg.IDENT_STAT_PROPV 0 0
  match s.proposal r l noxover with
  | none => s.wr Reg.IDENT_STAT_OOE 0 0
  | some (x, g, pm) =>
    let raw (w : Nat) : Int := rdiv (sgn 32 (s.coefWord false (coefBase r + w)) * g) 4096
    let new (w : Nat) : Int := satS 32 (raw w)
    let sat := retuneWords.any (fun w => raw w != new w)
    let s := (retuneWords.zipIdx).foldl (fun s w => s.setId (900 + w.2) (new w.1)) s
    let s := (s.setId 906 g).setId 907 (b2n sat)
    let s := s.putRes 0x208 (leBytes 4 (placeHz x) ++ leBytes 2 (q88 pm) ++ leBytes 2 (clamp 0 65535 g).toNat ++ leBytes 4 (code 32 (new 0)) ++ leBytes 4 (code 32 (new 1)) ++
      leBytes 4 (code 32 (new 2)))
    (s.wr Reg.IDENT_STAT_PROPV 0 1).refreshOoe

/-- The proposal's words enter the staged bank and a swap is armed; its record carries the old and the new KP (R173). -/
def stageRetune (s : State) (r : Nat) : State :=
  let old := s.coefWord false (coefBase r)
  let s := (retuneWords.zipIdx).foldl (fun s w => s.putCoef (coefBase r + w.1) (code 32 (s.idv (900 + w.2)))) s
  let s := ((s.setV .swapStaged 0 1).setV .identOwn 0 1).wr Reg.IDENT_STAT_APPLIED 0 1
  s.event 0x1004 0 (leBytes 4 old ++ leBytes 4 (code 32 (s.idv 900)))

/-- The automatic application of a proposal, or its deferral (R173). -/
def autoRetune (s : State) : State :=
  let r := s.rd Reg.IDENT_CFG_RAIL
  if ¬ s.on Reg.IDENT_STAT_PROPV ∨ s.on Reg.IDENT_STAT_OOE ∨ ¬ s.on Reg.LE_AUTO r ∨ s.rd Reg.LE_LAW r ≠ 0 then ((s.wr Reg.IDENT_STAT_DEFER 0 0).setV .tAuto 0 0).setV .autoUntil 0 0
  else if ¬ s.on Reg.LE_CTL_SWPEND ∧ ¬ s.vOn .bankTouched then (((s.wr Reg.IDENT_STAT_DEFER 0 0).setV .tAuto 0 0).setV .autoUntil 0 0).stageRetune r |>.publishSwap
  else
    let s := if s.vn .autoUntil = 0 then s.setV .autoUntil 0 (s.now + 400000000 + 1) else s
    if s.vn .autoUntil ≤ s.now + 1 then ((s.wr Reg.IDENT_STAT_DEFER 0 0).setV .tAuto 0 0).setV .autoUntil 0 0
    else (s.wr Reg.IDENT_STAT_DEFER 0 1).setV .tAuto 0 (s.now + 400000 + 1)

/-- A deferred application is tried again, by a core that runs (R20, R173). -/
def autoRetry (s : State) : State := if s.vn .tAuto = 0 ∨ s.on Reg.DBG_STAT_ACHALTED then s else (s.upTo (s.vn .tAuto - 1)).autoRetune

/-- The ESR of an armed rail from the points of band H (R343). -/
def esrResult (s : State) (r : Nat) (l : List Point) : State :=
  if ¬ s.on Reg.CAP_ESR_ARMED r then s
  else
    let prd := match s.lead r with
      | some c => s.half c
      | none => 0
    let zs := ((List.range 32).map (· + 32)).filterMap (fun k =>
      let q (j : Nat) : Int := s.idv (1000 + 8 * k + j)
      let i := (q 4, q 5)
      let ok := (l[k]?.map (·.valid)).getD false && decide (pow10 (3 * k) 63 * 1000 * 4 * prd ≤ 400000000 * 2 ^ 40) &&
        decide (9 * (q 2 * q 6) ≤ 10 * normSq i) && decide (0 < normSq i)
      if ok then some (rdiv ((mulConj (q 0, q 1) i).1 * 4000 * 65536) (normSq i)) else none)
    if 5 ≤ zs.length then
      let e := (clamp 0 65535 (rdiv (median zs) 65536)).toNat
      let base := s.rd Reg.CAP_ESR_ESRBASE r
      let s := ((s.wr Reg.CAP_ESR_ESR r e).wr Reg.CAP_ESR_NPTS r zs.length).wr Reg.CAP_ESR_ESRV r 1
      let d : Int := if base = 0 then 0 else satS 16 (rdiv (((e : Int) - base) * 1000) base)
      let s := s.wrS Reg.CAP_ESR_ESRD r d
      let w : Int := s.rd Reg.CAP_HCFG_EWARN
      if base = 0 then s
      else if ¬ s.on Reg.CAP_ESR_EW r ∧ w * 10 ≤ d then ((s.wr Reg.CAP_ESR_EW r 1).event 0x1030 1 (leBytes 1 r)).alertEvent 0x1030
      else if s.on Reg.CAP_ESR_EW r ∧ d ≤ (w - 2) * 10 then s.wr Reg.CAP_ESR_EW r 0 else s
    else (s.wr Reg.CAP_ESR_ESRV r 0).wr Reg.CAP_ESR_NPTS r zs.length

/-- The results of a run are published at once, with the proposal, the ESR and an automatic retune (R166, R167, R170, R172, R173, R343). -/
def identPublish (s : State) : State :=
  if s.vn .identRunning ≠ 2 ∨ s.on Reg.DBG_STAT_ACHALTED then s
  else
    let r := s.rd Reg.IDENT_CFG_RAIL
    let s := (s.spectra.filter (fun x => 16 ≤ x.job)).foldl (fun s x => s.addSums x) s
    let l := s.points
    let s : State := { s with spectra := s.spectra.filter (fun x => x.job < 16), freeCtr := s.freeCtr + 256 }
    let cs := crossings l
    let fc := (cs.head?.map (·.1)).getD 0
    let pm := (cs.map (fun c => 180 * 2 ^ 32 + c.2)).foldl (fun (a : Option Int) x => match a with
      | none => some x
      | some y => some (min x y)) none
    let s := (s.wrB Reg.IDENT_STAT_NOXOVER 0 cs.isEmpty).wrB Reg.IDENT_STAT_MULTIX 0 (decide (1 < cs.length))
    let s := ((l.zipIdx).foldl (fun s p => s.putRes (8 * p.2) (pointBytes p.2 p.1)) s)
    let gm := match gainMargin l fc with
      | some g => q88 g
      | none => 0x7FFF
    let s := s.putRes 0x200 (leBytes 4 (if cs.isEmpty then 0 else placeHz fc) ++ leBytes 2 (q88 (pm.getD 0)) ++ leBytes 2 gm)
    let s := s.propose r l cs.isEmpty
    let s := s.setV .identSeq 0 ((s.v .identSeq + 1) % 65536)
    let s := s.putRes 0x21C (leBytes 2 (s.vn .identSeq))
    let s := (((s.wr Reg.IDENT_STAT_RUN 0 0).wr Reg.IDENT_STAT_DONE 0 1).event 0x1003 0 (leBytes 1 r)).alertEvent 0x1003
    let s := ((s.complete (s.vn .identPort) (s.vn .identTag) 0x58 stOk).setV .identPort 0 0).setV .identRunning 0 0
    (s.esrResult r l).autoRetune

/-- A run starts: its parameters, its resources and the generator's seed (R160, R161, R163, R174, R175). -/
def identStart (s : State) (port1 tag r amp navg coh : Nat) (chans : List Nat) (toks : List Nat) : State :=
  let s := (((s.wr Reg.IDENT_CFG_RAIL 0 r).wr Reg.IDENT_CFG_AMP 0 amp).wr Reg.IDENT_CFG_NAVG 0 navg).wr Reg.IDENT_CFG_COHMIN 0 coh
  let s := (chans.zip toks).zipIdx.foldl (fun s x =>
    let c := x.1.1
    let s := (s.wr Reg.CAP_HOLD c holdIdent).wr Reg.CAP_LEN c 8
    (s.wr Reg.CAP_TOK0 c x.1.2).wr Reg.CAP_RATE c (if x.2 < 2 then 3125000 else 97656)) s
  let s := [Reg.IDENT_STAT_REASON, Reg.IDENT_STAT_PROPV, Reg.IDENT_STAT_OOE, Reg.IDENT_STAT_DEFER, Reg.IDENT_STAT_NOXOVER, Reg.IDENT_STAT_MULTIX, Reg.IDENT_STAT_LOWREC,
    Reg.IDENT_STAT_GOODL, Reg.IDENT_STAT_DISC, Reg.IDENT_STAT_GOODH, Reg.IDENT_STAT_DROPREC].foldl (fun s f => s.wr f 0 0) (s.wr Reg.IDENT_STAT_RUN 0 1)
  let s := [Var.identChips, .identChipAt, .identSum, .identCnt, .identMean, .identSumI, .identCntI, .identMeanI, .identBad, .identRecH, .identRecL, .tAuto, .autoUntil].foldl (fun s x => s.setV x 0 0) s
  let s := (List.range 4).foldl (fun s q => s.setV .pert q 0) s
  let s : State := { s with ident := s.ident.filter (fun x => 900 ≤ x.1 && x.1 < 908) }
  let s := match s.esrChan r with
    | some c => s.setV .capTot c 0
    | none => s
  (((s.setV .lfsr 0 0x7FFF).setV .identRunning 0 1).setV .identPort 0 port1).setV .identTag 0 tag

end State

/-- IDENT_CHIP (R161). -/
def execIdentChip (s : State) : Host.Outcome State Fault Refusal := act s State.identChip

/-- IDENT_RECORD_END (R166). -/
def execIdentRecordEnd (bandH : Bool) (s : State) : Host.Outcome State Fault Refusal := act s (fun s => s.recordEnds bandH)

/-- FFT_DONE (R340). -/
def execFftDone (s : State) : Host.Outcome State Fault Refusal := act s State.fftDone

/-- IDENT_PUBLISH (R166). -/
def execIdentPublish (s : State) : Host.Outcome State Fault Refusal := act s State.identPublish

/-- AUTO_RETUNE_RETRY (R173). -/
def execAutoRetuneRetry (s : State) : Host.Outcome State Fault Refusal := act s State.autoRetry

end Sys2Proof.Machine
end

