-- ==== Sys2Proof/Machine/Health.lean ====
section
/-!
DEFINITION. Stalled capture channels, spectra of captured records, and the health figures of the phases (R336, R339 to R345).
-/

namespace Sys2Proof.Machine

/-- The sum over a list of rationals. -/
def sumQ (l : List Rat) : Rat := l.foldl (· + ·) 0

/-- One step of the elimination: the pivot row scaled, the column cleared in the other rows. -/
def pivot (m : List (List Rat)) (j : Nat) : List (List Rat) :=
  match (m.zipIdx.find? (fun r => decide (j ≤ r.2) && r.1.getD j 0 != 0)) with
  | none => m
  | some (row, i) =>
    let row := row.map (fun x => x / row.getD j 1)
    let m := (m.set i (m.getD j [])).set j row
    m.zipIdx.map (fun r => if r.2 = j then r.1 else (r.1.zip row).map (fun x => x.1 - r.1.getD j 0 * x.2))

/-- The solution of a square system given as rows with the right side last. -/
def solve (m : List (List Rat)) : List Rat := ((List.range m.length).foldl pivot m).map (fun r => r.getD m.length 0)

namespace State

/-! ### Captures that stall (R336) -/

/-- A channel's source has delivered nothing for 10 ms: the channel ends with what it holds. -/
def captureStall (s : State) (c : Nat) : State :=
  if s.rd Reg.CAP_HOLD c = holdJob ∧ s.recording c ∧ s.vn .capNext c = 0 then
    let s := s.upTo (s.vn .capAt c - 1 + 4000000)
    ((s.wr Reg.CAP_STALL c 1).irq 75).jobProgress (s.rd Reg.CAP_JOB c)
  else s

/-! ### Spectra (R339, R340) -/

/-- Logical sample `i` of a channel (R338). -/
def logical (s : State) (c i : Nat) : Nat :=
  s.wordAt (0x91000000 + 4096 * s.rd Reg.CAP_TOK0 c + 4 * ((s.rd Reg.CAP_OLDEST c + i) % max 1 (s.recSize c)))

/-- One segment's bins 0 to N/2, times N, 2^40 and 2^40. -/
def segBins (tab : Array Int) (win n : Nat) (l : List Int) : List (Int × Int) :=
  let x := windowed tab win l
  (List.range (n / 2 + 1)).map (dftBin tab x)

/-- The exponent of a complex spectrum: the least that keeps every value within 16 bits (log entry 21). -/
def specExp (l : List (Int × Int)) (den : Int) : Nat :=
  let top := l.foldl (fun m z => max m (max z.1.natAbs z.2.natAbs)) 0
  ((List.range 64).find? (fun e => decide ((top : Int) ≤ 32767 * den * 2 ^ e))).getD 63

/-- The output of a transform: header and bins (R340). A bin of power 0 has no amplitude in dB and is a free value (log entry 22). -/
def specBytesOf (s : State) (x : Spectrum) : List Byte :=
  let n := 2 ^ x.log2n
  let tab := cosTable n
  let src := s.rd Reg.CAP_SRC x.ch
  let segs := (List.range x.navg).map (fun k => segBins tab x.win n ((List.range n).map (fun i => sampleVal src (s.logical x.ch (k * (n / 2) + i)))))
  let gain := (List.range n).foldl (fun a i => a + windowAt tab x.win i n) 0
  let den : Int := gain * n * 2 ^ 39
  let head (e : Nat) : List Byte := leBytes 2 n ++ leBytes 1 (x.win + 16 * x.fmt) ++ leBytes 1 x.navg ++ leBytes 4 (s.rd Reg.CAP_RATE x.ch) ++ leBytes 1 e ++
    leBytes 1 (b2n (s.on Reg.CAP_RATECHG x.ch || s.on Reg.CAP_STALL x.ch)) ++ List.replicate 6 0
  if x.fmt = 1 then
    let b := segs.getD 0 []
    let e := specExp b den
    let q (v : Int) : Nat := code 16 (satS 16 (rdiv v (den * 2 ^ e)))
    head e ++ b.flatMap (fun z => leBytes 2 (q z.1) ++ leBytes 2 (q z.2))
  else
    head 0 ++ (List.range (n / 2 + 1)).flatMap (fun m =>
      let p := segs.foldl (fun a b => a + normSq (b.getD m (0, 0))) 0
      let db : Int := if p ≤ 0 then sgn 16 (Config.freeValue (s.freeCtr + m) % 65536) else rdiv (decibel p.toNat (den * den * x.navg).toNat) (2 ^ 24)
      leBytes 4 (code 16 (satS 16 db)))

/-- The spectrum at the head of the FFT unit's queue is computed, and its completion reported (R339). While the AC is halted it waits (R352). -/
def spectrumDone (s : State) : State :=
  if s.on Reg.DBG_STAT_ACHALTED then s
  else
    match s.spectra with
    | x :: rest =>
      if 16 ≤ x.job then s
      else
        let bs := s.specBytesOf x
        let s : State := { s with spectra := rest, freeCtr := s.freeCtr + 4096 }
        let s := (s.putBytes (0x91000000 + 4096 * (s.vn .specTok x.ch - 1)) bs).setV .specBytes x.ch bs.length
        (s.irq 74).complete x.port x.tag 0x52 stOk
    | [] => s

/-! ### Health of the phases (R341, R342, R345) -/

/-- A byte of CAP_HLTH; KNEEB and KBASE read 0xFF until there is one (R351, log entry 24). -/
def hlthByte (s : State) (off : Nat) : Byte := BitVec.ofNat 8 ((kvFind off s.health).getD (if off % 16 = 6 ∨ off % 16 = 7 then 0xFF else 0))

/-- Bytes of CAP_HLTH replaced. -/
def putHlth (s : State) (off : Nat) (bs : List Byte) : State :=
  { s with health := (bs.zipIdx).foldl (fun m x =>
      let o := off + x.2
      if x.1 = (if o % 16 = 6 ∨ o % 16 = 7 then 0xFF else 0) then kvErase o m else kvPut o x.1.toNat m) s.health }

/-- A field of a phase's record. -/
def hlth (s : State) (c off n : Nat) : Nat := leNat ((List.range n).map (fun i => s.hlthByte (16 * c + off + i)))

/-- The phases that take part in the fit: active in some kept window. -/
def fitPhases (s : State) : List Nat := (List.range 32).filter (fun c => s.cbHist.any (fun w => w.2.any (fun x => x.1 == c)))

/-- The charge share of a phase in a window; 0 where it was not active. -/
def shareIn (w : Int × List (Nat × Int)) (c : Nat) : Int := ((w.2.find? (fun x => x.1 == c)).map (·.2)).getD 0

/-- The sense-gain factors of the fit (R342), by phase of `fitPhases`. -/
def fitGains (s : State) : List Rat :=
  let ps := s.fitPhases
  let n : Rat := ps.length
  let y (w : Int × List (Nat × Int)) : Rat := (w.1 : Rat) * (100 - (s.rd Reg.PHM_CTL_CBLOSS : Rat)) / 100
  let lam := (s.cbHist.foldl (fun a w => a + y w * y w) 0) / (10000 * n)
  solve (ps.map (fun i =>
    (ps.map (fun j => s.cbHist.foldl (fun a w => a + (shareIn w i : Rat) * (shareIn w j : Rat)) 0 + lam * ((if i = j then 1 else 0) - 1 / n))) ++
      [s.cbHist.foldl (fun a w => a + y w * (shareIn w i : Rat)) 0]))

/-- The spread of a phase's share from the others' (R342). -/
def gainInfo (s : State) (c : Nat) : Rat :=
  let t := s.cbHist.foldl (fun (a : Rat × Rat) w =>
    let mean : Rat := if w.2.isEmpty then 0 else ((w.2.foldl (fun a x => a + x.2) 0 : Int) : Rat) / (w.2.length : Rat)
    let x : Rat := shareIn w c
    (a.1 + (x - mean) * (x - mean), a.2 + x * x)) (0, 0)
  if t.2 = 0 then 0 else t.1 / t.2

/-- A rational rounded to the nearest integer. -/
def roundQ (x : Rat) : Int := (x + 1 / 2).floor

/-- The drift of a phase's sense gain, where it can be told (R342). -/
def senseDrift (s : State) (gains : List Rat) (c : Nat) : Option Rat :=
  let ps := s.fitPhases
  let kbar : Rat := sumQ gains / (ps.length : Rat)
  let win := (s.cbHist.filter (fun w => w.2.any (fun x => x.1 == c))).length
  let k := gains.getD (ps.idxOf c) 0
  if 256 ≤ win ∧ 1 / 1000 ≤ s.gainInfo c ∧ k ≠ 0 then some (kbar / k - 1) else none

/-- A warning output with its threshold reached and its release level reached (R71, R345). -/
def warnOut (s : State) (c bitNo rec : Nat) (set clr : Bool) : State :=
  let f := s.hlth c 11 1
  if ¬ bit f bitNo ∧ set then (((s.putHlth (16 * c + 11) [BitVec.ofNat 8 (f + 2 ^ bitNo)]).event rec 1 (leBytes 1 c)).alertEvent rec)
  else if bit f bitNo ∧ clr then s.putHlth (16 * c + 11) [BitVec.ofNat 8 (f - 2 ^ bitNo)]
  else s

/-- The figures and the warnings of one phase (R341, R342, R345). -/
def phaseHealth (s : State) (gains : List Rat) (c : Nat) : State :=
  let old := s.hlth c 11 1
  if ¬ s.on Reg.PHM_ASSIGN c then s
  else if s.rd Reg.PHM_ROLE c = 4 then s.putHlth (16 * c + 11) [BitVec.ofNat 8 (Nat.lor old 0x20)]
  else
    let b := s.band
    let ls := ((List.range 8).map (fun k => bits (s.entry c b k) 19 10)).filter (· != 0)
    let sgd := s.senseDrift gains c
    let lest : Rat := if ls.isEmpty then 0 else ((ls.foldl (· + ·) 0 : Nat) : Rat) / (ls.length : Rat) * (1 + sgd.getD 0)
    let lbase := s.hlth c 2 2
    let ldrift : Int := if lbase = 0 ∨ ls.isEmpty then 0 else satS 16 ((lest / (lbase : Rat) - 1) * 10000).floor
    let knee := ((List.range 32).find? (fun k => bit (s.entry c b k) 5)).getD 0xFF
    let sd : Int := match sgd with
      | some x => satS 16 (roundQ (x * 10000))
      | none => 0
    let nwin := (s.cbHist.filter (fun w => w.2.any (fun x => x.1 == c))).length
    let s := s.putHlth (16 * c) (leBytes 2 (clamp 0 65535 (roundQ lest)).toNat)
    let s := s.putHlth (16 * c + 4) (leBytes 2 (code 16 ldrift) ++ leBytes 1 knee)
    let s := s.putHlth (16 * c + 8) (leBytes 2 (code 16 sd) ++ leBytes 1 b ++ leBytes 1 (b2n (!ls.isEmpty) + 2 * b2n sgd.isSome + bits old 4 2 * 4) ++ leBytes 2 nwin)
    let lw : Int := s.rd Reg.CAP_HCFG_LWARN
    let kw : Int := s.rd Reg.CAP_HCFG_KWARN
    let sw : Int := s.rd Reg.CAP_HCFG_SWARN
    let kbase := s.hlth c 7 1
    let fall : Int := (kbase : Int) - knee
    let s := s.warnOut c 2 0x2030 (!ls.isEmpty && decide (0 < lbase) && decide (lw * 100 ≤ ldrift.natAbs)) (decide ((ldrift.natAbs : Int) ≤ (lw - 1) * 100))
    let kset := s.vOn .baseKnown && knee != 0xFF && (kbase == 0xFF || decide (32 * kw ≤ fall * 100))
    let kclr := knee == 0xFF || (kbase != 0xFF && decide ((fall + 1) * 100 ≤ 32 * kw))
    let s := s.warnOut c 3 0x2031 kset kclr
    s.warnOut c 4 0x2032 (sgd.isSome && decide (sw * 10 ≤ sd.natAbs)) (decide ((sd.natAbs : Int) ≤ (sw - 2) * 10))

/-- A health interval ends (R341, R342, R345); while the AC is halted the figures wait (R352). -/
def healthPeriod (s : State) : State :=
  if s.on Reg.DBG_STAT_ACHALTED then s
  else
    let g := s.fitGains
    (List.range 32).foldl (fun s c => s.phaseHealth g c) s

/-- The body of the baselines' slot: LBASE and KBASE of each phase, ESRBASE of each rail, a mark (R344, log entry 9). -/
def baseBody (s : State) : List Byte :=
  (List.range 32).flatMap (fun c => leBytes 2 (s.hlth c 2 2) ++ leBytes 1 (s.hlth c 7 1)) ++
    (List.range 4).flatMap (fun r => leBytes 2 (s.rd Reg.CAP_ESR_ESRBASE r)) ++ List.replicate 8 0

/-- The present figures become the baselines, and are saved (R344). -/
def setBaselines (s : State) : State :=
  let s := (List.range 32).foldl (fun s c =>
    let s := if bit (s.hlth c 11 1) 0 then s.putHlth (16 * c + 2) (leBytes 2 (s.hlth c 0 2)) else s
    s.putHlth (16 * c + 7) (leBytes 1 (s.hlth c 6 1))) s
  let s := (List.range 4).foldl (fun s r => if s.on Reg.CAP_ESR_ESRV r then s.wr Reg.CAP_ESR_ESRBASE r (s.rd Reg.CAP_ESR_ESR r) else s) s
  ((s.setV .baseKnown 0 1).queueSlot 76 s.baseBody).event 0x2035 0 []

/-- The baselines restored from the body of their slot (R344). -/
def restoreBase (s : State) (b : List Byte) : State :=
  let s := (List.range 32).foldl (fun s c => (s.putHlth (16 * c + 2) ((b.drop (3 * c)).take 2)).putHlth (16 * c + 7) ((b.drop (3 * c + 2)).take 1)) s
  ((List.range 4).foldl (fun s r => s.wr Reg.CAP_ESR_ESRBASE r (leNat ((b.drop (96 + 2 * r)).take 2))) s).setV .baseKnown 0 1

end State

/-- CAPTURE_STALL (R336). -/
def execCaptureStall (ch : Fin 16) (s : State) : Host.Outcome State Fault Refusal := act s (fun s => s.captureStall ch)

/-- HEALTH_PERIOD (R341). -/
def execHealthPeriod (s : State) : Host.Outcome State Fault Refusal := act s State.healthPeriod

/-- SPECTRUM_DONE (R339). -/
def execSpectrumDone (s : State) : Host.Outcome State Fault Refusal := act s State.spectrumDone

end Sys2Proof.Machine
end

