-- ==== Sys2Proof/Machine/Access.lean ====
section
/-!
DEFINITION. Reading: the objects and windows of the register map, the fields that are computed and not stored, and the memory map (R6, R15, R27 to R34, R451, R453, R459, R517).
-/

namespace Sys2Proof.Machine

/-- An object ID resolved: its family, the instance of a scalar object, the first word and the number of words. -/
structure Obj where
  fam : Fam
  base : Nat
  word : Nat
  words : Nat

/-- The object that an ID names (R29 to R31). -/
def findObj (o : Nat) : Option Obj :=
  match fams.find? (fun f => if f.stride = 0 then decide (f.obj ≤ o) && decide (o < f.obj + f.count) else decide (f.obj ≤ o) && decide (o < f.obj + f.words)) with
  | some f => if f.stride = 0 then some ⟨f, o - f.obj, 0, f.words⟩ else some ⟨f, 0, o - f.obj, 1⟩
  | none => none

/-- The object is arrayed (R31). -/
def Obj.arrayed (o : Obj) : Bool := o.fam.stride != 0

/-- The register word at an address of the register blocks: family, instance, word (R29 to R31). -/
def findAddr (a : Nat) : Option (Fam × Nat × Nat) :=
  let blk := bits a 23 16
  let off := a % 65536
  if off < 0x0C00 then
    match findObj (blk * 256 + off / 16) with
    | some o => if o.arrayed then none else if off % 16 / 4 < o.words then some (o.fam, o.base, off % 16 / 4) else none
    | none => none
  else if off < 0x1000 then none
  else
    match fams.find? (fun f => f.stride != 0 && f.obj / 256 == blk) with
    | some f =>
      let i := (off - 0x1000) / f.stride
      let w := (off - 0x1000) % f.stride / 4
      if i < f.count ∧ w < f.words then some (f, i, w) else none
    | none => none

/-- The same place in the register map. -/
def Fld.same (f g : Fld) : Bool := f.obj == g.obj && f.word == g.word && f.lo == g.lo

namespace State

/-- Tokens held by a holder of capture channels (R346). -/
def tokensOf (s : State) (h : Nat) : Nat :=
  (List.range 16).foldl (fun n c => if s.rd Reg.CAP_HOLD c = h then n + s.rd Reg.CAP_LEN c + s.vn .specNtok c else n) 0

/-- Channels held by a holder (R346). -/
def chansOf (s : State) (h : Nat) : Nat := ((List.range 16).filter (fun c => s.rd Reg.CAP_HOLD c == h)).length

/-- Phases of a rail with a role (R207). -/
def roleCount (s : State) (r role : Nat) : Nat := (s.phasesIn r role).length

/-- The lowest SEQ held (R460, R469). -/
def oldestSeq (s : State) : Nat := ((s.oldestRec (fun _ => true)).map (fun x => x.2.seq)).getD 0

/-- The highest SEQ held (R460, R469). -/
def newestSeq (s : State) : Nat :=
  ((s.ring.foldl (fun (a : Option Record) x => match a with
    | none => some x.2
    | some y => if s.recAge x.2.seq < s.recAge y.seq then some x.2 else a) none).map (·.seq)).getD 0

/-- Milliseconds or other units left to a deadline, rounded up. -/
def left (s : State) (d u : Nat) : Nat := if d = 0 then 0 else (d - 1 - s.now + u - 1) / u

/-- TOTG: present KP over BASEKP in UQ4.12; 0 while ENV is 0 (R171). -/
def totg (s : State) (r : Nat) : Nat :=
  let base := sgn 32 (s.rd Reg.LE_BASEKP r)
  if s.on Reg.LE_ENV r ∧ r < 4 ∧ base ≠ 0 then (clamp 0 65535 (rdiv (sgn 32 (s.coefWord false (coefBase r)) * 4096 * (if base < 0 then -1 else 1)) base.natAbs)).toNat else 0

/-- A 32-bit word of a mask of sources (R444). -/
def maskWord (m : BitVec 128) (w : Nat) : Nat := (m >>> (32 * w)).toNat % 2 ^ 32

/-- The core's stack top (R445). -/
def topOf (s : State) (i : Nat) : Option (Nat × Nat) := (s.stack (if i = 0 then .sc else .ac)).head?

end State

/-- Fields whose value is computed from the state when they are read. -/
def views : List (Fld × (State → Nat → Nat)) :=
  [(Reg.PHM_LEDG_FAILED, fun s i => s.roleCount i 4), (Reg.PHM_LEDG_USTUDY, fun s i => s.roleCount i 3), (Reg.PHM_LEDG_PARKED, fun s i => s.roleCount i 2),
   (Reg.PHM_LEDG_ACTIVE, fun s i => s.roleCount i 1),
   (Reg.PHM_TAB_SAVEPEND, fun s _ => b2n (s.vOn .tableDirty || s.nvsq.any (fun w => decide (w.dir < 64)) || s.nvsRun.any (fun w => decide (w.dir < 64)))),
   (Reg.PHM_LEDG_ASSIGNED, fun s i => s.roleCount i 1 + s.roleCount i 2 + s.roleCount i 3 + s.roleCount i 4),
   (Reg.CAP_TOK_ESR, fun s _ => s.tokensOf holdEsr), (Reg.CAP_TOK_IDENT, fun s _ => s.tokensOf holdIdent), (Reg.CAP_TOK_JOBS, fun s _ => s.tokensOf holdJob),
   (Reg.CAP_TOK_FREE, fun s _ => 64 - s.tokensOf holdEsr - s.tokensOf holdIdent - s.tokensOf holdJob),
   (Reg.CAP_TOK_CESR, fun s _ => s.chansOf holdEsr), (Reg.CAP_TOK_CIDENT, fun s _ => s.chansOf holdIdent), (Reg.CAP_TOK_CJOBS, fun s _ => s.chansOf holdJob),
   (Reg.CAP_TOK_CFREE, fun s _ => s.chansOf 0)] ++
  [(Reg.ICU_PEND_PEND0, fun s _ => State.maskWord s.icu.pend 0), (Reg.ICU_PEND_PEND1, fun s _ => State.maskWord s.icu.pend 1),
   (Reg.ICU_PEND_PEND2, fun s _ => State.maskWord s.icu.pend 2), (Reg.ICU_PEND_PEND3, fun s _ => State.maskWord s.icu.pend 3),
   (Reg.ICU_MASK_EN0, fun s _ => State.maskWord s.icu.en 0), (Reg.ICU_MASK_EN1, fun s _ => State.maskWord s.icu.en 1),
   (Reg.ICU_MASK_EN2, fun s _ => State.maskWord s.icu.en 2), (Reg.ICU_MASK_EN3, fun s _ => State.maskWord s.icu.en 3),
   (Reg.ICU_CORE_TOPSRC, fun s i => ((s.topOf i).map (·.1)).getD 0xFF), (Reg.ICU_CORE_RPRIO, fun s i => ((s.topOf i).map (·.2)).getD 0),
   (Reg.ICU_CORE_DEPTH, fun s i => (s.stack (if i = 0 then .sc else .ac)).length),
   (Reg.DBG_LE_PC, fun s _ => s.vn .lanePc (s.rd Reg.DBG_LE_LANE)), (Reg.ICU_PEND, fun s i => b2n (s.icu.pend.getLsbD i)), (Reg.ICU_EN, fun s i => b2n (s.icu.en.getLsbD i)),
   (Reg.ICU_INPUT, fun s i => b2n (s.icu.input.getLsbD i)), (Reg.ICU_COUNT, fun s i => (kvFind i s.icu.counts).getD 0),
   (Reg.ICU_ACTIVE, fun s i => b2n (s.icu.stackSc.any (fun x => x.1 == i) || s.icu.stackAc.any (fun x => x.1 == i)))] ++
  [(Reg.SYS_OWNER_OWNED, fun s _ => b2n s.owner.isSome), (Reg.SYS_OWNER_HAND, fun s _ => b2n (s.granting.isSome || s.draining.isSome)),
   (Reg.SYS_OWNER_OWNPORT, fun s _ => (s.owner.map Port.idx).getD 0),
   (Reg.SYS_OWNER_NWAIT, fun s _ => b2n s.twa.claim.isSome + b2n s.twb.claim.isSome + b2n s.hsp.claim.isSome), (Reg.SYS_OWNER_LEASE, fun s _ => s.leaseMs)] ++
  [(Reg.SESS_OPEN, fun s i => b2n (s.sess (Port.ofIdx i)).isOpen), (Reg.SESS_OWNER, fun s i => b2n (s.isOwner (Port.ofIdx i))),
   (Reg.SESS_WAIT, fun s i => b2n (s.sess (Port.ofIdx i)).claim.isSome), (Reg.SESS_XON, fun s i => b2n (s.xonFor (Port.ofIdx i))),
   (Reg.SESS_AV, fun s i => (s.sess (Port.ofIdx i)).av), (Reg.SESS_CRED, fun s i => (s.sess (Port.ofIdx i)).cred),
   (Reg.SESS_OUTST, fun s i => (s.sess (Port.ofIdx i)).outst.length), (Reg.SESS_FIN, fun s i => (s.sess (Port.ofIdx i)).credited.length),
   (Reg.SESS_UFIN, fun s i => (s.sess (Port.ofIdx i)).uncredited.length), (Reg.SESS_DONEQ, fun s i => (s.sess (Port.ofIdx i)).entries.length),
   (Reg.SESS_ALCAUSE, fun s i => s.causeWord (Port.ofIdx i)), (Reg.SESS_ALMASK, fun s i => (s.sess (Port.ofIdx i)).almask),
   (Reg.SESS_NONCE, fun s i => (s.sess (Port.ofIdx i)).nonce), (Reg.SESS_PRIO, fun s i => (s.sess (Port.ofIdx i)).prio),
   (Reg.SESS_SEQGAP, fun s i => (s.sess (Port.ofIdx i)).seqGap), (Reg.SESS_LASTSEQ, fun s i => (s.sess (Port.ofIdx i)).lastSeq),
   (Reg.SESS_CRCCNT, fun s i => (s.sess (Port.ofIdx i)).crcCnt), (Reg.SESS_REFCNT, fun s i => (s.sess (Port.ofIdx i)).refCnt),
   (Reg.SESS_DUPCNT, fun s i => (s.sess (Port.ofIdx i)).dupCnt), (Reg.SESS_REPLOST, fun s i => (s.sess (Port.ofIdx i)).repLost)] ++
  [(Reg.EVR_STAT_OLDEST, fun s _ => s.oldestSeq), (Reg.EVR_STAT_NEWEST, fun s _ => s.newestSeq), (Reg.EVR_STAT_HELD, fun s _ => s.ring.length),
   (Reg.EVR_STAT_QDEPTH, fun s _ => s.events.length),
   (Reg.NVS_SEQ, fun s i => ((s.newestSlot i).map (fun x => x.2.seq)).getD 0), (Reg.NVS_VALID0, fun s i => b2n (kvFind (2 * i) s.slots).isSome),
   (Reg.NVS_VALID1, fun s i => b2n (kvFind (2 * i + 1) s.slots).isSome), (Reg.NVS_NEWER, fun s i => ((s.newestSlot i).map (·.1)).getD 0),
   (Reg.NVS_PEND, fun s i => b2n (s.nvsq.any (fun w => w.dir == i) || s.nvsRun.any (fun w => w.dir == i))), (Reg.NVS_STAT_WRBUSY, fun s _ => b2n s.nvsRun.isSome)] ++
  [(Reg.PROT_LATCH_ACT, fun s _ => listMask ((List.range 7).filter (fun b => bit (s.rd Reg.PROT_LATCH_CAUSE) b && s.causeActive b))),
   (Reg.LE_VREFNOW, fun s i => if i < 4 then (clamp 0 65535 (rdiv (s.ref i) (volt / 32768))).toNat else 0),
   (Reg.LE_SLEWING, fun s i => b2n (decide (i < 4) && !s.atTarget i)), (Reg.LE_ATTGT, fun s i => b2n (decide (i < 4) && s.atTarget i && s.railState i != railDisabled)),
   (Reg.LE_TOTG, fun s i => s.totg i),
   (Reg.HAM_CTL_ICAUSE, fun s _ => if s.rd Reg.HAM_CTL_AMODE = 0 ∧ s.hamWant.1 = 0 then s.hamWant.2 else s.rd Reg.HAM_CTL_ICAUSE),
   (Reg.HAM_STAT_HOLDT, fun s _ => if s.vn .holdFrom = 0 then s.rd Reg.HAM_STAT_HOLDT else min 65535 ((s.now + 1 - s.vn .holdFrom) / 4000)),
   (Reg.GAU_STATE_ANAGE, fun s _ => if s.vn .anchorAt = 0 then s.rd Reg.GAU_STATE_ANAGE else min 65535 ((s.now + 1 - s.vn .anchorAt) / 24000000000)),
   (Reg.GAU_REST_RLEFT, fun s _ => min 65535 (s.left (s.vn .tRest) 4000000)), (Reg.GAU_REST_RSTART, fun s _ => min 65535 (s.left (s.vn .tRestStart) 4000000))] ++
  [(Reg.CSA_UNCAL, fun s i => b2n (s.uncal i)), (Reg.THM_SDA, fun s i => if i ≠ 0 ∧ s.rd Reg.HKA_TYPE i = 0 then 0 else s.rd Reg.THM_SDA i),
   (Reg.THM_THRA, fun s i => if i ≠ 0 ∧ s.rd Reg.HKA_TYPE i = 0 then 0 else s.rd Reg.THM_THRA i),
   (Reg.THM_WARNA, fun s i => if i ≠ 0 ∧ s.rd Reg.HKA_TYPE i = 0 then 0 else s.rd Reg.THM_WARNA i)]

namespace State

/-- NEXTPORT: the claimant that a lapse would choose now (R381). -/
def nextPort (s : State) : Nat :=
  (([Port.twa, .twb, .hsp].foldl (fun (a : Option (Port × Claim)) p =>
    match (s.sess p).claim with
    | none => a
    | some c => match a with
      | none => some (p, c)
      | some (q, d) => if d.prio < c.prio ∨ (d.prio = c.prio ∧ c.order < d.order) then some (p, c) else some (q, d)) none).map (fun x => x.1.idx)).getD 0

/-- Fields that read 0 on some instances of their family (R158, R171, R326). -/
def readsZero (f : Fld) (i : Nat) : Bool :=
  (f.obj == 0x06C0 && (decide (10 ≤ f.word) || (decide (2 ≤ f.word) && decide (f.word ≤ 5))) && i == 4) || (f.obj == 0x0FC0 && i == 0 && (f.word == 1 || f.word == 2))

/-- What a read of a field returns (R6). -/
def readFld (s : State) (f : Fld) (i : Nat) : Nat :=
  if readsZero f i then 0
  else match f.acc with
    | .wo => 0
    | .rws => s.stg f i
    | _ =>
      if f.same Reg.SYS_OWNER_NEXTPORT then s.nextPort
      else match views.find? (fun x => x.1.same f) with
        | some x => x.2 s i % 2 ^ f.width
        | none => s.rd f i

/-- A register word as a read returns it; reserved bits read 0 (R9). -/
def readWord (s : State) (fm : Fam) (i w : Nat) : Nat :=
  (fm.fields.filter (fun f => f.word == w)).foldl (fun a f => a + s.readFld f i * 2 ^ f.lo) 0

/-- The words of an object's instance. -/
def readObj (s : State) (o : Obj) (i : Nat) : List Nat := (List.range o.words).map (fun k => s.readWord o.fam i (o.word + k))

/-- The bytes of an object's instance, by ID; none where it does not exist. -/
def objBytes (s : State) (id i : Nat) : List Byte :=
  match findObj id with
  | some o => wordBytes (s.readObj o (if o.arrayed then i else o.base))
  | none => []

/-- The bytes of a written event record (R459). -/
def recordBytes (r : Record) : List Byte :=
  let b := leBytes 4 r.seq ++ leBytes 6 r.time ++ leBytes 2 r.bootn ++ leBytes 2 r.code ++ leBytes 1 (r.sev + 4 * r.mode) ++ leBytes 1 r.supp ++
    leBytes 2 r.lost ++ r.data
  b ++ leBytes 2 (crc16 b)

/-- The bytes of a valid slot (R453). -/
def slotBytes (dir : Nat) (x : Slot) : List Byte :=
  let b := leBytes 2 (nvsIdReset dir) ++ leBytes 2 x.body.length ++ leBytes 4 x.seq ++ x.body
  b ++ leBytes 4 (crc32 b)

/-- A byte of the MRAM data store (R451): records, valid slots, the reserved part; elsewhere what was there before. -/
def storeByte (s : State) (a : Nat) : Byte :=
  let o := a - 0x40200000
  if o < 0x20000 then
    match kvFind (o / 32) s.ring with
    | some r => (recordBytes r).getD (o % 32) 0
    | none => s.byteAt a
  else if o < 0x33DA0 then
    let k := (o - 0x20000) / 0x210
    match kvFind k s.slots with
    | some x => (slotBytes (k / 2) x).getD ((o - 0x20000) % 0x210) 0
    | none => s.byteAt a
  else 0

/-- The byte at an address as a bus master reads it; none outside the regions of R27. -/
def busByte (s : State) (a : Nat) : Option Byte :=
  if a < 0x10000 then some (Config.romByte a)
  else if 0x20000000 ≤ a ∧ a < 0x20080000 then some (s.byteAt a)
  else if 0x40000000 ≤ a ∧ a < 0x40200000 then some (s.byteAt a)
  else if 0x40200000 ≤ a ∧ a < 0x40240000 then some (s.storeByte a)
  else if 0x80000000 ≤ a ∧ a < 0x80160000 then
    match findAddr (a - a % 4) with
    | some (f, i, w) => some ((leBytes 4 (s.readWord f i w)).getD (a % 4) 0)
    | none => some 0
  else if 0x90000000 ≤ a ∧ a < 0x90010000 then some (if 12 ≤ a % 16 then 0 else s.byteAt a)
  else if 0x90010000 ≤ a ∧ a < 0x90011000 then some (s.byteAt a)
  else if 0x90020000 ≤ a ∧ a < 0x90028000 then some (s.byteAt a)
  else if 0x91000000 ≤ a ∧ a < 0x91040000 then some (s.byteAt a)
  else none

/-- `n` bytes from an address on, where all of them exist. -/
def busBytes (s : State) (a n : Nat) : Option (List Byte) := (List.range n).mapM (fun i => s.busByte (a + i))

/-! ### Basic and expert writes (R517) -/

/-- The expert objects (R517): by family, and for LE by word. -/
def expertObj (id : Nat) : Bool :=
  (decide (0x01C0 ≤ id) && decide (id < 0x01C7)) || (decide (0x02C0 ≤ id) && decide (id < 0x02C7)) || (decide (0x0300 ≤ id) && decide (id ≤ 0x0303)) ||
    (decide (0x04C0 ≤ id) && decide (id < 0x04C2)) || (decide (0x06C0 ≤ id) && decide (id ≤ 0x06C9)) || id == 0x0602 ||
    (decide (0x07C0 ≤ id) && decide (id < 0x07C5)) || id == 0x0702 || id == 0x0A00 || id == 0x0D12

/-- A field that a write of its present value leaves alone: RW, RWS and RWL fields (R517). -/
def keeps (s : State) (f : Fld) (i v : Nat) : Bool :=
  match f.acc with
  | .rw => s.rd f i == v
  | .rws => s.stg f i == v
  | .rwl => s.rd f i == v
  | _ => true

/-- The value that a word gives a field. -/
def fldOf (f : Fld) (w : Nat) : Nat := bits w f.hi f.lo

/-- WO fields that clear flags or counters or take a snapshot (R517). -/
def clearsOnly (f : Fld) : Bool := !(f.same Reg.TWX_HXFR_GO)

/-- The write changes only W1C bits and clearing WO fields, and carries every other writable field as it is (R517). -/
def basicWord (s : State) (fm : Fam) (i k w : Nat) : Bool :=
  (fm.fields.filter (fun f => f.word == k)).all (fun f => s.keeps f i (fldOf f w) && (f.acc != .wo || fldOf f w == 0 || clearsOnly f))

/-- The parsed data of a SET: the object, its instance, its words; none where the object, the instance or the length is wrong (R390). -/
def setData (id : Nat) (pl : List Byte) : Option (Obj × Nat × List Nat) :=
  match findObj id with
  | none => none
  | some o =>
    if o.arrayed then
      if pl.length = 5 ∧ leNat (pl.take 1) < o.fam.count then some (o, leNat (pl.take 1), leWords (pl.drop 1)) else none
    else if pl.length = 4 * o.words then some (o, o.base, leWords pl) else none

/-- A SET of an expert object that is no basic write (R517). -/
def expertSet (s : State) (id : Nat) (pl : List Byte) : Bool :=
  expertObj id &&
    (match setData id pl with
    | some (o, i, ws) => !(ws.zipIdx.all (fun x => s.basicWord o.fam i (o.word + x.2) x.1))
    | none => true)

/-- A POKE needs the expert level unless every word of it is a basic write of an expert object (R364, R517). -/
def expertPoke (s : State) (pl : List Byte) : Bool :=
  let a := leNat (pl.take 4)
  !((leWords (pl.drop 4)).zipIdx.all (fun x =>
    match findAddr (a + 4 * x.2) with
    | some (f, i, k) => expertObj (if f.stride = 0 then f.obj + i else f.obj + k) && s.basicWord f i k x.1
    | none => false))

/-- A SET of a capture job that writes FIRE, from the session that owns the job (R377, R517). -/
def firesOwnJob (s : State) (p : Port) (id : Nat) (pl : List Byte) : Bool :=
  decide (0x0B10 ≤ id) && decide (id < 0x0B18) && bit (leNat (pl.take 4)) 0 && s.rd Reg.CAP_JOB_STATE (id - 0x0B10) != 0 &&
    s.rd Reg.CAP_JOB_PORT (id - 0x0B10) == p.idx

end State

end Sys2Proof.Machine
end

