-- ==== Sys2Proof/Machine/Protocol.lean ====
section
/-!
DEFINITION. Admission of packets, the session opcodes that act at admission, ordering by class sets, and the execution of an admitted command (R353 to R376, R386, R389, R520).
-/

namespace Sys2Proof.Machine

/-- What R386 says of an opcode: its code, lowest version, lowest IL, and whether MINIMAL serves it (R55). -/
structure OpInfo where
  code : Nat
  av : Nat
  il : Nat
  min : Bool

/-- The opcode summary (R386). The IL of GETBLK, SETBLK, GET and SET is the object's, checked at execution. -/
def opTable : List OpInfo :=
  [⟨0x01, 1, 1, true⟩, ⟨0x02, 1, 1, true⟩, ⟨0x03, 1, 1, true⟩, ⟨0x04, 1, 1, true⟩, ⟨0x05, 1, 1, true⟩, ⟨0x06, 2, 1, false⟩,
   ⟨0x07, 2, 1, false⟩, ⟨0x08, 1, 1, true⟩, ⟨0x10, 1, 1, true⟩, ⟨0x11, 1, 1, false⟩, ⟨0x12, 1, 1, true⟩, ⟨0x13, 1, 1, false⟩] ++
  [⟨0x18, 3, 1, false⟩, ⟨0x19, 3, 1, false⟩, ⟨0x20, 1, 1, false⟩, ⟨0x21, 1, 1, false⟩, ⟨0x22, 1, 1, false⟩, ⟨0x23, 1, 1, false⟩,
   ⟨0x24, 1, 1, false⟩, ⟨0x25, 1, 1, false⟩, ⟨0x30, 1, 1, false⟩, ⟨0x31, 1, 1, false⟩, ⟨0x32, 1, 1, false⟩, ⟨0x38, 1, 1, false⟩] ++
  [⟨0x39, 1, 1, false⟩, ⟨0x3A, 1, 2, false⟩, ⟨0x40, 1, 1, false⟩, ⟨0x41, 1, 1, false⟩, ⟨0x48, 1, 1, false⟩, ⟨0x50, 1, 1, false⟩,
   ⟨0x51, 1, 1, false⟩, ⟨0x52, 1, 1, false⟩, ⟨0x53, 1, 2, false⟩, ⟨0x58, 1, 3, false⟩, ⟨0x59, 1, 3, false⟩, ⟨0x5A, 1, 3, false⟩] ++
  [⟨0x60, 1, 1, true⟩, ⟨0x61, 1, 1, true⟩, ⟨0x62, 1, 1, true⟩, ⟨0x63, 1, 1, false⟩, ⟨0x64, 1, 1, false⟩, ⟨0x70, 1, 1, false⟩,
   ⟨0x71, 1, 1, true⟩, ⟨0x72, 1, 1, true⟩, ⟨0x73, 1, 1, true⟩, ⟨0x78, 1, 1, false⟩, ⟨0x79, 1, 1, false⟩, ⟨0x7A, 1, 2, false⟩] ++
  [⟨0x7C, 1, 1, true⟩, ⟨0x7D, 1, 1, true⟩, ⟨0x7E, 1, 1, true⟩]

def opInfo (code : Nat) : Option OpInfo := opTable.find? (fun o => o.code == code)

/-- HELLO, HEARTBEAT and CREDITS spend no credit (R369). -/
def credited (op : Nat) : Bool := op != 0x01 && op != 0x05 && op != 0x08

/-- The opcodes that act at admission (R370). -/
def actsAtAdmission (op : Nat) : Bool := [0x01, 0x02, 0x03, 0x04, 0x05, 0x07, 0x08].contains op

/-- Every block. -/
def allBlocks : Nat := 2 ^ 22 - 1

/-- The class of an address: its block, or that of its memory; boot ROM, SRAM and MRAM belong to NVS (R370). -/
def addrBlock (a : Nat) : Nat :=
  if a / 0x1000000 = 0x80 then 2 ^ bits a 23 16
  else if 0x90000000 ≤ a ∧ a < 0x90020000 then 2 ^ 0x06
  else if 0x90020000 ≤ a ∧ a < 0x90028000 then 2 ^ 0x07
  else if 0x91000000 ≤ a ∧ a < 0x91040000 then 2 ^ 0x0B
  else 2 ^ 0x12

/-- The class set of a command, one bit per block (R370). -/
def classSet (op obj : Nat) (pl : List Byte) : Nat :=
  if op = 0x10 ∨ op = 0x12 ∨ op = 0x13 then 2 ^ (obj / 256)
  else if op = 0x11 then if obj = 0x1511 then allBlocks else 2 ^ (obj / 256)
  else if op = 0x18 ∨ op = 0x19 then addrBlock (leNat (pl.take 4))
  else if op = 0x20 then listMask [1, 2, 3, 6, 7]
  else if 0x21 ≤ op ∧ op ≤ 0x25 then listMask [6]
  else if op = 0x30 ∨ op = 0x32 then listMask [1, 2, 7]
  else if op = 0x31 then listMask [7]
  else if op = 0x38 then listMask [1, 6, 9]
  else if op = 0x39 ∨ op = 0x3A then listMask [10]
  else if op = 0x40 then listMask [5, 16]
  else if op = 0x41 then listMask [16]
  else if op = 0x48 then listMask [4, 15]
  else if 0x50 ≤ op ∧ op ≤ 0x53 then listMask [11]
  else if op = 0x58 ∨ op = 0x59 then listMask [6, 11]
  else if 0x60 ≤ op ∧ op ≤ 0x64 then listMask [17]
  else if op = 0x72 ∨ op = 0x73 then listMask [21]
  else allBlocks

namespace State

/-- The IL that admission and the object checks use: the effective one, or SUPIL while the loop image is refused or corrupt (R62, R63). -/
def servedIl (s : State) : Nat := if 2 ≤ s.rd Reg.SYS_BOOT_LOOPSTAT then s.rd Reg.SYS_IMAGE_SUPIL else s.rd Reg.SYS_IMAGE_EFFIL

/-- The command requires ownership (R377, R386). YIELD asks for the owner or a claimant. -/
def needsOwner (s : State) (p : Port) (op obj : Nat) (pl : List Byte) : Bool :=
  if op = 0x11 then !s.firesOwnJob p obj pl
  else if op = 0x39 then bit (leNat (pl.take 1)) 0
  else if op = 0x53 then leNat (pl.take 1) != 0
  else [0x04, 0x13, 0x19, 0x20, 0x21, 0x22, 0x23, 0x24, 0x25, 0x30, 0x31, 0x32, 0x38, 0x3A, 0x40, 0x41, 0x48, 0x58, 0x5A,
    0x63, 0x64, 0x70, 0x71, 0x78, 0x79, 0x7A, 0x7C, 0x7D, 0x7E].contains op

/-- The command is an expert write that R517 does not make basic, so it needs version 3 and XON. -/
def isExpert (s : State) (op obj : Nat) (pl : List Byte) : Bool :=
  if op = 0x11 then s.expertSet obj pl
  else if op = 0x13 then obj == 0x0602 || obj == 0x0702
  else if op = 0x19 then s.expertPoke pl
  else false

/-- The version that a command needs (R362, R386); a POKE that is a basic write needs none above 1 (R517). -/
def needsAv (s : State) (op obj : Nat) (pl : List Byte) (base : Nat) : Nat :=
  if (op = 0x11 ∧ obj = 0x1510) ∨ s.isExpert op obj pl then 3 else if op = 0x19 then 1 else base

/-- The session acts as owner at admission: it is the owner and no GRANT of its own waits (R375). -/
def ownerNow (s : State) (p : Port) : Bool := s.isOwner p && s.granting.isNone

/-- Checks 2 to 7 of R364, in order: the status of the first that fails. -/
def admitCheck (s : State) (p : Port) (b0 op obj : Nat) (pl : List Byte) : Option Nat :=
  let x := s.sess p
  let ver := bits b0 7 4
  if (if op = 0x01 then ver ≠ 1 ∧ ¬ (x.isOpen ∧ ver = x.av) else ¬ x.isOpen ∨ ver ≠ x.av) then some stVersion
  else
    match opInfo op with
    | none => some stBadOpcode
    | some o =>
      if s.mode = 2 ∧ ¬ o.min then some stBadOpcode
      else if (op ≠ 0x01 ∧ x.av < s.needsAv op obj pl o.av) ∨ s.servedIl < o.il then some stVersion
      else if credited op ∧ 8 ≤ x.outst.length then some stNoCredit
      else if s.needsOwner p op obj pl ∧ ¬ s.ownerNow p then some stNotOwner
      else if op = 0x03 ∧ ¬ s.ownerNow p ∧ x.claim.isNone then some stNotOwner
      else if s.isExpert op obj pl ∧ ¬ s.on Reg.EXPERT_CTL_XON then some stLocked
      else none

/-- HELLO (R361, R389). -/
def doHello (s : State) (p : Port) (c : Cmd) : State :=
  let vmax := leNat (c.payload.take 1)
  if c.payload.length ≠ 3 ∨ c.obj ≠ 0xFFFF ∨ 15 < vmax ∨ 512 ≤ leNat (c.payload.drop 1) then s.reply p false c stBadParam []
  else
    let s := s.closeSession p 0
    let vpart := if s.mode = 2 then 1 else 3
    let av := min vmax vpart
    let s := if vmax = 0 then s else
      (s.updSess p (fun x => { x with isOpen := true, av := av, almask := leNat (c.payload.drop 1), lastSeq := c.seq, lastPkt := some (c.seq, c.opcode, c.tag, leNat ((packet (c.ver * 16) c.opcode c.tag c.obj c.seq c.payload).drop (8 + c.payload.length))), lastGood := s.now })).event 0x7001 0 (leBytes 1 p.idx ++ leBytes 1 av)
    s.reply p false c stOk (leBytes 1 av ++ leBytes 1 vpart ++ leBytes 1 (s.rd Reg.SYS_IMAGE_EFFIL) ++ leBytes 1 (s.sess p).cred ++ leBytes 1 p.idx)

/-- CLAIM (R374). -/
def doClaim (s : State) (p : Port) (c : Cmd) : State :=
  if c.payload.length ≠ 5 ∨ c.obj ≠ 0xFFFF then s.reply p true c stBadParam []
  else
    let prio := leNat (c.payload.take 1)
    let nonce := leNat (c.payload.drop 1)
    let s := s.updSess p (fun x => { x with prio := prio, nonce := nonce })
    if s.isOwner p then s.renewLease.reply p true c stOk []
    else if s.owner.isNone then (s.passOwner (some p) meansClaim).reply p true c stOk []
    else
      let old := (s.sess p).claim
      let s := match old with
        | some d => s.complete (p.idx + 1) d.tag 0x02 stFailed 0x09
        | none => s
      (s.updSess p (fun x => { x with claim := some ⟨prio, nonce, c.tag, match old with
        | some d => d.order
        | none => s.now⟩ })).reply p true c stAccepted []

/-- YIELD (R375). -/
def doYield (s : State) (p : Port) (c : Cmd) : State :=
  let t := leNat c.payload
  if c.payload.length ≠ 1 ∨ c.obj ≠ 0xFFFF ∨ (2 < t ∧ t ≠ 0xFF) then s.reply p true c stBadParam []
  else if ¬ s.isOwner p then ((s.endClaim p stFailed 0x09).reply p true c stOk []).checkGrant
  else if t = 0xFF then (s.passOwner (s.bestClaim (fun _ => true)) meansYield).reply p true c stOk []
  else if (s.sess (Port.ofIdx t)).claim.isSome then (s.passOwner (some (Port.ofIdx t)) meansYield).reply p true c stOk []
  else s.reply p true c stBadParam []

/-- GRANT waits for the owner's commands; the lease is frozen (R375). -/
def doGrant (s : State) (p : Port) (c : Cmd) : State :=
  if c.payload.length ≠ 4 ∨ c.obj ≠ 0xFFFF then s.reply p true c stBadParam []
  else
    match s.bestClaim (fun d => d.nonce == leNat c.payload) with
    | none => s.reply p true c stBadParam []
    | some q => { s.setV .leaseLeft 0 (s.v .tLease - 1 - s.now) with granting := some (q, c) }

/-- HEARTBEAT (R389). -/
def doHeartbeat (s : State) (p : Port) (c : Cmd) : State :=
  if c.payload.length ≠ 0 ∨ c.obj ≠ 0xFFFF then s.reply p false c stBadParam []
  else s.reply p false c stOk (leBytes 2 (if s.isOwner p then s.leaseMs else 0))

/-- ABORT (R373). -/
def doAbort (s : State) (p : Port) (c : Cmd) : State :=
  let t := leNat c.payload
  if c.payload.length ≠ 1 ∨ c.obj ≠ 0xFFFF then s.reply p true c stBadParam []
  else
    match (s.sess p).queue.find? (fun d => d.tag == t) with
    | some d => ((s.updSess p (fun x => { x with queue := x.queue.erase d })).reply p true d stFailed [0x01#8]).reply p true c stOk []
    | none =>
      if (s.sess p).claim.any (fun d => d.tag == t) then ((s.endClaim p stFailed 0x01).reply p true c stOk []).checkGrant
      else if s.isOwner p ∧ s.granting.any (fun g => g.2.tag == t) then (s.dropGrant (some 0x01)).reply p true c stOk []
      else
        match s.abortLong p t with
        | some (s, 0) => s.reply p true c stOk []
        | some (s, r) => s.reply p true c stFailed (leBytes 1 r)
        | none => if (s.sess p).outst.any (fun x => x == t && x != c.tag) then s.reply p true c stFailed [0x0D#8] else s.reply p true c stBadParam []

/-- CREDITS, both actions (R369, R389). -/
def doCredits (s : State) (p : Port) (c : Cmd) : State :=
  let a := leNat c.payload
  if c.payload.length ≠ 1 ∨ c.obj ≠ 0xFFFF ∨ 1 < a then s.reply p false c stBadParam []
  else
    let s := if a = 1 then s.updSess p Session.reclaim else s
    let x := s.sess p
    s.reply p false c stOk (leBytes 1 x.cred ++ leBytes 1 x.outst.length ++ x.outst.flatMap (leBytes 1))

/-- An opcode whose rows an ACT byte selects carries one that no row defines, or none (R384). -/
def unknownAct (op : Nat) (pl : List Byte) : Bool :=
  let a := leNat (pl.take 1)
  ([0x32, 0x3A, 0x50, 0x53].contains op && pl.isEmpty) || (op == 0x32 && decide (2 < a)) || (op == 0x3A && decide (3 < a)) ||
    (op == 0x50 && decide (2 < a)) || (op == 0x53 && decide (3 < a))

/-- An admitted command acts at once or joins the session's queue (R364, R370). -/
def admitted (s : State) (p : Port) (c : Cmd) : State :=
  if c.opcode = 0x01 then s.doHello p c
  else if c.opcode = 0x02 then s.doClaim p c
  else if c.opcode = 0x03 then s.doYield p c
  else if c.opcode = 0x04 then s.doGrant p c
  else if c.opcode = 0x05 then s.doHeartbeat p c
  else if c.opcode = 0x07 then s.doAbort p c
  else if c.opcode = 0x08 then s.doCredits p c
  else if unknownAct c.opcode c.payload then s.reply p true c stBadParam []
  else s.updSess p (fun x => { x with queue := x.queue ++ [c] })

/-- The SC takes one packet from a receive buffer: a lease that is over lapses first (R379), then check 1, retransmission, checks 2 to 7, admission (R355, R356, R364). -/
def admitOne (s : State) (p : Port) (bs : List Byte) : State :=
  let s := if s.leaseOver then s.lapse else s
  let n := bs.length
  let at' (i k : Nat) : Nat := leNat ((bs.drop i).take k)
  let pl := (bs.drop 8).take (n - 10)
  let c : Cmd := ⟨at' 1 1, bits (at' 0 1) 7 4, at' 2 1, at' 4 2, at' 6 2, pl, s.ownerNow p, s.on Reg.EXPERT_CTL_XON, false⟩
  if at' 3 1 + 10 ≠ n ∨ 248 < at' 3 1 ∨ bits (at' 0 1) 3 0 ≠ 0 ∨ at' (n - 2) 2 ≠ crc16 (bs.take (n - 2)) then
    ((s.updSess p (fun x => { x with crcCnt := min (x.crcCnt + 1) 255 })).event 0x7005 1 (leBytes 1 p.idx)).reply p false c stCrcError []
  else
    let s := s.updSess p (fun x => { x with lastGood := s.now })
    let s := if s.isOwner p then s.renewLease else s
    let x := s.sess p
    let crc := at' (n - 2) 2
    if x.isOpen ∧ x.lastPkt = some (c.seq, c.opcode, c.tag, crc) then s.updSess p (fun x => { x with dupCnt := min (x.dupCnt + 1) 255 })
    else
      let s := if x.isOpen ∧ c.opcode ≠ 0x01 ∧ c.seq ≠ (x.lastSeq + 1) % 65536 then
          s.updSess p (fun x => { x with seqGap := min (x.seqGap + 1) 255 }) else s
      match s.admitCheck p (at' 0 1) c.opcode c.obj pl with
      | some st => s.reply p false c st []
      | none =>
        let s := s.updSess p (fun x => { x with lastSeq := if x.isOpen then c.seq else x.lastSeq, lastPkt := if x.isOpen then some (c.seq, c.opcode, c.tag, crc) else x.lastPkt, outst := if credited c.opcode then x.outst ++ [c.tag] else x.outst })
        s.admitted p c

/-- The SC empties a receive buffer in arrival order (R364); a stopped SC admits nothing (R19). -/
def admitAll (s : State) (p : Port) : State :=
  if s.scStopped then s
  else (s.sess p).rx.foldl (fun s bs => s.admitOne p bs) (s.updSess p (fun x => { x with rx := [] }))

/-- A packet is discarded and counts in CRCCNT (R356, R382, R383). -/
def crcCount (s : State) (p : Port) : State := (s.updSess p (fun x => { x with crcCnt := min (x.crcCnt + 1) 255 })).event 0x7005 1 (leBytes 1 p.idx)

/-- A port that is BUSY turns a packet away: TWA and TWB NACK their address, HSP counts HSPDROP in REPLOST (R358, R359, R408). -/
def turnAway (s : State) (p : Port) : State :=
  match p with
  | .hsp => (s.updSess .hsp Session.loss).irq 90
  | p => s.bump Reg.TWI_PSTAT_NACKCNT p.idx

/-- A write transaction brings the bytes of one packet: a port that is not BUSY sets its pointer to 0 (R409), counts a write that is too short or, on TWA and TWB, too long (R356, R409), and else takes the packet into its receive buffer, from where it is admitted (R359). -/
def deliver (s : State) (p : Port) (bs : List Byte) : State :=
  if s.portBusy p then s.turnAway p
  else
    let s := if p = .hsp then s else s.wr Reg.TWI_PSTAT_PTR p.idx 0
    if bs.length < 10 ∨ (258 < bs.length ∧ p ≠ .hsp) then s.crcCount p
    else (s.updSess p (fun x => { x with rx := x.rx ++ [bs] })).admitAll p

/-- A command must wait: an earlier one of its session shares a block, or the old owner's commands drain, which a FENCE of the new owner waits for too, since it would publish what they staged (R370, R371, R376; log entry 82). -/
def mustWait (s : State) (p : Port) (earlier : List Cmd) (c : Cmd) : Bool :=
  let mine := classSet c.opcode c.obj c.payload
  earlier.any (fun d => (s.sess p).av == 1 || Nat.land (classSet d.opcode d.obj d.payload) mine != 0) ||
    s.retuning.any (fun x => x.1 == p) || (s.draining.isSome && !c.fromOld && s.isOwner p && (c.opcode == 0x06 || s.needsOwner p c.opcode c.obj c.payload))

/-- What executing a command gives: the state, the status, and the reply data behind the status byte. -/
abbrev Result := State × Nat × List Byte

/-- The admitted command of a session that a row names executes, unless it must wait; its reply is finished (R364, R370, R520). -/
def runQueued (s : State) (p : Port) (op tag obj : Nat) (pl : List Byte) (f : State → Port → Cmd → Result) : State :=
  let q := (s.sess p).queue
  let is (d : Cmd) : Bool := d.opcode == op && d.tag == tag && d.obj == obj && d.payload == pl
  match q.find? is with
  | none => s
  | some c =>
    if s.scStopped || s.mustWait p (q.takeWhile (fun d => !is d)) c then s
    else
      let r := f (s.updSess p (fun x => { x with queue := x.queue.erase c })) p c
      if (r.1.sess p).isOpen ∧ r.2.1 ≠ stLater then r.1.reply p true c r.2.1 r.2.2 else r.1

end State

/-- A row of "Command Reference": the command executes if it is admitted already; otherwise its packet arrives at the port first (log entry 16). -/
def hostRow (op : Nat) (p : Port) (h : Hdr) (pl : List Byte) (f : State → Port → Cmd → State.Result) (s : State) : State :=
  let has := (s.sess p).queue.any (fun d => d.opcode == op && d.tag == h.tag.toNat && d.obj == h.objId.toNat && d.payload == pl)
  let s := if has then s else s.deliver p (packet h.verFlags.toNat op h.tag.toNat h.objId.toNat h.seq.toNat pl)
  s.runQueued p op h.tag.toNat h.objId.toNat pl f

/-- A row whose opcode acts at admission: its packet arrives at the port (R370). -/
def sessionRow (op : Nat) (p : Port) (h : Hdr) (pl : List Byte) (s : State) : State :=
  s.deliver p (packet h.verFlags.toNat op h.tag.toNat h.objId.toNat h.seq.toNat pl)

/-- The status that the checks 1, 2, 4 and 5 of R520 give a command that carries no object: length, OBJID, fields, mode; OK when none fails. -/
def checkCmd (c : Cmd) (len : Bool) (fields : Bool) (modes : List Nat) (s : State) : Nat :=
  if ¬ len ∨ c.obj ≠ 0xFFFF ∨ ¬ fields then stBadParam
  else if modes.contains s.mode then stOk
  else stWrongMode

/-- The mode sets of R385. -/
def modesAny : List Nat := [2, 3, 4, 5, 6, 7, 8, 9, 10, 11]
def modesSes : List Nat := [3, 4, 5, 6, 7, 8, 9, 10, 11]
def modesCfg : List Nat := [3, 4, 5, 6, 7, 8, 9, 10]

end Sys2Proof.Machine
end

