-- ==== Sys2Proof/Machine/Loop.lean ====
section
/-!
DEFINITION. Updates of the Loop Engine's contexts and what follows from them: duties, the step signal, arrivals, the PGOOD window, the end of a ramp-down, budget faults; the rail timers, and the end of a bank copy (R131 to R146, R229, R303, R307, R308).
-/

namespace Sys2Proof.Machine

namespace State

/-- ITOT as a port value: Q4.28 kA (R133). -/
def itotQ (s : State) (r : Nat) : Int := satS 32 (kaOf (s.itot r) 128)

/-- VINR: 1 / VIN in Q4.28; 1.0 while VIN is at or below 1 V (R133). -/
def vinr (s : State) : Int := if s.vibQ ≤ 2 ^ 24 then 2 ^ 28 else rdiv (2 ^ 52) s.vibQ

/-- The input ports of a rail context, by operand code from 0x20 (R133). FKICK looks at the tick in which the result was latched (R141). -/
def railPorts (s : State) (r : Nat) : Ports :=
  [s.v .vsense r, satS 32 (rdiv (s.ref r) 15625 + s.v .pert r), s.itotQ r, s.vibQ, s.vinr, s.fcst r,
   ({ s with now := s.vn .latchAt r } : State).fkick r, (s.nlive r : Int), s.v .pert r, s.v .dutyPrev r, 0, 0, (s.band : Int), if s.mode = mInter then 1 else 0]

/-- The duty of an update is delivered: DOUT, and every active phase's width (R133, R184). -/
def deliverDuty (s : State) (r : Nat) (d : Int) : State :=
  let dq := (clamp 0 (2 ^ 24 - 1) (d / 16)).toNat
  ((s.wr Reg.LE_DOUT r dq).setV .dutyPrev r (dq * 16)).splitDuty r dq

/-- One value on an output port; the duty of an exhausted update is not delivered (R132, R133). -/
def railOut (s : State) (r : Nat) (deliver : Bool) (x : Nat × Int) : State :=
  if x.1 = 0x30 then if s.vOn .hamOut r then s.wr Reg.LE_DUPF r 1 else let s := s.setV .hamOut r 1; if deliver then s.deliverDuty r x.2 else s
  else if x.1 = 0x31 then if x.2 = 0 then s else s.setV .stepNow r 1
  else if x.1 = 0x32 then s.setV .trace r x.2
  else if x.1 = 0x33 then s.setV .shreq r x.2
  else s

/-- An exhausted update: the previous duty stands; from the eighth in a row on it is a latching cause (R132). -/
def exhausted (s : State) (c : Nat) : State :=
  let s := (s.wr Reg.LE_BUDF c 1).bump Reg.LE_BUDCNT c
  let k := s.v .budRow c + 1
  let s := s.setV .budRow c k
  if 8 ≤ k then (((s.wr Reg.LE_CTL_OVRFLT 0 1).irq 37).event 0x1001 3 (leBytes 1 c)).safestop 6 none else s

/-- Arrival in an open window: the step signal that this tick's update raises, or ITOT moved by the share ARRF of the step (R229). -/
def arrived (s : State) (r : Nat) (step : Bool) : Bool :=
  let di := s.v .fcDi r
  let moved := if di < 0 then s.v .fcItot r - s.itot r else s.itot r - s.v .fcItot r
  s.on Reg.CUE_OPEN r && decide ((s.now : Int) < s.v .fcClose r) &&
    (step || decide ((bits (s.vn .fcWin r) 15 8 : Int) * di.natAbs * 32 ≤ moved * 256))

/-- A raised step signal: counted on its rise, and acted on by its users (R47, R142, R190, R335). -/
def stepSignal (s : State) (r : Nat) (was : Bool) : State :=
  if s.vOn .stepNow r then
    let s := (if was then s else ((s.bump Reg.LE_STEPCNT r).irq 35).capTrigger 0x03 r).identSpoil r
    let s := if s.railState r = railRegulate then s.interTrigger else s
    s.reverseFull r 1
  else s

/-- The output lies inside the PGOOD window of the present update (R144). -/
def insideWindow (s : State) (r : Nat) : Bool :=
  let v := s.v .vsense r * 1000
  decide (s.v .vtNow r * 1000 - (s.rd Reg.LE_PGLO r : Int) * 2 ^ 28 ≤ v) && decide (v ≤ s.v .vtNow r * 1000 + (s.rd Reg.LE_PGHI r : Int) * 2 ^ 28)

/-- The qualification timer of a rail runs while its condition holds (R143, R144). -/
def pgWatch (s : State) (r : Nat) : State :=
  let inside := s.insideWindow r
  let want := if s.rampingDown r then false
    else if s.railState r = railRamp then inside && s.atTarget r
    else if s.railState r = railRegulate then inside != s.on Reg.LE_PG r
    else false
  if want then if s.vn .tPgdly r = 0 then s.setV .tPgdly r (s.now + s.rd Reg.LE_PGDLY r * 100 + 1) else s
  else s.setV .tPgdly r 0

/-- The phases of a rail are sent off; the rail enters DISABLED when the last is off (R145). -/
def sendOff (s : State) (r : Nat) : State :=
  if s.vOn .stopping r then s
  else
    let s := (s.assigned r).foldl (fun s c => s.armOst c ostOff) (s.setV .stopping r 1)
    if (s.assigned r).all (fun c => s.rd Reg.PWM_OST c == ostOff) then s.disable r else s

/-- The ramp-down is complete by voltage: the reference at 0 V and VSENSE below 50 mV (R145). -/
def downCheck (s : State) (r : Nat) : State :=
  if s.rampingDown r ∧ s.ref r = 0 ∧ s.v .vsense r * 20 < 2 ^ 28 then s.sendOff r else s

/-- ITOT of an identified rail counts toward the chip's mean (R343). -/
def identItot (s : State) (r : Nat) (x : Int) : State :=
  if s.on Reg.IDENT_STAT_RUN ∧ s.rd Reg.IDENT_CFG_RAIL = r then (s.setV .identSumI 0 (s.v .identSumI + x)).setV .identCntI 0 (s.v .identCntI + 1) else s

/-- One update of a rail context (R131 to R134, R142, R144, R145, R229, R303). A rail that leaves REGULATE in the tick of an arrival has its window closed, not hit (R232). -/
def railUpdate (s : State) (r : Nat) : State :=
  let was := s.vOn .stepNow r
  let s := ((s.setV .inWait r 0).setV .stepNow r 0).setV .hamOut r 0
  let p := s.railPorts r
  let s := (s.capFeed (0x50 + r) (code 32 (p.getD 2 0))).identItot r (p.getD 2 0)
  let s := if s.rd Reg.LE_LAW r = 0 then
      let x := s.basicLaw r p
      (x.1.deliverDuty r x.2).setV .budRow r 0
    else
      let x := s.userLaw r (s.rd Reg.LE_ENTRY r) (s.rd Reg.LE_LEN r) p
      let s := x.1.setV .vtNow r (max 0 (satS 32 (p.getD 1 0 + p.getD 5 0)))
      match x.2.1 with
      | .reached => (x.2.2.foldl (fun s y => s.railOut r true y) s).setV .budRow r 0
      | .exhausted => (x.2.2.foldl (fun s y => s.railOut r false y) s).exhausted r
  let s := (s.capFeed (0x40 + r) (code 32 (s.v .trace r))).capFeed (0x48 + r) (s.rd Reg.LE_DOUT r)
  if s.mode = mSafestop then s
  else
    let s := s.stepSignal r was
    let hit := s.arrived r (s.vOn .stepNow r)
    let s := (s.downCheck r).uvPolicy r
    let s := if hit then s.closeWindow r outHit else s
    ((s.addCheck r).dwellCheck r).pgWatch r

/-- One update of the Hamper context (R251 to R255). -/
def hamUpdate (s : State) : State :=
  let s := s.setV .inWait 4 0
  let m := s.rd Reg.HAM_CTL_AMODE
  let s := s.setV .hamIhIb 0 s.ihIb
  let s := s.setV .hamIupU 0 (s.v .hamIup)
  let s := s.hamRampStep
  let s := if m = 1 then s.generator
    else if m = 4 then (s.setV .hamQd 0 (s.v .hamQd + s.ihIb * (s.hamTs : Int))).showQd else s
  let s := if s.rd Reg.LE_LAW 4 = 0 then
      let x := s.hamLaw m
      (x.1.hamDeliver x.2.1 x.2.2).setV .budRow 4 0
    else
      let x := s.userLaw 4 (s.rd Reg.LE_ENTRY 4) (s.rd Reg.LE_LEN 4) s.hamPorts
      let s := x.1
      let duties := x.2.2.filter (fun y => y.1 == 0x30)
      let dir := (x.2.2.filter (fun y => y.1 == 0x31)).foldl (fun _ y => y.2 != 0) (s.vOn .hamDir)
      let s := x.2.2.foldl (fun s y => if y.1 = 0x32 then s.setV .trace 4 y.2 else s) s
      let s := if 1 < duties.length then s.wr Reg.LE_DUPF 4 1 else s
      match x.2.1 with
      | .reached =>
        let s := match duties.head? with
          | some y => s.hamDeliver y.2 dir
          | none => s.setOn .hamDir 0 dir
        s.setV .budRow 4 0
      | .exhausted => s.exhausted 4
  ((s.capFeed 0x44 (code 32 (s.v .trace 4))).capFeed 0x4C (s.rd Reg.LE_DOUT 4)).showHam

/-- A context whose result waits runs one update, unless the LE is halted (R21, R131). -/
def leUpdate (s : State) (c t : Nat) : State :=
  if s.on Reg.LE_CTL_HALTED ∨ ¬ s.vOn .inWait c then s
  else
    let s := s.upTo t
    if c = 4 then if s.rd Reg.HAM_CTL_AMODE = 0 then s.setV .inWait 4 0 else s.hamUpdate else s.railUpdate c

/-- The stage wake time ends: the phases are sent live and the reference aims at the target (R143). -/
def wakeEnds (s : State) (r : Nat) : State :=
  if s.vn .tEndly r = 0 then s
  else
    let s := ((s.upTo (s.vn .tEndly r - 1)).setV .tEndly r 0).setV .starting r 0
    let s := (s.parked r ++ s.active r).foldl (fun s c => s.armOst c ostLive) s
    let s := (s.understudies r).foldl (fun s c => s.armOst c ostParked) s
    (s.slewRef r (s.rd Reg.LE_SSSLEW r)).aimRef r (codeVolts (s.rd Reg.LE_TGTNOW r))

/-- The output has qualified: REGULATE, or a change of PGOOD (R143, R144); a characterisation that can learn nothing on the rail ramps it down again (R203). -/
def qualified (s : State) (r : Nat) : State :=
  if s.vn .tPgdly r = 0 then s
  else
    let s := (s.upTo (s.vn .tPgdly r - 1)).setV .tPgdly r 0
    if s.railState r = railRamp then
      let s := ((s.setRail r railRegulate).wr Reg.LE_PG r 1).slewRef r (s.railSlew r)
      let s := (s.setV .tRetry r (s.now + 400000000 + 1)).endOn r stOk
      let s := if s.vn .charTurn = r + 1 ∧ ¬ s.charAny r then s.setV .curDown r 1 else s
      s.interShed r
    else s.wrB Reg.LE_PG r (!s.on Reg.LE_PG r)

/-- When the reference of a rail that ramps down reaches 0 V (R137, R145). -/
def zeroAt (s : State) (r : Nat) : Nat :=
  let d := s.v .refSlew r * 2 ^ 20
  (s.v .refAt r + (if d ≤ 0 then 0 else ceilDiv (s.v .refVal r) d)).toNat

/-- 1 ms after the reference reached 0 V the ramp-down completes (R145). -/
def downTimeout (s : State) (r : Nat) : State :=
  if s.rampingDown r ∧ ¬ s.vOn .stopping r ∧ s.v .refTgt r = 0 then (s.upTo (s.zeroAt r + 400000)).sendOff r else s

/-- The off time of a hiccup elapses: a retry at the next boundary, or FAULTOFF (R307, R308). -/
def hiccupOff (s : State) (r : Nat) : State :=
  if s.vn .tHoff r = 0 then s
  else
    let s := (s.upTo (s.vn .tHoff r - 1)).setV .tHoff r 0
    let n := s.rd Reg.PROT_HRETRY r
    if n = 0 ∨ s.rd Reg.PROT_RETRYCNT r < n then
      let s := (s.bump Reg.PROT_RETRYCNT r).setV .hicRetry r 1
      match s.lead r with
      | some c => if s.on Reg.PWM_CEN c then s else s.startRamp r
      | none => s.startRamp r
    else s.faultOff r foRetries

/-- One second in REGULATE without a hiccup (R308). -/
def retryClear (s : State) (r : Nat) : State :=
  if s.vn .tRetry r = 0 then s
  else ((s.upTo (s.vn .tRetry r - 1)).setV .tRetry r 0).wr Reg.PROT_RETRYCNT r 0

/-- The dwell of the shed condition ends: one shed step starts (R187, R189). While the rail is throttled the step waits (R315; log entry 48). -/
def dwellEnds (s : State) (r : Nat) : State :=
  if s.vn .tDwell r = 0 ∨ s.throttled r then s
  else
    let s := (s.upTo (s.vn .tDwell r - 1)).setV .tDwell r 0
    if s.shedCond r ∧ ¬ s.shedFrozen r ∧ (s.departing r).isNone ∧ ¬ s.on Reg.PHM_LEDG_HOLDING r then s.startShed r else s

/-- The hold-off after a reversal ends; the dwell restarts (R187, R190). -/
def holdEnds (s : State) (r : Nat) : State :=
  if s.vn .tHold r = 0 then s
  else (((s.upTo (s.vn .tHold r - 1)).setV .tHold r 0).wr Reg.PHM_LEDG_HOLDING r 0).dwellCheck r

/-- The forecast's ramp start is reached: the lift rises to its target by the arrival (R141). -/
def fcRamp (s : State) (r : Nat) : State :=
  if s.vn .tFcRamp r = 0 ∨ ¬ s.on Reg.CUE_OPEN r then s
  else
    let s := (s.upTo (s.vn .tFcRamp r - 1)).setV .tFcRamp r 0
    s.liftTo r (s.v .fcLift r) (s.vn .fcTa r)

/-- t_close passes: an arrival in the same tick wins, else a miss (R229, R230). -/
def fcClose (s : State) (r : Nat) : State :=
  if s.on Reg.CUE_OPEN r then
    let late := s.vn .fcClose r - 1
    let s := s.upTo late
    if s.now = late ∧ s.arrived r false then s.closeWindow r outHit else s.closeWindow r outMiss
  else s

end State

/-- LE_UPDATE (R131). -/
def execLeUpdate (ctx : Fin 5) (t : Nat) (s : State) : Host.Outcome State Fault Refusal := act s (fun s => s.leUpdate ctx t)

/-- ENDLY_EXPIRY (R143). -/
def execEndlyExpiry (r : Rail) (s : State) : Host.Outcome State Fault Refusal := act s (fun s => s.wakeEnds r)

/-- PGDLY_EXPIRY (R144). -/
def execPgdlyExpiry (r : Rail) (s : State) : Host.Outcome State Fault Refusal := act s (fun s => s.qualified r)

/-- RAMPDOWN_TIMEOUT (R145). -/
def execRampdownTimeout (r : Rail) (s : State) : Host.Outcome State Fault Refusal := act s (fun s => s.downTimeout r)

/-- HICCUP_OFF_EXPIRY (R307). -/
def execHiccupOffExpiry (r : Rail) (s : State) : Host.Outcome State Fault Refusal := act s (fun s => s.hiccupOff r)

/-- RETRY_CLEAR_TIMER (R308). -/
def execRetryClearTimer (r : Rail) (s : State) : Host.Outcome State Fault Refusal := act s (fun s => s.retryClear r)

/-- SHED_DWELL_EXPIRY (R187). -/
def execShedDwellExpiry (r : Rail) (s : State) : Host.Outcome State Fault Refusal := act s (fun s => s.dwellEnds r)

/-- HOLD_EXPIRY (R190). -/
def execHoldExpiry (r : Rail) (s : State) : Host.Outcome State Fault Refusal := act s (fun s => s.holdEnds r)

/-- SWAP_COPY_DONE (R148). -/
def execSwapCopyDone (s : State) : Host.Outcome State Fault Refusal := act s State.copyDone

/-- FORECAST_RAMP_START (R141). -/
def execForecastRampStart (r : Rail) (s : State) : Host.Outcome State Fault Refusal := act s (fun s => s.fcRamp r)

/-- FORECAST_WINDOW_CLOSE (R229). -/
def execForecastWindowClose (r : Rail) (s : State) : Host.Outcome State Fault Refusal := act s (fun s => s.fcClose r)

end Sys2Proof.Machine
end

