-- ==== Sys2Proof/Machine/Reset.lean ====
section
/-!
DEFINITION. The reset of the device: what every reset cause leaves (R10, R48, R49), and what lives through it; the causes that reset the part at once or after a CURTAIN (R42, R432, R433, R484).
-/

namespace Sys2Proof.Machine

/-- Reset causes (R49). -/
def rstPowerOn : Nat := 0
def rstPin : Nat := 1
def rstCommand : Nat := 2
def rstWdtSc : Nat := 3
def rstWdtAc : Nat := 4
def rstBootTimer : Nat := 5
def rstBrownOut : Nat := 6
def rstFatal : Nat := 7
def rstDebug : Nat := 8
def rstRom : Nat := 9

/-- Variables that some resets keep: the loads of the RAMs, the TAP's instruction, and the coulomb counter's accumulator (R96, R481). -/
def keptVars (rst : Nat) : List (Var × Nat) :=
  [(.leEpoch, 1), (.sramEpoch, 1), (.tokEpoch, 64)] ++ (if rst = rstPowerOn ∨ rst = rstBrownOut then [] else [(.tapIr, 1)]) ++
    (if rst = rstPowerOn ∨ rst = rstPin ∨ rst = rstCommand ∨ rst = rstBrownOut then [] else [(.cctAcc, 1), (.cctN, 1), (.cctLast, 1)])

namespace State

/-- The device reset (R10, R48): every field at its reset value, every session gone, the queue of events lost; RSTCAUSE names the cause. What stands in MRAM stays, and in SRAM while the supplies last; FAILCNT stays but for power-on (R26); FATAL stays for the accounting (R445). -/
def devReset (s : State) (rst : Nat) : State :=
  let supply := rst = rstPowerOn ∨ rst = rstBrownOut
  let s0 : State := { State.reset with
    mem := s.mem.filter (fun x => (decide (0x40000000 ≤ x.1) && decide (x.1 < 0x40240000)) || (!decide supply && decide (0x20000000 ≤ x.1) && decide (x.1 < 0x20080000)))
    ring := if stopMode s.mode then s.ring else s.ring.map (fun x => (x.1, { x.2 with inRun := false }))
    recSeq := s.recSeq
    slots := s.slots
    boot := s.boot
    freeCtr := s.freeCtr
    pending := s.pending }
  let s1 := (keptVars rst).foldl (fun t x => (List.range x.2).foldl (fun t i => t.setV x.1 i (s.v x.1 i)) t) s0
  let s2 := (List.range 64).foldl (fun t k => t.setV .tokEpoch k (t.v .tokEpoch k + 1)) s1
  let s3 := if supply then s2.setV .sramEpoch 0 (s2.v .sramEpoch + 1) else s2
  let s4 := if rst = rstPowerOn then s3 else s3.wr Reg.CLK_STATUS_FAILCNT 0 (s.rd Reg.CLK_STATUS_FAILCNT)
  let s5 := if rst = rstFatal then (s4.wr Reg.ICU_CORE_FATAL 0 (s.rd Reg.ICU_CORE_FATAL 0)).wr Reg.ICU_CORE_FATAL 1 (s.rd Reg.ICU_CORE_FATAL 1) else s4
  s5.wr Reg.SYS_BOOT_RSTCAUSE 0 rst

/-- A watchdog expiry, a fatal fault or the RESET command: a CURTAIN while a rail is live, which a reset with this cause follows, or the reset at once (R42, R46, R432, R433). -/
def resetOrCurtain (s : State) (cause rst : Nat) : State :=
  if s.anyLive then s.enterCurtain cause (rst + 1) else s.devReset rst

/-- FAULT_N is pulled low (R25, R48, R311). -/
def faultN (s : State) : Bool :=
  decide (s.power ≠ .running) || (s.mode == 1 && (!s.vOn .pllSeen || s.vOn .bootLatch)) || s.mode == mSafestop || s.on Reg.CLK_STATUS_CLKFAIL && s.mode == 1 ||
    (s.on Reg.PROT_CTL_FNRAIL && (List.range 4).any (fun r => s.railState r == railFaultOff)) || (s.on Reg.PROT_CTL_FNHAM && s.on Reg.PROT_LATCH_HAMLAT)

end State

/-- SUPPLY_LOSS (R42, R491): the part is without supply; whether a brown-out warning stood decides the cause that POWER_ON shows (R49). -/
def execSupplyLoss (s : State) : Host.Outcome State Fault Refusal :=
  .next (if s.power = .off then s
    else { s.devReset (if s.on Reg.NVS_STAT_BOWARN ∨ (s.power = .held ∧ s.rd Reg.SYS_BOOT_RSTCAUSE = rstBrownOut) then rstBrownOut else rstPowerOn) with power := .off })

/-- POWER_ON (R491): the supplies are present; reset is still asserted. The cause was fixed as the supply was lost. -/
def execPowerOn (s : State) : Host.Outcome State Fault Refusal := .next (if s.power = .off then { s with power := .held } else s)

/-- RESET_N_ASSERT (R48). -/
def execResetNAssert (s : State) : Host.Outcome State Fault Refusal := .next (if s.power = .off then s else s.devReset rstPin)

/-- DEFERRED_RESET (R42): the delay after a CURTAIN or SAFESTOP that a reset cause started ends. -/
def execDeferredReset (s : State) : Host.Outcome State Fault Refusal :=
  act s (fun s => if s.vn .tReset = 0 ∨ s.vn .curReset = 0 then s else s.devReset (s.vn .curReset - 1))

/-- DBG_DRST (R484). -/
def execDbgDrst (s : State) : Host.Outcome State Fault Refusal := act s (fun s => s.devReset rstDebug)

/-- BOOT_TIMER_EXPIRY (R50). -/
def execBootTimerExpiry (s : State) : Host.Outcome State Fault Refusal := act s (fun s => if s.mode = mBoot then s.devReset rstBootTimer else s)

end Sys2Proof.Machine
end

