-- ==== Sys2Proof/Machine/Cores.lean ====
section
/-!
DEFINITION. The two cores as the spec describes them: watchdogs, fatal faults and sleep, interrupt entry, return and completion, fallback delivery, the debugger's halts and steps, the loop engine's halt and step, and the TAP (R19 to R21, R431 to R446, R481 to R486).
-/

namespace Sys2Proof.Machine

namespace State

/-! ### Watchdogs (R432) -/

/-- The timeout field of a core's watchdog. -/
def tmoFld : CoreId → Fld
  | .sc => Reg.SYS_WDT_TMO_SC
  | .ac => Reg.SYS_WDT_TMO_AC

/-- The pre-warning flag of a core's watchdog. -/
def prefFld : CoreId → Fld
  | .sc => Reg.SYS_WDT_PREF_SC
  | .ac => Reg.SYS_WDT_PREF_AC

/-- A watchdog starts its count with the timeout in TMO (R432). -/
def wdtStart (s : State) (c : CoreId) : State :=
  ((s.setV .wdtAt c.idx (s.now + 1)).setV .wdtTmo c.idx (s.rd (tmoFld c))).setV .wdtPre c.idx 0

/-- A write of a core's SYS_WDT word: PREF is cleared by 1, TMO takes 1 to 1,000 and waits for the next kick, the key kicks (R447). -/
def wdtWrite (s : State) (c : CoreId) (w : Nat) : State :=
  let s := if bit w 13 then s.wr (prefFld c) 0 0 else s
  let t := bits w 9 0
  let s := if 1 ≤ t ∧ t ≤ 1000 then s.wr (tmoFld c) 0 t else s
  if bits w 31 16 = 0x5A3C then s.wdtStart c else s

/-- The watchdog of a core counts: it has started, and its core is not halted by the debugger (R432). -/
def wdtRuns (s : State) (c : CoreId) : Bool := s.vOn .wdtAt c.idx && !s.coreHalted c

/-- The source that a core's alarms use; it is delivered to the other core (R435). -/
def alarmSrc (c : CoreId) : Nat := if c = .sc then 124 else 125

/-- Half of the timeout has elapsed (R432). -/
def wdtPrewarn (s : State) (c : CoreId) : State :=
  if s.wdtRuns c ∧ ¬ s.vOn .wdtPre c.idx then
    (((s.upTo (s.vn .wdtAt c.idx - 1 + s.vn .wdtTmo c.idx * 200000)).wr (prefFld c) 0 1).setV .wdtPre c.idx 1).irq (alarmSrc c)
  else s

/-- The full timeout has elapsed (R432). -/
def wdtExpire (s : State) (c : CoreId) : State :=
  if s.wdtRuns c then
    let s := (s.upTo (s.vn .wdtAt c.idx - 1 + s.vn .wdtTmo c.idx * 400000)).setV .wdtAt c.idx 0
    s.resetOrCurtain 0x08 (if c = .sc then rstWdtSc else rstWdtAc)
  else s

/-- A fatal core fault (R433). -/
def fatalFault (s : State) (c : CoreId) : State :=
  if s.coreRuns c then (s.wr Reg.ICU_CORE_FATAL c.idx 1).resetOrCurtain 0x08 rstFatal else s

/-! ### Interrupts (R437 to R441) -/

/-- Both masks of a source. -/
def setPend (s : State) (n : Nat) (b : Bool) : State :=
  { s with icu := { s.icu with pend := if b then s.icu.pend ||| BitVec.twoPow 128 n else s.icu.pend &&& ~~~ BitVec.twoPow 128 n } }

def setEn (s : State) (n : Nat) (b : Bool) : State :=
  { s with icu := { s.icu with en := if b then s.icu.en ||| BitVec.twoPow 128 n else s.icu.en &&& ~~~ BitVec.twoPow 128 n } }

/-- SETPEND, CLRPEND, ENSET and ENCLR of a source (R446); a reserved source never becomes pending or enabled (R435). Clearing a level source whose input is high has no lasting effect (R436). -/
def writePend (s : State) (n : Nat) (b : Bool) : State :=
  if n ∈ icuReserved then s else if !b && s.rd Reg.ICU_SENSE n == 0 && s.icu.input.getLsbD n then s else s.setPend n b

def writeEn (s : State) (n : Nat) (b : Bool) : State := if n ∈ icuReserved then s else s.setEn n b

/-- The push commits for a source: it is active, and an edge source's PEND is cleared (R438). -/
def icuPush (s : State) (c : CoreId) (n : Nat) : State :=
  let s := s.setStack c ((n, s.rd Reg.ICU_PRIO n) :: s.stack c)
  let s := if s.rd Reg.ICU_SENSE n = 0 then s else s.setPend n false
  s.setV .fbSrc n 0

/-- An entry of a core: the winner at commit is pushed, or the spurious vector counts; the core is awake (R434, R438). -/
def interruptEntry (s : State) (c : CoreId) : State :=
  if s.coreRuns c then
    let s := ((s.wr Reg.ICU_CORE_SLEEP c.idx 0).wr Reg.ICU_CORE_WAKEREQ c.idx 0).setV .wakeAt c.idx 0
    match s.icuWinner c with
    | some n => s.icuPush c n
    | none => s.bump Reg.ICU_CORE_SPURCNT c.idx
  else s

/-- The return of a handler: the winner against the running priority tail-chains (R439). -/
def interruptReturn (s : State) (c : CoreId) : State :=
  if s.coreRuns c then
    match s.icuWinner c with
    | some n => s.icuPush c n
    | none => s
  else s

/-- An out-of-order completion: the stack stays, the other core is told (R440). -/
def badEoi (s : State) (c : CoreId) (n top : Nat) : State :=
  let s := (s.wr Reg.ICU_CORE_EOIERRF c.idx 1).bump Reg.ICU_CORE_EOIERRCNT c.idx
  (s.irq (alarmSrc c)).event 0x8003 2 (leBytes 1 c.idx ++ leBytes 1 n ++ leBytes 1 top)

/-- A write to a core's EOI (R439, R440). -/
def eoi (s : State) (c : CoreId) (n : Nat) : State :=
  match s.stack c with
  | (m, _) :: rest => if m = n then s.setStack c rest else s.badEoi c n m
  | [] => s.badEoi c n 0xFF

/-- A sleeping target has not woken 2 µs after the wake request: the source is offered to the other core too (R441). -/
def fallback (s : State) (n : Nat) : State :=
  let c := s.icuTarget n
  if s.on Reg.ICU_CTL_FBEN ∧ n ≠ 124 ∧ n ≠ 125 ∧ s.on Reg.ICU_CORE_SLEEP c.idx ∧ s.on Reg.ICU_CORE_WAKEREQ c.idx ∧ s.coreRuns c ∧
      s.icuWinner c = some n ∧ ¬ s.vOn .fbSrc n then
    let s := (s.upTo (s.vn .wakeAt c.idx - 1 + 800)).setV .fbSrc n 1
    (s.bump Reg.ICU_CORE_FBCNT c.idx).event 0x8004 1 (leBytes 1 c.idx ++ leBytes 1 n)
  else s

/-- A software interrupt to a core sets the pending bit of its source, an event of that source (R447). -/
def softIrq (s : State) (c : CoreId) : State := { s with icu := s.icu.hit (if c = .ac then 120 else 121) }

/-- A core executes its wait instruction (R434). -/
def coreSleep (s : State) (c : CoreId) : State := if s.coreRuns c then s.wr Reg.ICU_CORE_SLEEP c.idx 1 else s

/-! ### Debug halts (R19, R20, R483) -/

/-- A deadline or start tick moved on by `d` ticks; 0 does not run. -/
def shiftV (s : State) (x : Var) (i : Nat) (d : Int) : State := if s.vn x i = 0 then s else s.setV x i (s.v x i + d)

/-- A halted core resumes: its watchdog and the lease go on with what was left; commanded transitions that waited complete, waiting packets are admitted; an identification run that the halt stopped is aborted (R19, R20, R169). -/
def resumeCore (s : State) (c : CoreId) : State :=
  if s.coreHalted c then
    let d := (s.now : Int) - s.v .haltAt c.idx
    let s := ((s.wr (haltedFld c) 0 0).setV .haltAt c.idx 0).shiftV .wdtAt c.idx d
    match c with
    | .sc =>
      let s := ((s.shiftV .tLease 0 d).interCheck).railStopped
      ((s.admitAll .twa).admitAll .twb).admitAll .hsp
    | .ac => if s.vn .identRunning = 3 then s.identAbort 5 else s
  else s

/-- A core stands under its logic test (R477, R478). -/
def underTest (s : State) (c : CoreId) : Bool := s.on Reg.BIST_STAT_RUN && bit (s.rd Reg.BIST_STAT_SEL) c.idx

/-- HALTSC and HALTAC are written (R483); a core under its logic test halts when that test ends (R488). -/
def haltWrite (s : State) (sc ac : Bool) : State :=
  let s := (s.wrB Reg.DBG_CTL_HALTSC 0 sc).wrB Reg.DBG_CTL_HALTAC 0 ac
  let halt (s : State) (c : CoreId) : State := if s.underTest c then s else s.haltCore c haltRequest
  let s := if sc then halt s .sc else s.resumeCore .sc
  if ac then halt s .ac else s.resumeCore .ac

/-- A halted core executes one instruction and halts again; with STEPIRQ it may enter an interrupt (R483). -/
def stepCore (s : State) (c : CoreId) : State :=
  if s.coreHalted c then
    let s := s.wr (causeFld c) 0 haltStep
    if s.on Reg.DBG_CTL_STEPIRQ ∧ ¬ s.on Reg.ICU_CORE_FATAL c.idx then
      match s.icuWinner c with
      | some n => ((s.wr Reg.ICU_CORE_SLEEP c.idx 0).wr Reg.ICU_CORE_WAKEREQ c.idx 0).icuPush c n
      | none => s
    else s
  else s

/-- The core and the halt cause of a breakpoint instance (R486). -/
def bpCore (i : Nat) : CoreId := if i < 8 ∨ (16 ≤ i ∧ i < 20) then .sc else .ac

/-- A breakpoint or watchpoint hit (R483, R486); one at the end of a step changes the cause of the step's halt (R488). -/
def bpHit (s : State) (i : Nat) : State :=
  let c := bpCore i
  let stepped : Bool := s.coreHalted c && s.rd (causeFld c) == haltStep
  if s.on Reg.DBGBP_EN i ∧ (s.coreRuns c ∨ stepped) then
    let s := s.bump Reg.DBGBP_HITS i
    let cause := if i < 16 then haltBreak else haltWatch
    if s.on Reg.DBGBP_ACT i then s else if stepped then s.wr (causeFld c) 0 cause else s.haltCore c cause
  else s

/-! ### Halting and stepping the loop engine (R21, R156, R485) -/

/-- The program region of a lane (R154). -/
def laneRegion (s : State) (c : Nat) : Nat × Nat :=
  if s.rd Reg.LE_LAW c ≠ 0 then (s.rd Reg.LE_ENTRY c, s.rd Reg.LE_LEN c)
  else if c = 4 then (s.rd Reg.LE_BASE_HENTRY, s.rd Reg.LE_BASE_HLEN) else (s.rd Reg.LE_BASE_BENTRY, s.rd Reg.LE_BASE_BLEN)

/-- Every power stage is disabled (R21, R475). -/
def stagesOff (s : State) : Bool := (List.range 4).all (fun r => !s.vOn .en r) && (List.range 34).all (fun c => s.rd Reg.PWM_OST c != ostLive)

/-- HALTED follows HALT and HALTREQ; halted lanes stand at their entry words, resumed lanes wait for their next result (R156, R476). -/
def leHaltShow (s : State) : State :=
  let h := s.on Reg.LE_CTL_HALT || s.on Reg.DBG_LE_HALTREQ
  if h == s.on Reg.LE_CTL_HALTED then s
  else
    let s := s.wrB Reg.LE_CTL_HALTED 0 h
    (List.range 5).foldl (fun s c => if h then s.setV .lanePc c (s.laneRegion c).1 else (s.setV .lanePc c 0).setV .inWait c 0) s

/-- HALT of LE_CTL is written where R21 permits it. -/
def leHaltWrite (s : State) (h : Bool) : State := (s.wrB Reg.LE_CTL_HALT 0 h).leHaltShow

/-- HALTREQ is written through the TAP (R21, R485). -/
def leHaltReq (s : State) (h : Bool) : State :=
  if h && !(s.mode == mRehearsal && s.stagesOff) then s.wr Reg.DBG_STAT_LEHREJ 0 1 else (s.wrB Reg.DBG_LE_HALTREQ 0 h).leHaltShow

/-- One word on a halted lane (R153, R485). -/
def laneStep (s : State) (c : Nat) : State :=
  let e := s.laneRegion c
  let a := s.vn .lanePc c
  let p := if c < 4 then s.railPorts c else s.hamPorts
  if a < e.1 ∨ e.1 + e.2 ≤ a then ((s.wr Reg.LE_WINERR c 1).exhausted c).setV .lanePc c e.1
  else
    let s := if a = e.1 then s.setV .hamOut c 0 else s
    let w := s.ucode a
    let x := ((s.loadLane c).word s c p w).flow w a (c != 4 && (p.getD 5 0 != 0 || p.getD 6 0 != 0))
    let t := s.storeLane c x.2
    let t := x.2.outs.foldl (fun t y => if c < 4 then t.railOut c true y else if y.1 = 0x32 then t.setV .trace 4 y.2 else t) t
    t.setV .lanePc c (x.1.getD e.1)

/-- STEP of DBG_LE while halted: one word on every lane (R485). -/
def leStep (s : State) : State := if s.on Reg.LE_CTL_HALTED then (List.range 5).foldl (fun s c => s.laneStep c) s else s

/-! ### The TAP (R481, R482) -/

/-- EXTEST, CLAMP and HIGHZ drive pins. -/
def pinInstr (ir : Nat) : Bool := ir == 0 || ir == 4 || ir == 5

/-- The TAP's instruction register; IDCODE after a TAP reset (R481). -/
def tapInstr (s : State) : Nat := if s.vn .tapIr = 0 then 1 else s.vn .tapIr - 1

/-- A new TAP instruction (R482): the pins return from the earlier one, and a pin instruction acts only in REHEARSAL with BSEN. -/
def tapIrWrite (s : State) (ir : Nat) : State :=
  let s := (s.setV .tapIr 0 (ir + 1)).setV .pinAct 0 0
  if pinInstr ir ∧ s.power = .running then
    if s.mode = mRehearsal ∧ s.on Reg.DBG_CTL_BSEN then s.setV .pinAct 0 1
    else (s.wr Reg.DBG_STAT_BSREJ 0 1).event 0xA004 1 (leBytes 1 ir)
  else s

/-- BSEN is written (R485). -/
def bsenWrite (s : State) (b : Bool) : State :=
  if b && s.mode != mRehearsal then s.wr Reg.DBG_STAT_BSREJ 0 1
  else (if b then s else s.setV .pinAct 0 0).wrB Reg.DBG_CTL_BSEN 0 b

end State

/-- WATCHDOG_KICK (R432): a write of the core's SYS_WDT word. -/
def execWatchdogKick (core : CoreId) (value : Word) (s : State) : Host.Outcome State Fault Refusal := act s (fun s => s.wdtWrite core value.toNat)

/-- WATCHDOG_PREWARNING (R432). -/
def execWatchdogPrewarning (core : CoreId) (s : State) : Host.Outcome State Fault Refusal := act s (fun s => s.wdtPrewarn core)

/-- WATCHDOG_EXPIRY (R432). -/
def execWatchdogExpiry (core : CoreId) (s : State) : Host.Outcome State Fault Refusal := act s (fun s => s.wdtExpire core)

/-- FATAL_CORE_FAULT (R433). -/
def execFatalCoreFault (core : CoreId) (s : State) : Host.Outcome State Fault Refusal := act s (fun s => s.fatalFault core)

/-- CORE_SLEEP (R434). -/
def execCoreSleep (core : CoreId) (s : State) : Host.Outcome State Fault Refusal := act s (fun s => s.coreSleep core)

/-- INTERRUPT_ENTRY (R438). -/
def execInterruptEntry (core : CoreId) (s : State) : Host.Outcome State Fault Refusal := act s (fun s => s.interruptEntry core)

/-- INTERRUPT_RETURN (R439). -/
def execInterruptReturn (core : CoreId) (s : State) : Host.Outcome State Fault Refusal := act s (fun s => s.interruptReturn core)

/-- WAKE_FALLBACK (R441). -/
def execWakeFallback (src : Fin 128) (s : State) : Host.Outcome State Fault Refusal := act s (fun s => s.fallback src)

/-- SYSTEM_TICK (R435): the next full millisecond. -/
def execSystemTick (s : State) : Host.Outcome State Fault Refusal := act s (fun s => (s.upTo ((s.now / 400000 + 1) * 400000)).irq 122)

/-- BREAKPOINT_HIT (R483). -/
def execBreakpointHit (bp : Fin 24) (s : State) : Host.Outcome State Fault Refusal := act s (fun s => s.bpHit bp)

/-- TAP_RESET (R481): IDCODE is selected; the pins return. The TAP works while the part is held in reset. -/
def execTapReset (s : State) : Host.Outcome State Fault Refusal := .next (if s.power = .off then s else (s.setV .tapIr 0 0).setV .pinAct 0 0)

/-- TAP_UPDATE_IR (R482). -/
def execTapUpdateIr (ir : BitVec 5) (s : State) : Host.Outcome State Fault Refusal := .next (if s.power = .off then s else s.tapIrWrite ir.toNat)

/-- SOFTWARE_INTERRUPT (R447). -/
def execSoftwareInterrupt (core : CoreId) (s : State) : Host.Outcome State Fault Refusal := act s (fun s => s.softIrq core)

/-- ICU_EOI (R439, R440). -/
def execIcuEoi (core : CoreId) (src : Byte) (s : State) : Host.Outcome State Fault Refusal := act s (fun s => s.eoi core src.toNat)

/-- ICU_SETPEND (R446). -/
def execIcuSetpend (src : Fin 128) (s : State) : Host.Outcome State Fault Refusal := act s (fun s => s.writePend src true)

/-- ICU_CLRPEND (R446). -/
def execIcuClrpend (src : Fin 128) (s : State) : Host.Outcome State Fault Refusal := act s (fun s => s.writePend src false)

/-- ICU_ENSET (R446). -/
def execIcuEnset (src : Fin 128) (s : State) : Host.Outcome State Fault Refusal := act s (fun s => s.writeEn src true)

/-- ICU_ENCLR (R446). -/
def execIcuEnclr (src : Fin 128) (s : State) : Host.Outcome State Fault Refusal := act s (fun s => s.writeEn src false)

/-- DBG_HALT (R483): HALTSC and HALTAC are written. -/
def execDbgHalt (sc ac : Bool) (s : State) : Host.Outcome State Fault Refusal := act s (fun s => s.haltWrite sc ac)

/-- DBG_STEP (R483). -/
def execDbgStep (core : CoreId) (s : State) : Host.Outcome State Fault Refusal := act s (fun s => s.stepCore core)

/-- DBG_LE_HALTREQ (R485). -/
def execDbgLeHaltreq (req : Bool) (s : State) : Host.Outcome State Fault Refusal := act s (fun s => s.leHaltReq req)

/-- DBG_LE_STEP (R485). -/
def execDbgLeStep (s : State) : Host.Outcome State Fault Refusal := act s State.leStep

end Sys2Proof.Machine
end

