-- ==== Sys2Proof/Machine/Gauge.lean ====
section
/-!
DEFINITION. The reservoir estimator: counting, anchors, capacity learning, health warnings, rest windows, the start-up reconciliation and the state record (R267 to R284).
Charges are kept to 2^-32 mC, and the ledger registers show whole millicoulombs that balance exactly (R269).
-/

namespace Sys2Proof.Machine

/-- One millicoulomb in the unit of the estimator's own sums. -/
def mC : Int := 2 ^ 32

namespace State

/-- A point of the table in force: voltage in mV and state of charge in 1/65536 (R273, R291). -/
def ocvPoint (s : State) (n : Nat) : Int × Int :=
  let w := s.vn .ocvTab n
  if w = 0 then (5000 + rdiv (4600 * n) 31, rdiv (65535 * n) 31) else ((w - 1 : Nat) / 65536, (w - 1 : Nat) % 65536)

/-- The segment of the table that brackets a voltage in µV: its lower point (R272). -/
def ocvSegment (s : State) (uv : Int) : Nat := ((List.range 31).reverse.find? (fun n => decide ((s.ocvPoint n).1 * 1000 ≤ uv))).getD 0

/-- The state of charge at a voltage, in 1/65536, by interpolation between the end points (R272). -/
def ocvSoc (s : State) (uv : Int) : Int :=
  let n := s.ocvSegment uv
  let a := s.ocvPoint n
  let b := s.ocvPoint (n + 1)
  clamp a.2 b.2 (a.2 + rdiv ((uv - a.1 * 1000) * (b.2 - a.2)) ((b.1 - a.1) * 1000))

/-- CAP in millicoulombs. -/
def capMc (s : State) : Int := (s.rd Reg.GAU_HLTH_CAP : Int) * 1000

/-- The uncertainty of a rest anchor at a voltage (R272). -/
def anchorU (s : State) (uv : Int) : Int :=
  let n := s.ocvSegment uv
  let a := s.ocvPoint n
  let b := s.ocvPoint (n + 1)
  rdiv (s.capMc * (s.rd Reg.GAU_CFG_OCVERR : Int) * (b.2 - a.2) * mC) (65536 * (b.1 - a.1))

/-- The charge that a state of charge stands for. -/
def socCharge (s : State) (soc : Int) : Int := soc * s.capMc * (mC / 65536)

/-- The compensated voltage of a reservoir voltage, both in µV (R270). -/
def vocUv (s : State) (uv : Int) : Int := uv - rdiv (s.v .irvMa * (s.rd Reg.GAU_HLTH_DCR : Int)) 100

/-- VOC from the latest 16 results (R270). -/
def vocNow (s : State) : Option Int := s.rvSum.map (fun x => s.vocUv (rdiv (x * 1000000) 65536))

/-- IN − OUT less the modelled loss, in whole millicoulombs (R275, R281). -/
def netCharge (s : State) : Int := (s.v .gIn - s.v .gOut - s.v .gLoss) / mC

/-- The request threshold (R278). -/
def ureq (s : State) : Int := s.capMc * (s.rd Reg.GAU_CFG_UREQ : Int) * mC / 100

/-- GAU_STATE, GAU_LEDG and GAU_HLTH are written in one update; LOSS is what makes the ledger balance (R269). -/
def showGauge (s : State) : State :=
  let cap := s.capMc
  let st := s.v .gStored / mC
  let u := s.v .gU / mC
  let i := s.v .gIn / mC
  let o := s.v .gOut / mC
  let s := (s.wr Reg.GAU_STATE_SOC 0 (clamp 0 65535 (if cap = 0 then 0 else st * 65536 / cap)).toNat).wr Reg.GAU_STATE_UPCT 0 (clamp 0 10000 (if cap = 0 then 0 else u * 10000 / cap)).toNat
  let s := (s.wrS Reg.GAU_STATE_STORED 0 st).wr Reg.GAU_STATE_U 0 (clamp 0 (2 ^ 32 - 1) u).toNat
  let s := (s.wrS Reg.GAU_LEDG_IN 0 i).wrS Reg.GAU_LEDG_OUT 0 o
  let s := s.wrS Reg.GAU_LEDG_LOSS 0 (i - o - (st - (s.rd Reg.GAU_LEDG_STORED0 : Int)))
  let s := s.wrS Reg.GAU_HLTH_THRU 0 (s.v .gThru / (1000 * mC))
  let capr := s.rd Reg.GAU_CFG_CAPR
  let s := s.wr Reg.GAU_HLTH_SOH 0 (if capr = 0 then 0 else min 65535 (s.rd Reg.GAU_HLTH_CAP * 16384 / capr))
  s.wr Reg.GAU_HLTH_EFC 0 (if s.rd Reg.GAU_HLTH_CAP = 0 then 0 else min 65535 (s.rd Reg.GAU_HLTH_THRU / s.rd Reg.GAU_HLTH_CAP))

/-- A health warning asserts or releases (R71, R276). -/
def healthWarn (s : State) (f : Fld) (which : Nat) (beyond back : Bool) : State :=
  if s.on f then (if back then s.wr f 0 0 else s)
  else if beyond then (((s.wr f 0 1).event 0x6018 1 (leBytes 1 which)).alertEvent 0x6018) else s

/-- SOHW and DCRW follow their figures (R276). -/
def healthWarns (s : State) : State :=
  let soh := s.rd Reg.GAU_HLTH_SOH * 100
  let w := s.rd Reg.GAU_HCFG_SOHWARN
  let s := s.healthWarn Reg.GAU_HLTH_SOHW 0 (decide (soh ≤ w * 16384)) (decide ((w + 1) * 16384 ≤ soh))
  let d := s.rd Reg.GAU_HLTH_DCR
  let dw := s.rd Reg.GAU_HCFG_DCRWARN
  s.healthWarn Reg.GAU_HLTH_DCRW 1 (decide (dw ≤ d)) (decide (d * 100 ≤ dw * 95))

/-- The rest request is raised when U has reached its threshold; after a denial or a lapse, when U has doubled since (R278). -/
def requestCheck (s : State) : State :=
  let again := s.v .denyU = 0 || decide (2 * (s.v .denyU - 1) ≤ s.v .gU)
  if ¬ s.on Reg.GAU_REST_REQ ∧ s.rd Reg.GAU_REST_PH = 0 ∧ s.ureq ≤ s.v .gU ∧ again then
    (((s.wr Reg.GAU_REST_REQ 0 1).setV .denyU 0 0).event 0x6010 0 (leBytes 4 (s.rd Reg.GAU_STATE_U))).alertEvent 0x6010
  else s

/-- The estimator learns the capacity from the anchor at `soc` and the one before it (R275). -/
def learnCap (s : State) (soc : Int) : State :=
  let a1 := s.v .a1soc
  let ds := soc - a1
  if s.on Reg.GAU_CFG_LEARN ∧ s.vOn .a1Known ∧ 4 * 65536 ≤ 10 * (ds.natAbs : Int) ∧ s.v .gU ≤ s.ureq then
    let q := s.netCharge - s.v .a1q
    let n := (q * 65536 - s.capMc * ds) * (if ds < 0 then -1 else 1)
    let d := 1000 * (ds.natAbs : Int)
    let cap : Int := s.rd Reg.GAU_HLTH_CAP
    if cap * d < 5 * (n.natAbs : Int) then s.bump Reg.GAU_HLTH_CAPREJ 0
    else
      let new := (clamp 0 65535 (cap + rdiv n (4 * d))).toNat
      let s := ((s.wr Reg.GAU_HLTH_CAP 0 new).wr Reg.GAU_STATE_CAPV 0 1).bump Reg.GAU_HLTH_NLEARN 0
      s.event 0x6016 0 (leBytes 2 cap.toNat ++ leBytes 2 new)
  else s

/-- An anchor of a kind at a voltage in µV: taken when its uncertainty is below U (R271, R272, R275, R282). -/
def anchor (s : State) (kind : Nat) (uv : Int) : State :=
  let two : Int := if kind = 3 then 1 else 2
  if two * s.anchorU uv < s.v .gU then
    let soc := s.ocvSoc uv
    let s := s.learnCap soc
    let new := s.socCharge soc
    let corr := new / mC - s.v .gStored / mC
    let s := ((s.setV .gStored 0 new).setV .gU 0 (two * s.anchorU uv)).setV .denyU 0 0
    let s := (((s.setV .a1soc 0 soc).setV .a1q 0 s.netCharge).setV .a1Known 0 1).setV .anchorAt 0 (s.now + 1)
    let s := (s.wr Reg.GAU_STATE_LASTANCH 0 kind).wr Reg.GAU_STATE_LSUSP 0 0
    let s := if kind = 3 then s.setV .restTaken 0 1 else s
    ((s.event 0x6015 0 (leBytes 1 kind ++ leBytes 4 (code 32 corr))).showGauge).gaugeRecord
  else s

/-- The full or the empty anchor whose conditions hold now: its kind and voltage in µV (R271). -/
def fullEmpty (s : State) : Option (Nat × Int) :=
  match s.vocNow with
  | none => none
  | some uv =>
    let tail := s.vOn .fullSince && decide (s.vn .fullSince - 1 + s.rd Reg.GAU_CFG_TFULL * 400000000 ≤ s.now)
    if tail ∧ (s.rd Reg.GAU_CFG_VFULL : Int) * 1000 ≤ uv then some (1, uv)
    else if uv ≤ (s.rd Reg.GAU_CFG_VEMPTY : Int) * 1000 ∧ s.v .irvMa < 0 then some (2, uv)
    else none

/-- The full and the empty anchor are evaluated at an update (R271). -/
def anchors (s : State) : State :=
  match s.fullEmpty with
  | some x => s.anchor x.1 x.2
  | none => s

/-- Counting over an interval of `n` times 10 ms (R268). -/
def count (s : State) (n : Int) : State :=
  let acc := sgn 48 (code 48 (s.v .cctAcc - s.v .gAcc))
  let rrv : Int := s.rd Reg.HAM_SHUNT_RRV
  let dq := rdiv (acc * 25000 * mC) (65536 * rrv)
  let sd := rdiv ((s.rd Reg.GAU_HCFG_SDR : Int) * n * mC) 10000
  let lossq := sd + (if 0 < dq then rdiv (dq * (65536 - (s.rd Reg.GAU_HCFG_CEFF : Int))) 65536 else 0)
  let s := s.setV .gAcc 0 (s.v .cctAcc)
  let s := if 0 < dq then s.setV .gIn 0 (s.v .gIn + dq) else (s.setV .gOut 0 (s.v .gOut - dq)).setV .gThru 0 (s.v .gThru - dq)
  let s := (s.setV .gStored 0 (s.v .gStored + dq - lossq)).setV .gLoss 0 (s.v .gLoss + lossq)
  s.setV .gU 0 (s.v .gU + rdiv ((s.rd Reg.GAU_CFG_GERR : Int) * dq.natAbs) 10000 + rdiv ((s.rd Reg.GAU_CFG_IOFS : Int) * n * mC) 100)

/-- A snapshot of the coulomb counter (R97). -/
def cctSnapshot (s : State) : State :=
  let a := code 48 (s.v .cctAcc)
  ((((s.wr Reg.CCT_SNAP_ACC_LO 0 (a % 2 ^ 32)).wr Reg.CCT_SNAP_ACC_HI 0 (a / 2 ^ 32)).wr Reg.CCT_SNAP_NSAMP 0 (s.vn .cctN)).wrS Reg.CCT_SNAP_LAST 0 (s.v .cctLast)).irq 65

/-- The estimator's update; an interval in which the AC was halted joins the next one (R20, R268). -/
def gaugeUpdate (s : State) : State :=
  if ¬ s.on Reg.GAU_STATE_ACTIVE then s
  else if s.on Reg.DBG_STAT_ACHALTED then s.setV .gMissed 0 (s.v .gMissed + 1)
  else
    let s := ((s.cctSnapshot.count (s.v .gMissed + 1)).setV .gMissed 0 0).showGauge
    let s := if s.ureq < s.v .gU then s.wr Reg.GAU_STATE_LSUSP 0 1 else s
    (((s.anchors.relaxCheck).showGauge).healthWarns).requestCheck

/-- The figures of an insertion estimate at a voltage in µV (R267, R274). -/
def insertion (s : State) (uv ua : Int) : State :=
  let q := s.socCharge (s.ocvSoc uv)
  let s := [Var.gIn, .gOut, .gLoss, .a1Known, .a1soc, .a1q, .denyU].foldl (fun s x => s.setV x 0 0) (((s.setV .gStored 0 q).setV .gU 0 ua).setV .recStored 0 (q / mC))
  ((s.wrS Reg.GAU_LEDG_STORED0 0 (q / mC)).wr Reg.GAU_STATE_LASTANCH 0 4).setV .anchorAt 0 (s.now + 1)

/-- The voltage for an estimate made at once. -/
def vocAtOnce (s : State) : Int := s.vocNow.getD (s.vocUv (rdiv (s.v .vrvNow * 1000000) 4096))

/-- A published CAPR starts the estimator, stops it or sets the capacity anew (R267). -/
def newCapr (s : State) (old : Nat) : State :=
  let c := s.rd Reg.GAU_CFG_CAPR
  if c = old then s
  else if c = 0 then
    let s := [Reg.GAU_STATE_ACTIVE, Reg.GAU_STATE_SOC, Reg.GAU_STATE_UPCT, Reg.GAU_STATE_STORED, Reg.GAU_STATE_U, Reg.GAU_LEDG_IN, Reg.GAU_LEDG_OUT,
      Reg.GAU_LEDG_STORED0, Reg.GAU_LEDG_LOSS].foldl (fun s f => s.wr f 0 0) s
    [Var.gIn, .gOut, .gLoss, .gStored, .gU, .tRelax, .relaxDone].foldl (fun s x => s.setV x 0 0) s
  else if old = 0 then
    let s := (((s.wr Reg.GAU_STATE_ACTIVE 0 1).wr Reg.GAU_HLTH_CAP 0 c).wr Reg.GAU_HLTH_DCR 0 (s.rd Reg.GAU_CFG_DCRR)).setV .dcrFine 0 (s.rd Reg.GAU_CFG_DCRR * 65536)
    let s := ((s.setV .gAcc 0 (s.v .cctAcc)).setV .gMissed 0 0).wr Reg.GAU_STATE_INSF 0 1
    ((s.insertion s.vocAtOnce (s.anchorU s.vocAtOnce)).relaxCheck).showGauge
  else
    let s := ((s.wr Reg.GAU_HLTH_CAP 0 c).wr Reg.GAU_STATE_CAPV 0 0).wr Reg.GAU_HLTH_NLEARN 0 0
    (s.setV .gU 0 (max (s.v .gU) s.ureq)).showGauge

/-- A published table is checked: taken and saved, or refused (R273). -/
def newOcv (s : State) : State :=
  let p (n : Nat) : Nat × Nat := (s.rd Reg.GAU_OCV_OCV n, s.rd Reg.GAU_OCV_SOCP n)
  let ok := (p 0).2 == 0 && (p 31).2 == 0xFFFF && (List.range 31).all (fun n => decide ((p n).1 < (p (n + 1)).1) && decide ((p n).2 < (p (n + 1)).2))
  if ok then
    let s := ((List.range 32).foldl (fun s n => s.setV .ocvTab n ((p n).1 * 65536 + (p n).2 + 1)) s).wr Reg.GAU_STATE_OCVBAD 0 0
    s.queueSlot 74 ((List.range 32).flatMap (fun n => leBytes 4 ((p n).1 * 65536 + (p n).2)))
  else (s.wr Reg.GAU_STATE_OCVBAD 0 1).event 0x6019 2 []

/-- The state record restores the estimate; the modelled loss since the latest anchor is what the restored charge shows (R274, R281). A record whose A1SOC and A1Q are both 0 holds no anchor (log entry 81). -/
def restoreRecord (s : State) (b : List Byte) : State :=
  let at' (o n : Nat) : Nat := leNat ((b.drop o).take n)
  let fine (x : Int) : Int := x * mC
  let s := ((s.setV .gStored 0 (fine (sgn 32 (at' 0 4)))).setV .gU 0 (fine (at' 4 4))).setV .gIn 0 (fine (at' 8 4))
  let s := (s.setV .gOut 0 (fine (at' 12 4))).wr Reg.GAU_LEDG_STORED0 0 (at' 16 4)
  let s := (s.wr Reg.GAU_HLTH_CAP 0 (at' 24 2)).wr Reg.GAU_HLTH_DCR 0 (at' 26 2)
  let s := (s.setV .dcrFine 0 (at' 26 2 * 65536)).setV .gThru 0 (fine (at' 28 4) * 1000)
  let s := ((s.setV .a1soc 0 (at' 32 2)).setV .a1q 0 (sgn 32 (at' 36 4))).setOn .a1Known 0 (at' 32 2 != 0 || at' 36 4 != 0)
  let s := (s.wr Reg.GAU_HLTH_NLEARN 0 (at' 34 1)).wr Reg.GAU_HLTH_CAPREJ 0 (at' 35 1)
  let s := s.setV .gLoss 0 (s.v .gIn - s.v .gOut - fine (s.v .a1q) - (s.v .gStored - s.socCharge (s.v .a1soc)))
  (s.wrB Reg.GAU_STATE_CAPV 0 (bit (at' 40 1) 0)).wrB Reg.GAU_STATE_LSUSP 0 (bit (at' 40 1) 1)

/-- The start-up reconciliation with an insertion estimate at `voc` in mV, the mean that BOOT took; it is made before the Hamper first leaves ISOLATE (R274; log entry 81). -/
def reconcile (s : State) (mv : Nat) : State :=
  if s.on Reg.GAU_STATE_GAPF ∧ s.on Reg.GAU_STATE_ACTIVE ∧ ¬ s.vOn .hamLeft then
    let uv : Int := (mv : Int) * 1000
    let rst := s.rd Reg.SYS_BOOT_RSTCAUSE
    let rec? := (s.newestSlot 75).map (fun x => x.2.body)
    let relaxed := rst == 0 || rst == 6 || (match rec? with
      | some b => bit (leNat ((b.drop 40).take 1)) 2
      | none => false)
    let k : Int := if relaxed then 1 else 4
    let s := match rec? with
      | none =>
        let s := (s.wr Reg.GAU_HLTH_CAP 0 (s.rd Reg.GAU_CFG_CAPR)).wr Reg.GAU_STATE_CAPV 0 0
        ((s.insertion uv (k * s.anchorU uv)).wr Reg.GAU_STATE_INSF 0 1).event 0x601A 1 []
      | some b =>
        let s := (s.restoreRecord b).wr Reg.GAU_STATE_INSF 0 0
        let q := s.socCharge (s.ocvSoc uv)
        let ui := k * s.anchorU uv
        if ui + s.v .gU < ((q - s.v .gStored).natAbs : Int) then
          ((((s.setV .gStored 0 q).setV .gU 0 ui).wr Reg.GAU_STATE_REPLF 0 1).wr Reg.GAU_STATE_CAPV 0 0).event 0x6017 1 []
        else if ui < s.v .gU then (s.setV .gStored 0 q).setV .gU 0 ui
        else s
    ((s.wr Reg.GAU_STATE_GAPF 0 0).setV .recStored 0 (s.v .gStored / mC)).showGauge
  else s

/-- The rest reading at the mean of 256 results: a rest anchor, unless a full or an empty one qualifies with it and is more certain; one rest anchor is taken in a stay in ISOLATE (R271, R272, R280). -/
def restReading (s : State) (mv : Nat) : State :=
  if s.vn .relaxDone ≠ 0 ∧ s.rd Reg.HAM_CTL_AMODE = 0 then
    let uv := s.vocUv ((mv : Int) * 1000)
    let s := if s.vOn .restTaken ∨ ¬ s.on Reg.GAU_STATE_ACTIVE then s
      else match s.fullEmpty with
        | some x => if 2 * s.anchorU x.2 < s.anchorU uv then s.anchor x.1 x.2 else s.anchor 3 uv
        | none => s.anchor 3 uv
    (s.setV .relaxDone 0 2).showGauge
  else s

/-- RELAX has elapsed in isolation (R271, R280). -/
def relaxed (s : State) : State :=
  if s.vn .tRelax = 0 then s else ((s.upTo (s.vn .tRelax - 1)).setV .tRelax 0 0).setV .relaxDone 0 1

/-- The length of a rest window in 10 ms (R279). -/
def restLen (s : State) : Nat := (s.rd Reg.GAU_CFG_RELAX + 1) * 100

/-- The phase of the rest window changes, with its notice to the load (R237, R279). -/
def setRestPh (s : State) (ph : Nat) : State := if s.rd Reg.GAU_REST_PH = ph then s else (s.wr Reg.GAU_REST_PH 0 ph).restNotice ph

/-- A window is scheduled to start (R279). -/
def scheduleRest (s : State) (t : Nat) : State := (s.setRestPh 1).setV .tRestStart 0 (t + 1)

/-- A grant is withdrawn (R279). -/
def dropRestGrant (s : State) : State :=
  let s := if s.rd Reg.GAU_REST_PH = 1 then s.setRestPh 0 else s
  (((s.wr Reg.GAU_REST_GRANTED 0 0).wr Reg.GAU_REST_QONLY 0 0).setV .tRestStart 0 0).setV .tGrant 0 0

/-- The scheduled window starts: SMODE = ISOLATE is published alone (R280). -/
def restStart (s : State) : State :=
  if s.rd Reg.GAU_REST_PH = 1 then
    let s := if s.on Reg.GAU_REST_QONLY then s.upTo (s.vn .tRestStart - 1) else s
    let s := (((s.setRestPh 2).setV .smodeSave 0 (s.rd Reg.HAM_CTL_SMODE + 1)).wr Reg.HAM_CTL_SMODE 0 0).hamAtOnce
    let s := ((s.setV .tRestStart 0 0).setV .tGrant 0 0).setV .tRest 0 (s.now + s.restLen * 4000000 + 1)
    let s := ((s.setV .relaxDone 0 0).setV .tRelax 0 0).event 0x6012 0 []
    if s.mode = mStandby ∨ s.mode = mActive ∨ s.mode = mInter then s.relaxCheck else s.restAbort 5
  else s

/-- The window ends after its reading, or with no estimator to read for: the saved SMODE is published (R267, R280, R282). -/
def restEnd (s : State) : State :=
  if s.rd Reg.GAU_REST_PH = 2 ∧ (s.vn .relaxDone = 2 ∨ ¬ s.on Reg.GAU_STATE_ACTIVE) then
    let s := ((s.wr Reg.HAM_CTL_SMODE 0 (s.vn .smodeSave - 1)).hamAtOnce.setV .smodeSave 0 0).setV .tRest 0 0
    let s := (s.setRestPh 0).dropRestGrant
    (((s.wr Reg.GAU_REST_REQ 0 0).bump Reg.GAU_REST_NREST 0).event 0x6013 0 []).gaugeRecord
  else s

/-- A denial, or with the lapse flag a lapse (R279). -/
def refuseRest (s : State) (f : Fld) : State :=
  let s := ((s.wr f 0 1).bump Reg.GAU_REST_NDENY 0).wr Reg.GAU_REST_REQ 0 0
  ((s.wr Reg.GAU_STATE_LSUSP 0 1).setV .denyU 0 (s.v .gU + 1)).event 0x6011 1 (leBytes 4 (s.rd Reg.GAU_STATE_U))

/-- No suitable QUIET has come within RWWAIT (R279). -/
def restLapse (s : State) : State :=
  if s.on Reg.GAU_REST_QONLY ∧ s.rd Reg.GAU_REST_PH = 0 then ((s.upTo (s.vn .tGrant - 1)).dropRestGrant).refuseRest Reg.GAU_REST_LAPSF else s

/-- Grant now: the window starts within 10 ms (R279). -/
def grantNow (s : State) : State := if s.rd Reg.GAU_REST_PH = 2 then s else ((s.dropRestGrant).wr Reg.GAU_REST_GRANTED 0 1).scheduleRest (s.now + 4000000)

/-- Grant at quiet (R279). -/
def grantQuiet (s : State) : State :=
  if s.rd Reg.GAU_REST_PH = 2 then s
  else ((s.dropRestGrant.wr Reg.GAU_REST_GRANTED 0 1).wr Reg.GAU_REST_QONLY 0 1).setV .tGrant 0 (s.now + s.rd Reg.GAU_HCFG_RWWAIT * 24000000000 + 1)

/-- Deny: a running window is aborted, a grant withdrawn (R279, R280). -/
def denyRest (s : State) : State := ((s.restAbort 4).dropRestGrant).refuseRest Reg.GAU_REST_DENIED

/-- Cancel: a grant is withdrawn, a running window aborted (R279, R280). -/
def cancelRest (s : State) : State := if s.rd Reg.GAU_REST_PH = 2 then (s.restAbort 4).dropRestGrant else s.dropRestGrant

/-- A QUIET is stored, or withdrawn, and may schedule a window (R237, R279). -/
def quiet (s : State) (start qdur : Nat) : State :=
  let on := qdur != 0
  let s := ((s.wr Reg.CUE_QUIET_QDUR 0 qdur).wr Reg.CUE_QUIET_START 0 (if on then start else 0)).wrB Reg.CUE_QUIET_VALID 0 on
  if on then
    let s := s.irq 54
    if s.on Reg.GAU_REST_QONLY ∧ s.rd Reg.GAU_REST_PH = 0 ∧ s.restLen ≤ qdur then s.scheduleRest (s.now + start * 4000000) else s
  else if s.on Reg.GAU_REST_QONLY ∧ s.rd Reg.GAU_REST_PH = 1 then (s.setRestPh 0).setV .tRestStart 0 0 else s

/-- The 60 s timer of the state record: it looks at the movement since the timer before (R282). -/
def stateTimer (s : State) : State :=
  let st := s.v .gStored / mC
  (if s.capMc ≤ 1000 * ((st - s.v .recStored).natAbs : Int) then s.gaugeRecord else s).setV .recStored 0 st

/-- The ledger epoch ends (R269). -/
def clearLedger (s : State) : State :=
  let q := s.netCharge
  let s := [Var.gIn, .gOut, .gLoss].foldl (fun s x => s.setV x 0 0) (s.setV .a1q 0 (s.v .a1q - q))
  (s.wrS Reg.GAU_LEDG_STORED0 0 (s.v .gStored / mC)).showGauge

/-- CCT_CTL.EN changes: integration stops or restarts, with a record; after a stop U covers the whole capacity (R97, R277). -/
def cctEnableTo (s : State) (en : Bool) : State :=
  if s.on Reg.CCT_CTL_EN = en then s
  else
    let s := (s.wrB Reg.CCT_CTL_EN 0 en).event 0x60F0 1 (leBytes 1 (b2n en))
    let s := s.wrB Reg.GAU_STATE_CCTOFF 0 (!en)
    if en ∧ s.on Reg.GAU_STATE_ACTIVE then (s.setV .gU 0 (s.capMc * mC)).showGauge else s

end State

/-- GAUGE_UPDATE (R268). -/
def execGaugeUpdate (s : State) : Host.Outcome State Fault Refusal := act s State.gaugeUpdate

/-- STARTUP_RECONCILE (R274). -/
def execStartupReconcile (vocMv : Nat) (s : State) : Host.Outcome State Fault Refusal := act s (fun s => s.reconcile vocMv)

/-- RELAX_EXPIRY (R271). -/
def execRelaxExpiry (s : State) : Host.Outcome State Fault Refusal := act s State.relaxed

/-- REST_ANCHOR_READING (R271). -/
def execRestAnchorReading (vrvMv : Nat) (s : State) : Host.Outcome State Fault Refusal := act s (fun s => s.restReading vrvMv)

/-- REST_WINDOW_START (R280). -/
def execRestWindowStart (s : State) : Host.Outcome State Fault Refusal := act s State.restStart

/-- REST_WINDOW_END (R280). -/
def execRestWindowEnd (s : State) : Host.Outcome State Fault Refusal := act s State.restEnd

/-- REST_GRANT_LAPSE (R279). -/
def execRestGrantLapse (s : State) : Host.Outcome State Fault Refusal := act s State.restLapse

/-- STATE_RECORD_TIMER (R282). -/
def execStateRecordTimer (s : State) : Host.Outcome State Fault Refusal := act s State.stateTimer

end Sys2Proof.Machine
end

