-- ==== Sys2Proof/Machine/Cue.lean ====
section
/-!
DEFINITION. The Cue link: training, forward packets, forecasts, the return lane, link loss (R214 to R237).
-/

namespace Sys2Proof.Machine

/-- Link states (R220). -/
def linkOff : Nat := 0
def linkWait : Nat := 1
def linkDeskew : Nat := 2
def linkNegot : Nat := 3
def linkUp : Nat := 4
def linkListen : Nat := 5
def linkNover : Nat := 6

/-- One byte into CRC-8 of polynomial 0x07 (R215). -/
def crc8Byte (c b : Byte) : Byte := (List.range 8).foldl (fun c _ => if c.msb then (c <<< 1) ^^^ 0x07#8 else c <<< 1) (c ^^^ b)

/-- CRC-8 with initial value 0, no reflection and no final XOR (R215). -/
def crc8 (bs : List Byte) : Byte := bs.foldl crc8Byte 0#8

namespace State

/-- The state of the link (R220). -/
def link (s : State) : Nat := s.rd Reg.CUE_LINK_STATE

/-- A received packet is discarded: its counter, a NAK in UP, the record and the interrupt (R224, R435). -/
def cueDiscard (s : State) (f : Fld) (err : Nat) : State :=
  let s := if s.link = linkUp then (s.setV .nakDue 0 1).setV .nakVal 0 (err * 16 + s.vn .lastCueSeq) else s
  ((s.bump f 0).irq 51).event 0x5004 1 (leBytes 1 err)

/-- An accepted packet's SEQ is compared with the one before; the first after UP sets the base (R224). -/
def cueSeq (s : State) (q : Nat) : State :=
  let s := if s.vOn .cueSeqKnown ∧ q ≠ (s.vn .lastCueSeq + 1) % 16 then s.bump Reg.CUE_ERR_SEQERR 0 else s
  (s.setV .lastCueSeq 0 q).setV .cueSeqKnown 0 1

/-- A forward packet of a type that needs version `av`, with its field check: it acts, or is discarded whole (R216, R220, R224). -/
def cuePacket (s : State) (q av : Nat) (fmt : Bool) (f : State → State) : State :=
  if s.link < linkNegot then s
  else if s.link = linkNegot ∨ s.link = linkNover then s.cueDiscard Reg.CUE_ERR_FMTERR 4
  else if s.rd Reg.CUE_LINK_AV < av then s.cueDiscard Reg.CUE_ERR_TYPEERR 3
  else if !fmt then s.cueDiscard Reg.CUE_ERR_FMTERR 4
  else f (s.cueSeq q)

/-- A voltage command (R138, R139, R225). -/
def vcmd (s : State) (r code vid : Nat) : State :=
  if s.rd Reg.LE_VSRC r = 0 ∨ s.railState r = railDisabled ∨ s.railState r = railFaultOff then s.bump Reg.LE_CMDREJ r
  else if 3200 < code then (s.bump Reg.LE_CMDREJ r).event 0x5005 1 (leBytes 1 r ++ leBytes 2 code)
  else
    let c := (clamp (s.rd Reg.LE_VMIN r) (s.rd Reg.LE_VMAX r) code).toNat
    let s := if c = code then s else s.wr Reg.LE_CLAMPF r 1
    (s.setTarget r c).setV .lastVid r vid

/-- A slew command (R139, R225). -/
def cueSlewCmd (s : State) (r code : Nat) : State :=
  if s.rd Reg.LE_VSRC r = 0 then s.bump Reg.LE_CMDREJ r
  else
    let s := s.setV .cueSlew r code
    if s.railState r = railRegulate ∧ ¬ s.rampingDown r then s.slewRef r (s.railSlew r) else s

/-- The pre-position of the Hamper for an open window: its current and the tick it starts at (R255). -/
def preposition (s : State) (r lc0 dur : Nat) (di : Int) (ta : Nat) : State :=
  let vref := s.ref r / (volt / 32768)
  let den := 65535 * 4000 * 32768 * s.v .vibNow * 4096 * (s.rd Reg.HAM_SHAPE_ETA : Int)
  let x := rdiv ((lc0 : Int) * di * vref * 256 * 2 ^ 52) den
  let slim : Int := s.rd Reg.HAM_SHAPE_SLIM
  let tr := rdiv ((x.natAbs : Int) * 400000000) (2 ^ 28 * slim)
  let span : Int := (dur : Int) * 4000
  let y := if 0 < dur ∧ span < tr then rdiv (x * span) tr else x
  (s.setV .ipreS r y).setV .ipreFrom r (max (s.now : Int) ((ta : Int) - tr / 2) + 1)

/-- What PHM does with a positive forecast (R187, R190). -/
def forecastPhases (s : State) (r c : Nat) (di : Int) : State :=
  let iadd : Int := (s.rd Reg.PHM_SHED_IADD r : Int) * 8
  let n := (ceilDiv (s.irail r * 65535 + (c : Int) * di * 32) (iadd * 65535)).toNat
  let kept := s.nlive r - (if (s.departing r).isSome then 1 else 0)
  if 0 < di ∧ kept < n then s.reverse r (min n (s.complement r)) 3 else s

/-- A forecast is decoded and presented (R47, R141, R228 to R232, R280). -/
def fcstIn (s : State) (r fid : Nat) (di : Int) (lead lc dur t : Nat) : State :=
  let s := ((s.upTo t).interTrigger).capTrigger 0x04 r
  if s.railState r ≠ railRegulate ∨ s.rampingDown r then s.outcome r fid outDiscarded
  else
    let s := if s.arrived r false then s.closeWindow r outHit else s.closeWindow r outSuperseded
    let c := (rdiv ((lc : Int) * (s.rd Reg.CUE_SCORE r : Int)) 255).toNat
    let lead := max lead 20
    let ta := max (t + lead) s.now
    let pre := min (ta - s.now) (s.rd Reg.LE_PRETIME r * 40)
    let vp : Int := (s.rd Reg.LE_VPMAX r : Int) * 2 ^ 28
    let lift := clamp (-vp) vp (rdiv ((c : Int) * di * (s.rd Reg.LE_RDYN r : Int) * 2 ^ 28) (65535 * 16000))
    let late := max (rdiv ((s.rd Reg.CUE_FWIN_WINFRAC : Int) * lead) 256).toNat (s.rd Reg.CUE_FWIN_WINMIN * 40)
    let s := (((s.wr Reg.CUE_OPEN r 1).wr Reg.CUE_FID r fid).wrS Reg.CUE_ODI r di).wr Reg.CUE_OC r c
    let s := ((s.bump Reg.CUE_FCNT r).setV .fcTa r ta).setV .fcClose r (ta + late + 1)
    let s := ((s.setV .fcC r c).setV .fcDi r di).setV .fcItot r (s.itot r)
    let s := s.setV .fcWin r (s.rd Reg.CUE_FWIN_ARRF * 256 + s.rd Reg.CUE_FWIN_HITSH * 16 + s.rd Reg.CUE_FWIN_MISSH)
    let s := (((s.liftTo r (s.lift r) s.now).setV .fcPre r pre).setV .fcLift r (rdiv lift 1000)).setV .tFcRamp r (if s.rd Reg.LE_PRETIME r = 0 then 0 else ta - pre + 1)
    let s := (s.preposition r c dur di ta).forecastPhases r c di
    if s.on Reg.GAU_CFG_RWFAB then s.restAbort 2 else s

/-- A CANCEL (R230). -/
def cancelIn (s : State) (r fid t : Nat) : State :=
  let s := s.upTo t
  if s.on Reg.CUE_OPEN r ∧ s.rd Reg.CUE_FID r = fid then s.closeWindow r (if s.now < s.vn .fcTa r then outCancelled else outMiss) else s

/-- A STATE packet (R226). -/
def stateIn (s : State) (lp : Bool) : State :=
  if lp then
    let s := s.irq 53
    if s.on Reg.CUE_CTL_INTREQ ∧ s.mode = mActive ∧ ¬ s.on Reg.SYS_MODE_TRANS then s.startInter 0 0
    else (s.bump Reg.CUE_ERR_STREJ 0).event 0x5009 0 []
  else s

/-- Every open window ends as CLOSED (R230). -/
def closeAll (s : State) : State := (List.range 4).foldl (fun s r => s.closeWindow r outClosed) s

/-- A TRAIN packet: the agreed version, the queued reply with the versions of this moment, NOVER when there is none (R221). -/
def trainIn (s : State) (vmax vmin rails : Nat) : State :=
  if s.link < linkNegot then s
  else if vmax = 0 ∨ 15 < vmax ∨ vmin = 0 ∨ vmax < vmin ∨ 15 < rails then s.cueDiscard Reg.CUE_ERR_FMTERR 4
  else
    let s := ((s.wr Reg.CUE_LINK_LDMAX 0 vmax).wr Reg.CUE_LINK_LDMIN 0 vmin).wr Reg.CUE_LINK_LRAILS 0 rails
    let m := min vmax (s.rd Reg.CUE_CTL_CUEVMAX)
    let ok := decide (vmin ≤ m) && decide (s.rd Reg.CUE_CTL_CUEVMIN ≤ m)
    let av := if ok then m else 0
    let s := if av = s.rd Reg.CUE_LINK_AV then s
      else (List.range 4).foldl (fun s r => s.wr Reg.CUE_SCORE r 65535) ((if s.link = linkUp ∨ s.link = linkListen then s.closeAll else s).wr Reg.CUE_LINK_AV 0 av)
    let s := (s.setV .trainDue 0 1).setV .trainVal 0 (s.rd Reg.CUE_CTL_CUEVMAX * 16 + s.rd Reg.CUE_CTL_CUEVMIN)
    if ok then s
    else ((s.wr Reg.CUE_LINK_STATE 0 linkNover).wr Reg.CUE_LINK_NOVERF 0 1).event 0x5003 2 (leBytes 1 vmax ++ leBytes 1 vmin)

/-- The link comes up (R221 to R223, R233). -/
def linkUpNow (s : State) : State :=
  let s := ((s.wr Reg.CUE_LINK_STATE 0 (if s.mode = mInter then linkListen else linkUp)).irq 48).event 0x5001 0 (leBytes 1 (s.rd Reg.CUE_LINK_AV))
  let s := ((s.setV .cueSeqKnown 0 0).setV .statusDue 0 2).cueTimers
  (List.range 4).foldl (fun s r => if s.rd Reg.CUE_CAP r = capNone then s else s.setOn .throttleDue r true) s

/-- The link is lost (R223). -/
def linkLost (s : State) (cause : Nat) : State :=
  if s.link < linkDeskew then s
  else
    let s := (List.range 4).foldl (fun s r => if s.arrived r false then s.closeWindow r outHit else s.closeWindow r outClosed) s
    let s := ((s.wr Reg.CUE_LINK_STATE 0 linkWait).wr Reg.CUE_LINK_LOSSF 0 1).bump Reg.CUE_LINK_RETRAIN 0
    (s.event 0x5002 2 (leBytes 1 cause)).alertEvent 0x5002

/-- A return packet starts: header with the sender's SEQ, payload, CRC-8; SEQ advances but for TRAIN (R215). -/
def sendCue (s : State) (type : Nat) (pl : List Byte) : State :=
  let q := s.vn .cueTxSeq
  let b := leBytes 1 (type * 16 + q) ++ pl
  let s : State := { s with cueOut := b ++ [crc8 b] }
  if type = 0xF then s else s.setV .cueTxSeq 0 ((q + 1) % 16)

/-- TELEM of a rail (R218). -/
def telemBody (s : State) (r : Nat) : List Byte :=
  leBytes 1 (r * 64 + s.railState r * 8 + s.rd Reg.LE_PG r * 4 + s.rd Reg.PHM_LEDG_DERATE r * 2) ++ leBytes 2 (s.rd Reg.VSC_RES_VAL r) ++
    leBytes 2 (code 16 (satS 16 (rdiv (s.itot r) 32))) ++ leBytes 1 (s.nlive r) ++ leBytes 1 (s.vn .lastVid r)

/-- STATUS (R218). -/
def statusBody (s : State) : List Byte :=
  leBytes 1 (s.rd Reg.CUE_LINK_AV * 16 + s.mode) ++ leBytes 1 (s.rd Reg.CUE_ERR_CRCERR) ++ leBytes 1 (s.rd Reg.CUE_ERR_SEQERR) ++
    leBytes 1 (listMask ((List.range 4).filter (fun r => s.rd Reg.CUE_CAP r != capNone))) ++ [0#8]

/-- REST: a phase with its remaining or planned length (R218, R279). -/
def restBody (s : State) (ph : Nat) : List Byte :=
  leBytes 1 ph ++ leBytes 2 (if ph = 1 then s.restLen else if ph = 2 then min 65535 (s.left (s.vn .tRest) 4000000) else 0)

/-- The rails in their round, from the one whose telemetry comes next (R233). -/
def railsFromNext (s : State) : List Nat := (List.range 4).map (fun i => (s.vn .telemNext + i) % 4)

/-- The return lane frees: the highest-ranked pending packet whose type the agreed version has starts; in LISTEN only THROTTLE and TRAIN (R218, R219, R234). -/
def returnStart (s : State) : State :=
  let up := s.link == linkUp
  let av := s.rd Reg.CUE_LINK_AV
  let thr := if (up || s.link == linkListen) && decide (2 ≤ av) then (List.range 4).find? (fun r => s.vOn .throttleDue r) else none
  let s := (List.range 4).foldl (fun s r => if s.railState r = railDisabled then s.setV .telemDue r 0 else s) s
  let tel := s.railsFromNext.find? (fun r => s.vOn .telemDue r)
  match thr with
  | some r =>
    (s.setV .throttleDue r 0).sendCue 2 (leBytes 1 (r * 64 + s.rd Reg.CUE_REASON r * 8) ++ leBytes 2 (s.rd Reg.CUE_CAP r))
  | none =>
    if s.vOn .trainDue ∧ linkNegot ≤ s.link then
      let s := (s.setV .trainDue 0 0).sendCue 0xF (leBytes 1 (s.vn .trainVal / 16) ++ leBytes 1 (s.vn .trainVal % 16) ++ [0#8])
      if (s.link = linkNegot ∨ s.link = linkNover) ∧ s.rd Reg.CUE_LINK_AV ≠ 0 then s.linkUpNow else s
    else if !up then s
    else if s.vn .statusDue = 2 then (s.setV .statusDue 0 0).sendCue 3 s.statusBody
    else if s.vOn .nakDue then (s.setV .nakDue 0 0).sendCue 6 (leBytes 1 (s.vn .nakVal))
    else
      match (if av < 2 then [] else s.facks) with
      | x :: rest => { s with facks := rest }.sendCue 5 (leBytes 1 (x.rail * 64 + x.fid * 4) ++ leBytes 1 x.out ++ leBytes 1 x.score)
      | [] =>
        if s.vOn .echoDue then (s.setV .echoDue 0 0).sendCue 4 (leBytes 1 (s.vn .echoVal))
        else if s.vOn .restDue ∧ 3 ≤ av then (s.setV .restDue 0 (s.vn .restDue / 4)).sendCue 7 (s.restBody (s.vn .restDue % 4 - 1))
        else
          match tel with
          | some r => (s.setV .telemDue r 0).sendCue 1 (s.telemBody r)
          | none => if s.vn .statusDue = 1 then (s.setV .statusDue 0 0).sendCue 3 s.statusBody else s

/-- The telemetry interval ends: the next rail outside DISABLED is due, and the next interval is TELPER over their number (R233; log entry 79). -/
def telemTick (s : State) : State :=
  match s.railsFromNext.filter (fun r => s.railState r != railDisabled) with
  | r :: rest =>
    if s.link ≠ linkUp ∨ s.rd Reg.CUE_CTL_TELPER = 0 then s.setV .tTelem 0 0
    else
      let s := s.upTo (s.vn .tTelem - 1)
      ((s.setV .telemDue r 1).setV .telemNext 0 ((r + 1) % 4)).setV .tTelem 0 (s.now + s.rd Reg.CUE_CTL_TELPER * 400 / (rest.length + 1) + 1)
  | [] => s.setV .tTelem 0 0

/-- STATPER has elapsed in UP: STATUS is due, and the next interval runs (R233). -/
def statusTick (s : State) : State :=
  if s.link = linkUp then
    let s := s.upTo (s.vn .tStatus - 1)
    (s.setV .statusDue 0 (max 1 (s.v .statusDue))).setV .tStatus 0 (s.now + s.rd Reg.CUE_CTL_STATPER * 40000 + 1)
  else s

/-- THRREP has elapsed: THROTTLE is due again for every rail with a capacity in force (R236). -/
def throttleTick (s : State) : State :=
  if s.vn .tThr = 0 then s
  else
    let s := (s.upTo (s.vn .tThr - 1)).setV .tThr 0 0
    let s := s.throttleTimer
    if s.rd Reg.CUE_LINK_AV < 2 then s else (List.range 4).foldl (fun s r => if s.rd Reg.CUE_CAP r = capNone then s else s.setOn .throttleDue r true) s

end State

/-- CUE_CLOCK_QUALIFIED (R220). -/
def execCueClockQualified (s : State) : Host.Outcome State Fault Refusal :=
  act s (fun s => if s.link = linkWait then s.wr Reg.CUE_LINK_STATE 0 linkDeskew else s)

/-- CUE_DESKEW_DONE (R220). -/
def execCueDeskewDone (s : State) : Host.Outcome State Fault Refusal :=
  act s (fun s => if s.link = linkDeskew then s.wr Reg.CUE_LINK_STATE 0 linkNegot else s)

/-- CUE_TRAIN (R221). -/
def execCueTrain (vmax vmin rails : Byte) (s : State) : Host.Outcome State Fault Refusal := act s (fun s => s.trainIn vmax.toNat vmin.toNat rails.toNat)

/-- CUE_VCMD (R225). -/
def execCueVcmd (seq : BitVec 4) (rail : BitVec 2) (code : BitVec 12) (vid : Byte) (s : State) : Host.Outcome State Fault Refusal :=
  act s (fun s => s.cuePacket seq.toNat 1 true (fun s => s.vcmd rail.toNat code.toNat vid.toNat))

/-- CUE_SLEW (R225). -/
def execCueSlew (seq : BitVec 4) (rail : BitVec 2) (slew : BitVec 10) (s : State) : Host.Outcome State Fault Refusal :=
  act s (fun s => s.cuePacket seq.toNat 1 (slew != 0 && decide (slew.toNat ≤ 1000)) (fun s => s.cueSlewCmd rail.toNat slew.toNat))

/-- CUE_FCST (R228). -/
def execCueFcst (seq : BitVec 4) (rail : BitVec 2) (fid : BitVec 4) (di lead : BitVec 16) (lc dur : Byte) (t : Nat) (s : State) : Host.Outcome State Fault Refusal :=
  act s (fun s => s.cuePacket seq.toNat 2 (di != 0 && decide (lead.toNat ≤ 40000) && (dur == 0 || decide (3 ≤ s.rd Reg.CUE_LINK_AV)))
    (fun s => s.fcstIn rail.toNat fid.toNat di.toInt lead.toNat lc.toNat dur.toNat t))

/-- CUE_CANCEL (R230). -/
def execCueCancel (seq : BitVec 4) (rail : BitVec 2) (fid : BitVec 4) (t : Nat) (s : State) : Host.Outcome State Fault Refusal :=
  act s (fun s => s.cuePacket seq.toNat 2 true (fun s => s.cancelIn rail.toNat fid.toNat t))

/-- CUE_STATE (R226). -/
def execCueState (seq : BitVec 4) (lp : Bool) (s : State) : Host.Outcome State Fault Refusal := act s (fun s => s.cuePacket seq.toNat 1 true (fun s => s.stateIn lp))

/-- CUE_QUIET (R237). -/
def execCueQuiet (seq : BitVec 4) (start : Byte) (qdur : BitVec 16) (s : State) : Host.Outcome State Fault Refusal :=
  act s (fun s => s.cuePacket seq.toNat 3 true (fun s => s.quiet start.toNat qdur.toNat))

/-- CUE_PING (R227); in LISTEN no ECHO is sent (R234). -/
def execCuePing (seq : BitVec 4) (token : Byte) (s : State) : Host.Outcome State Fault Refusal :=
  act s (fun s => s.cuePacket seq.toNat 1 true (fun s => if s.link = linkUp then (s.setV .echoDue 0 1).setV .echoVal 0 token.toNat else s))

/-- CUE_BAD_PACKET (R224). -/
def execCueBadPacket (err : CueErr) (s : State) : Host.Outcome State Fault Refusal :=
  act s (fun s => if s.link < linkNegot then s else
    match err with
    | .crc => s.cueDiscard Reg.CUE_ERR_CRCERR 1
    | .framing => s.cueDiscard Reg.CUE_ERR_FRMERR 2
    | .type => s.cueDiscard Reg.CUE_ERR_TYPEERR 3
    | .format => s.cueDiscard Reg.CUE_ERR_FMTERR 4)

/-- CUE_CODE_VIOLATION (R224). -/
def execCueCodeViolation (s : State) : Host.Outcome State Fault Refusal :=
  act s (fun s => if s.link < linkDeskew then s else s.bump Reg.CUE_ERR_CVERR 0)

/-- CUE_LINK_LOSS (R223). -/
def execCueLinkLoss (why : CueLoss) (s : State) : Host.Outcome State Fault Refusal :=
  act s (fun s => s.linkLost (match why with
    | .noClock => 1
    | .frequency => 2
    | .laneViolations => 3
    | .errorRate => 4))

/-- RETURN_PACKET_START (R219). -/
def execReturnPacketStart (s : State) : Host.Outcome State Fault Refusal := act s State.returnStart

/-- TELEM_TIMER (R233). -/
def execTelemTimer (s : State) : Host.Outcome State Fault Refusal := act s State.telemTick

/-- STATUS_TIMER (R233). -/
def execStatusTimer (s : State) : Host.Outcome State Fault Refusal :=
  act s State.statusTick

/-- THROTTLE_REPEAT (R236). -/
def execThrottleRepeat (s : State) : Host.Outcome State Fault Refusal := act s State.throttleTick

end Sys2Proof.Machine
end

