-- ==== Sys2Proof/Machine/Mapping.lean ====
section
/-!
DEFINITION. What PHM makes of a rail's phase set: slots, roles and interleave (R178, R181, R182), and the safe-voltage rail of MINIMAL that is set up with it (R57).
-/

namespace Sys2Proof.Machine

/-- The lag of slot `k` of `m` in ticks of a period of `n`, with the rail's offset (R182). -/
def lagTicks (m rofs n k : Nat) : Int := rdiv ((k : Int) * n) (max 1 m) + rdiv ((rofs : Int) * n) 256

/-- PHSV of a phase: the lag of its slot behind the rail's reference, or behind its chain source (R120, R182). -/
def phsvAt (m rofs n k : Nat) (src : Option Nat) : Nat :=
  if n = 0 then 0
  else (((n : Int) - (lagTicks m rofs n k - (match src with
    | some j => lagTicks m rofs n j
    | none => 0))) % n).toNat

namespace State

/-- The phases of a rail that take slots, rising (R182). -/
def slotPhases (s : State) (r : Nat) : List Nat := (s.assigned r).filter (fun c => !s.on Reg.PHM_USTUDY c)

/-- The role that the map gives a phase: a failed mark stays; an active or parked phase keeps its role (R178, R181). -/
def mapRole (s : State) (c : Nat) : State :=
  let role := s.rd Reg.PHM_ROLE c
  if role = 4 then s
  else if s.on Reg.PHM_USTUDY c then (s.setRole c 3).wr Reg.PHM_SLOT c 0x3F
  else if role = 1 ∨ role = 2 then s else s.setRole c 2

/-- Slots, dither offsets and roles of a rail after a PHASE_MAP (R107, R178, R182). -/
def mapRail (s : State) (r : Nat) : State :=
  let l := s.slotPhases r
  let s := (l.zipIdx).foldl (fun s x => (s.wr Reg.PHM_SLOT x.1 x.2).wr Reg.PWM_DOFS x.1 (x.2 % 16)) (s.setV .slotM r l.length)
  (s.assigned r).foldl (fun s c => s.mapRole c) s

/-- A phase that no rail holds: ROLE 5 while its pin is borrowed, else 0; a failed mark stays (R178, R181). -/
def releasePhase (s : State) (c : Nat) : State :=
  if s.on Reg.PHM_ASSIGN c ∨ s.rd Reg.PHM_ROLE c = 4 then s
  else ((s.setRole c (if s.borrowed c then 5 else 0)).wr Reg.PHM_SLOT c 0).wrB Reg.PHM_DEPART c false

/-- The safe-voltage rail: Rail A on P00 to P03, tri-level, 500 kHz, load line 0 (R57). The lead runs free and the others chain (R122). -/
def safeRail (s : State) (bin : Nat) : State :=
  if bin = 0 then s
  else
    let s := (List.range 4).foldl (fun s c =>
      let s := (((s.wr Reg.PHM_ASSIGN c 1).wr Reg.PHM_RAIL c 0).wr Reg.PWM_CEN c 1).wr Reg.PWM_PRD c 800
      ((s.wr Reg.PWM_SYNCSEL c (if c = 0 then 0 else 2)).wr Reg.PWM_PHSV c (phsvAt 4 (s.rd Reg.PHM_BAL_ROFS 0) 1600 c (if c = 0 then none else some (c - 1)))).wr Reg.CSA_EN c 1) s
    let s := (s.mapRail 0).wr Reg.LE_VTGT 0 (700 + 100 * bin)
    [0x08, 0x38].foldl (fun s a => (s.putWord (bankA + 4 * a) 0).putWord (bankA + bankSize + 4 * a) 0) s

end State

end Sys2Proof.Machine
end

