-- ==== Sys2Proof/Machine/Publish.lean ====
section
/-!
DEFINITION. Publication: the staged values are handed to the hardware, and what a changed value does in its block (R6, R8, R71, R73, R115, R148, R181, R220, R235, R267, R273, R280, R294, R315, R318, R319, R372).
-/

namespace Sys2Proof.Machine

/-- A key's object, and the low bit of its field. -/
def keyObj (k : Nat) : Nat := k / 131072
def keyLo (k : Nat) : Nat := k / 256 % 32

/-- The key names a field that takes effect at a boundary: the PWM, CSA, LE and CUE_THR frames, shedding and balance, rail protection, the comparators of channels and rails, IBINMAX, the dead-time sets, and the converter schedules (R6, R12, R84, R115). -/
def boundKey (k : Nat) : Bool :=
  let o := keyObj k
  [0x01C0, 0x02C0, 0x06C0, 0x0714, 0x0718, 0x10C0, 0x0804, 0x0300].contains o || State.dtKey k || (o == 0x05C0 && decide (k % 256 < 42)) || (o == 0x07C0 && keyLo k == 8)

namespace State

/-- A rail with a running lead carrier has period boundaries (R104, R115); index 5 stands for the converters, whose cycles run while one of them is sound (R84). -/
def hasBoundary (s : State) (r : Nat) : Bool :=
  if r = 5 then !(s.on Reg.VSC_STATUS_VABAD && s.on Reg.VSC_STATUS_VBBAD)
  else match s.lead r with
    | some c => s.on Reg.PWM_CEN c
    | none => false

/-- The rail whose boundary a published value waits for; none where no rail holds its channel (log entry 55). -/
def keyRail (s : State) (k : Nat) : Option Nat :=
  let o := keyObj k
  let i := k % 256
  if o = 0x0300 then some 5
  else if o = 0x0804 then some (k / 8192 % 16 * 2 + keyLo k / 16)
  else if o = 0x01C0 ∨ o = 0x02C0 ∨ o = 0x07C0 ∨ (o = 0x05C0 ∧ i < 34) then s.railOf i
  else if o = 0x05C0 then some ((i - 34) % 4)
  else some i

/-- A dead-time field of set `k % 256` is published: running channels of the group use the old value until the boundary of their rail, or without one their own reload, arms the new (R109, R115). -/
def enqueueDt (s : State) (k x : Nat) : State :=
  let cs := (if k % 256 < 8 then List.range 32 else [32, 33]).filter (fun c => s.on Reg.PWM_CEN c)
  let old := match fldOfKey k with
    | some f => s.rd f (k % 256)
    | none => 0
  let s : State := match heldVar k with
    | some y => cs.foldl (fun s c => if s.vOn y (k % 256 * 64 + c) then s else s.setV y (k % 256 * 64 + c) (old + 1)) s
    | none => s
  let s := s.putKey k x
  let rs := (List.range 5).filter (fun r => s.hasBoundary r && (decide (r = 4) == decide (8 ≤ k % 256)))
  let own := cs.filter (fun c => match s.railOf c with
    | some r => !s.hasBoundary r
    | none => true)
  { s with pubq := s.pubq ++ rs.map (fun r => ⟨r, k, x⟩), armed := s.armed ++ own.map (fun c => (c, k, x)) }

/-- A published value that takes effect at a boundary waits for that of its rail; a PWM value of a channel with no rail waits for the channel's reload, any other is in force at once (R6, R115). -/
def enqueue (s : State) (k x : Nat) : State :=
  if dtKey k then s.enqueueDt k x
  else match s.keyRail k with
    | some r => { s with pubq := s.pubq ++ [⟨r, k, x⟩] }
    | none => if keyObj k = 0x01C0 then { s with armed := s.armed ++ [(k % 256, k, x)] } else s.putKey k x

/-- Rails and channels whose carrier does not run have no boundary and no reload to wait for. -/
def applyIdle (s : State) : State :=
  let idle := (List.range 34).filter (fun c => !s.on Reg.PWM_CEN c)
  let s := (List.range 6).foldl (fun s r => if s.hasBoundary r then s else s.boundary r) s
  idle.foldl (fun s c => s.applyArmed c) s

/-! ### The phase set -/

/-- A failed phase that the map clears has no role until the map gives it one (R181). -/
def clearMarks (s : State) : State :=
  let l := (List.range 32).filter (fun c => s.vOn .clrStaged c)
  let s := l.foldl (fun s c => (s.setV .clrStaged c 0).setRole c 0) s
  if l.isEmpty then s else s.queueSlot 73 s.failedBody

/-- A phase of a rail that keeps its map is newly named an understudy, or no longer (R178, R182). -/
def renameUstudy (o s : State) (c : Nat) : State :=
  match s.railOf c with
  | none => s
  | some r =>
    if s.vOn .mapStaged r ∨ s.rd Reg.PHM_ROLE c = 4 ∨ s.on Reg.PHM_USTUDY c = o.on Reg.PHM_USTUDY c ∧ o.on Reg.PHM_ASSIGN c then s
    else if s.on Reg.PHM_USTUDY c then (s.setRole c 3).wr Reg.PHM_SLOT c 0x3F
    else (s.mapRole c).wr Reg.PHM_SLOT c 0

/-- A derate ends where the map leaves no failed phase's place empty (R195). -/
def endDerate (s : State) (r : Nat) : State :=
  let failed := (s.assigned r).any (fun c => s.rd Reg.PHM_ROLE c == 4 && s.rd Reg.PHM_SLOT c != 0x3F)
  if s.on Reg.PHM_LEDG_DERATE r ∧ ¬ failed then ((s.wr Reg.PHM_LEDG_DERATE r 0).irq 42).dropCap r 1 else s

/-- The published phase set: roles, slots, the released phases, the failed marks (R178, R181, R182, R195); `o` is the state before. -/
def takeMap (o s : State) : State :=
  let s := s.clearMarks
  let s := (List.range 32).foldl (fun s c => renameUstudy o s c) s
  let s := (List.range 4).foldl (fun s r => if s.vOn .mapStaged r then (s.assigned r).foldl (fun s c => s.dropHeld c) (((s.mapRail r).endDerate r).setV .mapStaged r 0) else s) s
  (List.range 32).foldl (fun s c => s.releasePhase c) s

/-- The channel is published live (R112): its carrier runs and a rail holds it. -/
def livePublished (s : State) (c : Nat) : Bool := s.published Reg.PWM_CEN c == 1 && s.on Reg.PHM_ASSIGN c

/-- The pin of an odd channel goes to the complementary channel below it, or returns (R112). -/
def lendPin (s : State) (n : Nat) : State :=
  let lent := s.published Reg.PWM_OUTM n == 1
  if lent == s.on Reg.PWM_PINLOST (n + 1) then s
  else
    let s := s.wrB Reg.PWM_PINLOST (n + 1) lent
    let s := if lent then s.irq 11 else s
    if s.on Reg.PHM_ASSIGN (n + 1) ∨ s.rd Reg.PHM_ROLE (n + 1) = 4 then s else s.setRole (n + 1) (if lent then 5 else 0)

/-- Once both users of an odd pin stand published live, whichever came last, the arbiter gives it to the lower channel and records the loss (R112, R319, R320, R323). -/
def pairLoss (s : State) (n : Nat) : State :=
  let both := s.published Reg.PWM_OUTM n == 1 && s.livePublished n && s.livePublished (n + 1)
  if both == s.vOn .pairLive n then s
  else
    let s := s.setOn .pairLive n both
    if both then
      let s := ((s.bump Reg.PROT_ARB_LOSSCNT 0).wr Reg.PROT_ARB_RES 0 1).wr Reg.PROT_ARB_WINNER 0 n
      ((s.wr Reg.PROT_ARB_LOSER 0 (n + 1)).wr Reg.PROT_ARB_ARBF 0 1).event 0x3010 1 (leBytes 1 1 ++ leBytes 1 n ++ leBytes 1 (n + 1))
    else s

/-! ### What a changed value does in its block -/

/-- A housekeeping input: a new WEIGHT clears VALID; a sensor newly given a TYPE starts its thresholds (R71, R94, R326). -/
def newHka (o s : State) (i : Nat) : State :=
  let s : State := if s.rd Reg.HKA_WEIGHT i = o.rd Reg.HKA_WEIGHT i then s else { s.wr Reg.HKA_VALID i 0 with hkaHist := kvErase i s.hkaHist }
  if 1 ≤ i ∧ i ≤ 8 ∧ s.rd Reg.HKA_TYPE i ≠ o.rd Reg.HKA_TYPE i then
    let b := s.rd Reg.HKA_TYPE i != 0
    let s := ((s.wrB Reg.THM_SDA i b).wrB Reg.THM_THRA i b).wr Reg.THM_WARNA i 0
    (s.setOn .thmStartSd i b).setOn .thmStartThr i b
  else s

/-- CUEEN starts and stops the link (R220). -/
def newCueen (o s : State) : State :=
  if s.on Reg.CUE_CTL_CUEEN = o.on Reg.CUE_CTL_CUEEN then s
  else if s.on Reg.CUE_CTL_CUEEN then s.cueFollows s.mode
  else if s.link = linkOff then s else s.closeAll.wr Reg.CUE_LINK_STATE 0 linkOff

/-- PREF runs free when SYNCIM leaves the lock (R124). -/
def newSyncim (o s : State) : State :=
  if s.rd Reg.PWM_REF_SYNCIM = o.rd Reg.PWM_REF_SYNCIM then s
  else
    let s := (s.wr Reg.PWM_SYNCST_LOCK 0 0).wr Reg.PWM_SYNCST_SLEWING 0 0
    [Var.prefHalf, .prefBase, .synciLast, .synciM, .synciValid, .synciIn, .synciErr].foldl (fun s x => s.setV x 0 0) s

/-- A field was staged when the publication began. -/
def wasStaged (o : State) (f : Fld) (i : Nat := 0) : Bool := (kvFind (f.key i) o.staged).isSome

/-- What the published values do, beside being in force; `o` is the state before the publication. -/
def afterPublish (o s : State) : State :=
  let s := took o s
  let s := if o.wasStaged Reg.HAM_IB_VLOSS then s.wr Reg.CMP_DAC 42 ((s.rd Reg.HAM_IB_VLOSS + 8) / 16) else s
  let s := (List.range 40).foldl (fun s i => newHka o s i) s
  let s := newSyncim o (newCueen o s)
  let s := if o.wasStaged Reg.HAM_CURT_GAP ∨ o.wasStaged Reg.HAM_CURT_ORDER then s.newCurt else s
  let s := s.newCapr (o.rd Reg.GAU_CFG_CAPR)
  let s := if (List.range 32).any (fun n => o.wasStaged Reg.GAU_OCV_OCV n || o.wasStaged Reg.GAU_OCV_SOCP n) then s.newOcv else s
  let s := if o.wasStaged Reg.HAM_CTL_SMODE then (s.restAbort 3).hamAtOnce else s
  let r := s.rd Reg.IDENT_CFG_RAIL
  let s := if s.published Reg.LE_LAW r ≠ o.published Reg.LE_LAW r then s.wr Reg.IDENT_STAT_PROPV 0 0 else s
  let s := (List.range 16).foldl (fun s k => (s.lendPin (2 * k)).pairLoss (2 * k)) s
  if o.staged.any (fun x => keyObj x.1 == 0x0F00) then s.event 0x4007 0 [] else s

/-! ### The publication -/

/-- A staged RAIL_ON or RAIL_OFF is published: it waits for its rail's boundary (R143, R145, R395). -/
def publishRail (s : State) (r : Nat) : State :=
  if s.vn .onStaged r = 0 then s else (s.setV .onPub r (s.v .onStaged r)).setV .onStaged r 0

/-- Every staged value is handed to the hardware as one set (R372, R380). -/
def publish (o : State) : State :=
  let s : State := { o with staged := [] }
  let s := s.wr Reg.SYS_COMMIT_PUBSEQ 0 (s.rd Reg.SYS_COMMIT_PUBSEQ + 1)
  let s := (o.staged.filter (fun x => !boundKey x.1)).foldl (fun s x => s.putKey x.1 x.2) s
  let s := takeMap o s
  let s := ((o.staged.filter (fun x => boundKey x.1)).foldl (fun s x => s.enqueue x.1 x.2) s).applyIdle
  let s := (List.range 4).foldl (fun s r => s.publishRail r) s.publishSwap
  let s := afterPublish o s
  (List.range 4).foldl (fun s r => if s.hasBoundary r then s else s.railTurn r) s

end State

end Sys2Proof.Machine
end

