-- ==== Sys2Proof/Machine/Stages.lean ====
section
/-!
DEFINITION. TWX and the smart power stages: host transactions, discovery and profiles, telemetry (R412 to R430).
-/

namespace Sys2Proof.Machine

/-- STAT codes of TWX_HXFR (R428). -/
def hxRunning : Nat := 2
def hxDone : Nat := 3
def hxNack : Nat := 4
def hxTimeout : Nat := 5
def hxArb : Nat := 6
def hxStuck : Nat := 7

/-- A stage's outcome (R418). -/
def stAbsent : Nat := 1
def stMatched : Nat := 2
def stGeneric : Nat := 3
def stRefused : Nat := 4

/-- What discovery makes of one probe: outcome, reason, telemetry version, IRATE, GAIN, TONMIN (R418, R419). -/
structure StageFound where
  out : Nat
  rsn : Nat
  tv : Nat
  irate : Nat
  gain : Nat
  tonmin : Nat

/-- The highest telemetry version from 1 to 3 set in a mask, 0 for none (R419). -/
def bestTv (m : Nat) : Nat := if bit m 2 then 3 else if bit m 1 then 2 else if bit m 0 then 1 else 0

/-- The outcome of a probe of instance `n` (R417 to R419). -/
def judgeStage (n : Nat) (x : StageProbe) : StageFound :=
  let b (o k : Nat) : Nat := leNat ((x.block.drop o).take k)
  let refused (r : Nat) : StageFound := ⟨stRefused, r, 0, 0, 0, 0⟩
  if ¬ x.acked then ⟨stAbsent, 0, 0, 0, 0, 0⟩
  else if x.block.length ≠ 16 ∨ (crc8 (x.block.take 15)).toNat ≠ b 15 1 then refused 1
  else if b 0 1 ≠ 1 then refused 2
  else if ¬ bit (b 7 1) (if n < 32 then 0 else 1) then refused 3
  else
    let prof := Config.stageProfile (b 1 2) (b 3 2) (b 5 1)
    let (ir, ga, tm, mask) := prof.getD (b 8 1, b 9 2, b 11 1, b 6 1 % 2)
    let tv := bestTv mask
    if tv = 0 then refused 4
    else if x.readback.toNat ≠ tv then refused 5
    else if prof.isNone ∧ (ir = 0 ∨ ga = 0) then refused 6
    else ⟨if prof.isSome then stMatched else stGeneric, 0, tv, ir, ga, tm⟩

/-- A width leaves room for the pulse floor: Wmax is at least F (R105, R109). -/
def dtFits (prd dtr dtf minp minoff : Nat) : Bool := decide ((16 * dtr + 256 * minp : Int) ≤ 512 * prd - 256 * minoff - 32 * dtf)

namespace State

/-- The stage manager polls: some stage was found, and TPOLL is not 0 (R422). -/
def polls (s : State) : Bool :=
  s.rd Reg.TWX_CTL_TPOLL != 0 && (List.range 34).any (fun n => s.rd Reg.STAGE_OUT n == stMatched || s.rd Reg.STAGE_OUT n == stGeneric)

/-- A transaction may run: a host's, discovery's, or a poll's. -/
def twxRuns (s : State) : Bool := s.rd Reg.TWX_HXFR_STAT == hxRunning || s.on Reg.TWX_STAT_DISC || s.polls

/-- The stage that the host transaction's address names (R416, R417). -/
def hxStage (s : State) : Option Nat :=
  let a := s.rd Reg.TWX_HXFR_TADDR
  let b := s.rd Reg.TWX_CTL_STBASE
  if b ≤ a ∧ a < b + 34 then some (a - b) else none

/-- The running transaction ends: a host's shows its outcome, a failure counts for its stage, source 85 rises, and a waiting discovery begins (R416, R421, R430). -/
def endTransaction (s : State) (stat : Nat) : State :=
  let s := (s.setV .twxRestarts 0 0).irq 85
  if s.rd Reg.TWX_HXFR_STAT = hxRunning then
    let s := s.wr Reg.TWX_HXFR_STAT 0 stat
    let s := match s.hxStage with
      | some n => if stat = hxDone then s else s.bump Reg.STAGE_FAILCNT n
      | none => s
    if s.vOn .rediscWait then (s.setV .rediscWait 0 0).wr Reg.TWX_STAT_DISC 0 1 else s
  else s

/-- A stuck bus (R416). -/
def busStuck (s : State) : State := (s.wr Reg.TWX_STAT_BUSSTUCK 0 1).event 0x2044 2 []

/-- A transaction ends with its outcome (R415, R416, R428). -/
def transactionEnd (s : State) (how : TwxEnd) (cleared : Bool) (data : Nat) : State :=
  if ¬ s.twxRuns then s
  else
    let s := if cleared then s.bump Reg.TWX_STAT_CLEARS 0 else s
    match how with
    | .ok =>
      let s := if s.rd Reg.TWX_HXFR_STAT = hxRunning ∧ s.rd Reg.TWX_HXFR_NRD ≠ 0 then s.wr Reg.TWX_HXFR_RD 0 (data % 256 ^ s.rd Reg.TWX_HXFR_NRD) else s
      s.endTransaction hxDone
    | .nack => s.endTransaction hxNack
    | .stuck => s.busStuck.endTransaction hxStuck

/-- Arbitration is lost: the transaction restarts, or fails after ARBN restarts (R414). -/
def arbLost (s : State) : State :=
  if ¬ s.twxRuns then s
  else
    let s := s.bump Reg.TWX_STAT_ARBLOST 0
    if s.rd Reg.TWX_CTL_ARBN ≤ s.vn .twxRestarts then (s.wr Reg.TWX_STAT_ARBFAIL 0 1).endTransaction hxArb
    else s.setV .twxRestarts 0 (s.v .twxRestarts + 1)

/-- SCL stayed low for LOWTO: the transaction fails, and the bus is cleared before the next (R415, R416). -/
def lowTimeout (s : State) (freed : Bool) : State :=
  if ¬ s.twxRuns then s
  else
    let s := (s.wr Reg.TWX_STAT_LOWTOF 0 1).endTransaction hxTimeout
    if freed then s.bump Reg.TWX_STAT_CLEARS 0 else s.busStuck

/-- The bus stayed busy for 50 ms (R412); the outcome shown is that of a timeout (log entry 25). -/
def busyTimeout (s : State) : State := if ¬ s.twxRuns then s else (s.wr Reg.TWX_STAT_BUSYF 0 1).endTransaction hxTimeout

/-- A host transaction starts (R423, R428). -/
def hxfrStart (s : State) : State := (s.wr Reg.TWX_HXFR_STAT 0 hxRunning).setV .twxRestarts 0 0

/-- Discovery is run again; it waits for a host transaction that runs (R421, R430). -/
def redisc (s : State) : State := if s.rd Reg.TWX_HXFR_STAT = hxRunning then s.setV .rediscWait 0 1 else s.wr Reg.TWX_STAT_DISC 0 1

/-- A value that the part publishes itself, alone: staged and published at once (R372, R420). -/
def pubAlone (s : State) (f : Fld) (i x : Nat) : State := { s.wr f i x with staged := kvErase (f.key i) s.staged }

/-- What discovery stores and publishes for one instance (R418, R420, R429, R294). -/
def takeStage (s : State) (n : Nat) (x : StageProbe) : State :=
  let g := judgeStage n x
  let b (o k : Nat) : Nat := if g.out = stAbsent ∨ g.rsn = 1 then 0 else leNat ((x.block.drop o).take k)
  let s := (((s.wr Reg.STAGE_OUT n g.out).wr Reg.STAGE_RSN n g.rsn).wr Reg.STAGE_TV n g.tv).wr Reg.STAGE_IRATE n g.irate
  let s := ((s.wr Reg.STAGE_REV n (b 5 1)).wr Reg.STAGE_VEND n (b 1 2)).wr Reg.STAGE_MODEL n (b 3 2)
  let s := if g.out = stAbsent then s.bump Reg.STAGE_FAILCNT n 3 else s
  if g.out = stMatched ∨ g.out = stGeneric then
    let s := if g.out = stGeneric then s.event 0x2041 1 (leBytes 1 n) else s
    let s := s.pubAlone Reg.CSA_SGAIN n g.gain
    if n < 32 then
      let s := s.pubAlone Reg.PHM_IBINMAX n g.irate
      let t := (5 * g.irate * g.gain + 512) / 1024
      if s.on Reg.PHM_ASSIGN n ∧ t ≤ 1023 ∧ s.rd Reg.CMP_HYS n ≤ t then s.pubAlone Reg.CMP_DAC n t else s
    else s
  else if s.on Reg.PHM_ASSIGN n then s.event 0x2042 2 (leBytes 1 n ++ leBytes 1 g.out ++ leBytes 1 g.rsn) else s

/-- The dead-time sets of a group leave room at every configured PRD of the group, with these minimum pulses in force (R109, R420). -/
def minpFits (s : State) (minp : Nat) : Bool :=
  (List.range 8).all (fun k => (List.range 32).all (fun c =>
    dtFits (s.stg Reg.PWM_PRD c) (s.stg Reg.PWM_DT_DTR k) (s.stg Reg.PWM_DT_DTF k) minp (s.stg Reg.PWM_DT_MINOFF k)))

/-- Discovery ends: every instance, MINP of the main sets, the counts, and the record (R418 to R421). -/
def discoveryDone (s : State) (ps : List StageProbe) : State :=
  if ¬ s.on Reg.TWX_STAT_DISC ∨ ¬ s.vOn .bootRun ∨ ¬ s.coreRuns .sc then s
  else
    let s := (ps.zipIdx).foldl (fun s x => s.takeStage x.2 x.1) s
    let gs := (ps.zipIdx).map (fun x => (x.2, judgeStage x.2 x.1))
    let found := gs.filter (fun x => x.2.out == stMatched || x.2.out == stGeneric)
    let mains := found.filter (fun x => decide (x.1 < 32))
    let minp := min 255 (mains.foldl (fun m x => max m ((4 * x.2.tonmin + 4) / 5)) 0)
    let s := if mains.isEmpty then s
      else if s.minpFits minp then (List.range 8).foldl (fun s k => s.pubAlone Reg.PWM_DT_MINP k minp) s
      else s.wr Reg.TWX_STAT_MINPF 0 1
    let refused := (gs.filter (fun x => x.2.out == stRefused)).length
    let s := ((s.wr Reg.TWX_STAT_NFOUND 0 found.length).wr Reg.TWX_STAT_NREFUSED 0 refused).wr Reg.TWX_STAT_DISC 0 0
    s.event 0x2040 0 (leBytes 1 found.length ++ leBytes 1 refused)

/-- One stage's poll (R422). -/
def takePoll (s : State) (n : Nat) (x : TelemReading) : State :=
  if s.rd Reg.STAGE_OUT n ≠ stMatched ∧ s.rd Reg.STAGE_OUT n ≠ stGeneric then s
  else
    let s := s.irq 85
    if x.ok then
      let s := ((s.wr Reg.STAGE_STATUS n x.status.toNat).wr Reg.STAGE_TEMP n x.temp.toNat).wrB Reg.STAGE_FAULT n (bit x.status.toNat 0)
      let tv := s.rd Reg.STAGE_TV n
      let s := (s.wr Reg.STAGE_VIN n (if 2 ≤ tv then x.vin.toNat else 0)).wr Reg.STAGE_IOUT n (if tv = 3 then x.iout.toNat else 0)
      (s.wr Reg.STAGE_STALE n 0).setV .pollFails n 0
    else
      let s := (s.bump Reg.STAGE_FAILCNT n).setV .pollFails n (s.v .pollFails n + 1)
      if s.vn .pollFails n = 3 then (s.wr Reg.STAGE_STALE n 1).event 0x2043 1 (leBytes 1 n) else s

/-- A polling round (R422). -/
def pollRound (s : State) (xs : List TelemReading) (late : Bool) : State :=
  if s.rd Reg.TWX_CTL_TPOLL = 0 ∨ s.on Reg.TWX_STAT_DISC ∨ ¬ s.vOn .bootRun ∨ ¬ s.coreRuns .sc then s
  else
    let s := (xs.zipIdx).foldl (fun s x => s.takePoll x.2 x.1) s
    if late then s.wr Reg.TWX_STAT_TLATE 0 1 else s

end State

/-- DISCOVERY_DONE (R421): one probe per stage. -/
def execDiscoveryDone (probes : List StageProbe) (s : State) : Host.Outcome State Fault Refusal :=
  if probes.length = 34 then act s (fun s => s.discoveryDone probes) else .refused .illFormed

/-- TWX_TRANSACTION_END (R416). -/
def execTwxTransactionEnd (how : TwxEnd) (cleared : Bool) (data : Word) (s : State) : Host.Outcome State Fault Refusal :=
  act s (fun s => s.transactionEnd how cleared data.toNat)

/-- TWX_ARB_LOST (R414). -/
def execTwxArbLost (s : State) : Host.Outcome State Fault Refusal := act s State.arbLost

/-- TWX_LOW_TIMEOUT (R416). -/
def execTwxLowTimeout (released : Bool) (s : State) : Host.Outcome State Fault Refusal := act s (fun s => s.lowTimeout released)

/-- TWX_BUSY_TIMEOUT (R412). -/
def execTwxBusyTimeout (s : State) : Host.Outcome State Fault Refusal := act s State.busyTimeout

/-- TELEMETRY_POLL (R422): one reading per stage. -/
def execTelemetryPoll (readings : List TelemReading) (late : Bool) (s : State) : Host.Outcome State Fault Refusal :=
  if readings.length = 34 then act s (fun s => s.pollRound readings late) else .refused .illFormed

end Sys2Proof.Machine
end

