-- ==== Sys2Proof/Machine/Write.lean ====
section
/-!
DEFINITION. What a write of a register word does: each field by its access code, and the effects that a field's own description gives (R6 to R9, R27, R28, R35, R97, R128, R156, R296, R348, R380, R421, R423, R442 to R447, R482 to R486).
-/

namespace Sys2Proof.Machine

/-- The counters that each CLRCNT field clears. -/
def clrTable : List (Fld × List Fld) :=
  [(Reg.CSA_CLRCNT, [Reg.CSA_SLOPESKIP, Reg.CSA_MISSCNT]), (Reg.PWM_CLRCNT, [Reg.PWM_TRIPCNT, Reg.PWM_DROPCNT, Reg.PWM_STRCNT, Reg.PWM_CLAMPCNT]),
   (Reg.LE_CLRCNT, [Reg.LE_OVRCNT, Reg.LE_BUDCNT, Reg.LE_CMDREJ, Reg.LE_STEPCNT]), (Reg.PHM_CLRCNT, [Reg.PHM_ALMCNT]),
   (Reg.CUE_ERR_CLRCNT, [Reg.CUE_ERR_CVERR, Reg.CUE_ERR_FRMERR, Reg.CUE_ERR_CRCERR, Reg.CUE_ERR_SEQERR, Reg.CUE_ERR_STREJ, Reg.CUE_ERR_TYPEERR, Reg.CUE_ERR_FMTERR]),
   (Reg.CUE_CLRCNT, [Reg.CUE_FCNT, Reg.CUE_HITCNT, Reg.CUE_MISSCNT, Reg.CUE_DISCNT, Reg.CUE_CANCNT, Reg.CUE_SUPCNT, Reg.CUE_CLOSCNT])] ++
  [(Reg.HAM_STAT_CLRCNT, [Reg.HAM_STAT_SBCNT]), (Reg.CMP_CLRCNT, [Reg.CMP_EDGECNT, Reg.CMP_ASSERTCNT]),
   (Reg.TWI_PSTAT_CLRCNT, [Reg.TWI_PSTAT_PROTERR, Reg.TWI_PSTAT_TOUT, Reg.TWI_PSTAT_NACKCNT]), (Reg.TWX_STAT_CLRCNT, [Reg.TWX_STAT_ARBLOST, Reg.TWX_STAT_CLEARS])]

/-- The value that a list of words, the first one being word `w0`, gives a field. -/
def valOf (w0 : Nat) (ws : List Nat) (f : Fld) : Nat := State.fldOf f (ws.getD (f.word - w0) 0)

namespace State

/-- A host transaction may start: discovery does not run, and no earlier one runs (R423). -/
def hxFree (s : State) : Bool := !(s.on Reg.TWX_STAT_DISC || s.rd Reg.TWX_HXFR_STAT == 1 || s.rd Reg.TWX_HXFR_STAT == hxRunning)

/-- A WO field of an interrupt source (R442, R446). -/
def icuAct (s : State) (f : Fld) (i : Nat) : State :=
  if f.same Reg.ICU_SETPEND then s.writePend i true
  else if f.same Reg.ICU_CLRPEND then s.writePend i false
  else if f.same Reg.ICU_ENSET then s.writeEn i true
  else if f.same Reg.ICU_ENCLR then s.writeEn i false
  else { s with icu := { s.icu with counts := kvErase i s.icu.counts } }

/-- What a write of `x` to a WO field does; FIRE acts for a session only (R348). -/
def woAct (s : State) (f : Fld) (i x : Nat) : State :=
  if f.same Reg.EXPERT_CTL_XKEY then if x = 0x3296 then s.wr Reg.EXPERT_CTL_XON 0 1 else if x = 0 then s.wr Reg.EXPERT_CTL_XON 0 0 else s
  else if f.same Reg.ICU_CORE_EOI then s.eoi (if i = 0 then .sc else .ac) x
  else if x = 0 then s
  else if f.same Reg.SYS_COMMIT_GO then s.publish
  else if f.same Reg.LE_CTL_SWAP then if s.on Reg.LE_CTL_SWPEND then s else s.setV .swapStaged 0 1
  else if f.same Reg.CCT_CTL_SNAP then s.cctSnapshot
  else if f.same Reg.CUE_SCRST then s.wr Reg.CUE_SCORE i 0xFFFF
  else if f.same Reg.CAP_JOB_FIRE then s
  else if f.same Reg.TWX_CTL_REDISC then if s.mode = mStandby then s.redisc else s
  else if f.same Reg.TWX_HXFR_GO then if s.hxFree ∧ s.rd Reg.TWX_HXFR_NRD + s.rd Reg.TWX_HXFR_NWR ≠ 0 then s.hxfrStart else s
  else if f.same Reg.SYS_SWI_SWIAC then s.softIrq .ac
  else if f.same Reg.SYS_SWI_SWISC then s.softIrq .sc
  else if f.obj = 0x0CC0 then s.icuAct f i
  else match clrTable.find? (fun y => y.1.same f) with
    | some y => y.2.foldl (fun s g => s.wr g i 0) s
    | none => s

/-- What a write of `x` to a RW field does; an instance without the field, and the fixed targets, ignore it (R21, R97, R446). -/
def rwAct (s : State) (dbg : Bool) (f : Fld) (i x : Nat) : State :=
  if f.same Reg.LE_CTL_HALT then
    if x = s.rd f i then s
    else if s.mode = mRehearsal ∧ s.stagesOff then s.leHaltWrite (x != 0)
    else if dbg then s.wr Reg.DBG_STAT_LEHREJ 0 1 else s
  else if f.same Reg.CCT_CTL_EN then s.cctEnableTo (x != 0)
  else if f.same Reg.ICU_TGT ∧ (i = 124 ∨ i = 125) then s
  else s.wr f i x

/-- A write of 1 clears a flag (R6); a comparator's LAT may release its output (R296). -/
def w1cAct (s : State) (f : Fld) (i x : Nat) : State :=
  if x = 0 then s else if f.same Reg.CMP_LAT then (s.wr f i 0).latCleared i else s.wr f i 0

/-- One field of a written word, by its access code (R6); the WO fields act after the others. -/
def writeFld (s : State) (dbg : Bool) (f : Fld) (i x : Nat) : State :=
  match f.acc with
  | .rw => s.rwAct dbg f i x
  | .rws => s.stage f i x
  | .rwl => s.wr f i x
  | .w1c => s.w1cAct f i x
  | .wo => s
  | .ro => s

/-- The instance has no such field: it reads 0 and holds nothing (R158, R171, R210, R326). -/
def lacks (f : Fld) (i : Nat) : Bool := readsZero f i || (f.obj == 0x07C0 && decide (32 ≤ i))

/-- A staged change of a phase's map concerns its old and its new rail (R181). -/
def markMap (o s : State) (c : Nat) : State :=
  let place (t : State) : Nat × Nat × Nat := (t.stg Reg.PHM_ASSIGN c, t.stg Reg.PHM_RAIL c, t.stg Reg.PHM_USTUDY c)
  if place o = place s then s
  else (s.setV .mapStaged (o.stg Reg.PHM_RAIL c) 1).setV .mapStaged (s.stg Reg.PHM_RAIL c) 1

/-- A word of ICU_PEND or ICU_MASK (R442, R444). -/
def maskWrite (s : State) (pend : Bool) (k w : Nat) : State :=
  (List.range 32).foldl (fun s b => if pend then s.writePend (32 * k + b) (bit w b) else s.writeEn (32 * k + b) (bit w b)) s

/-- A written register word: fields that hold a value first, then the fields that act. -/
def writeWord (s : State) (dbg : Bool) (fm : Fam) (i k w : Nat) : State :=
  if fm.obj = 0x1520 then s.wdtWrite (if k = 0 then .sc else .ac) w
  else if fm.obj = 0x0C01 ∨ fm.obj = 0x0C02 then s.maskWrite (fm.obj = 0x0C01) k w
  else
    let fs := fm.fields.filter (fun f => f.word == k && !lacks f i)
    let t := fs.foldl (fun s f => s.writeFld dbg f i (fldOf f w)) s
    let t := if fm.obj = 0x07C0 ∧ i < 32 then markMap s t i else t
    (fs.filter (fun f => f.acc == .wo)).foldl (fun s f => s.woAct f i (fldOf f w)) t

/-! ### The DBG block (R482 to R486) -/

/-- DBG_CTL. -/
def dbgCtl (s : State) (w : Nat) : State :=
  if bit w 7 then s.devReset rstDebug
  else
    let s := ((s.bsenWrite (bit w 6)).wrB Reg.DBG_CTL_STEPIRQ 0 (bit w 5)).haltWrite (bit w 0) (bit w 1)
    let s := if bit w 3 then s.stepCore .sc else s
    if bit w 4 then s.stepCore .ac else s

/-- DBG_LE. -/
def dbgLe (s : State) (w : Nat) : State :=
  let s := s.wr Reg.DBG_LE_LANE 0 (if bits w 18 16 ≤ 4 then bits w 18 16 else s.rd Reg.DBG_LE_LANE)
  let s := if bit w 25 == s.on Reg.DBG_LE_HALTREQ then s else s.leHaltReq (bit w 25)
  if bit w 24 then s.leStep else s

/-- The last word of a breakpoint or watchpoint; a KIND that the instance does not allow, and a RANGE above 16, are refused (R486). -/
def dbgBp (s : State) (i w : Nat) : State :=
  if (i < 16) = (bits w 30 29 = 0) ∧ bits w 20 16 ≤ 16 then s.writeWord true Reg.fam_DBGBP i 2 w else s

/-- A write on the peripheral bus; the DBG objects take writes from debug access only (R485). -/
def busWord (s : State) (dbg : Bool) (fm : Fam) (i k w : Nat) : State :=
  if fm.obj / 256 = 0x14 ∧ ¬ dbg then s
  else if fm.obj = 0x1400 then s.dbgCtl w
  else if fm.obj = 0x1402 then s.dbgLe w
  else if fm.obj = 0x14C0 ∧ k = 2 then s.dbgBp i w
  else s.writeWord dbg fm i k w

/-- A register write by a core or by debug access, by object; with no such word, nothing (R6, R29 to R31). -/
def registerWrite (s : State) (dbg : Bool) (obj inst word w : Nat) : State :=
  if ¬ dbg ∧ ¬ s.coreRuns .sc ∧ ¬ s.coreRuns .ac then s
  else
    match findObj obj with
    | some o => if o.arrayed then if inst < o.fam.count ∧ word = 0 then s.busWord dbg o.fam inst o.word w else s
        else if word < o.words then s.busWord dbg o.fam o.base word w else s
    | none => s

/-! ### Memories -/

/-- The microcode words that may not be written now: the programs of rails out of DISABLED and of a Hamper that is not isolated (R155). -/
def codeBusy (s : State) (a : Nat) : Bool :=
  (List.range 5).any (fun c => (if c < 4 then s.railState c != railDisabled else s.rd Reg.HAM_CTL_AMODE != 0) &&
    decide ((s.laneRegion c).1 ≤ a) && decide (a < (s.laneRegion c).1 + (s.laneRegion c).2))

/-- A table entry written: NVALID follows its VALID bit, and the table waits to be saved (R198, R200, R206). -/
def putEntry (s : State) (a w : Nat) : State :=
  let was := bit (s.wordAt (a - a % 4)) 4
  let n := s.rd Reg.PHM_TAB_NVALID
  let s := s.wr Reg.PHM_TAB_NVALID 0 (if bit w 4 == was then n else if was then n - 1 else n + 1)
  ((s.putWord (a - a % 4) w).setOn .tableDirty 0 true)

/-- Where a write to the table stands in the mode rule of R201: BUSY, WRONG_MODE or OK. -/
def tableStatus (s : State) : Nat :=
  if s.mode = mRehearsal then stOk else if s.mode = mCharacterise then if s.on Reg.PHM_CHAR_RUN then stBusy else stOk else stWrongMode

/-- An aligned word written to a memory of R27, with the status that a host would get; nothing is written unless it is OK (R27, R28, R147, R155, R201). -/
def memWord (s : State) (a w : Nat) : State × Nat :=
  if 0x20000000 ≤ a ∧ a < 0x20080000 then (s.putWord a w, stOk)
  else if 0x90000000 ≤ a ∧ a < 0x90010000 then
    if s.codeBusy ((a - 0x90000000) / 16) then (s, stBusy) else (if a % 16 = 12 then s else s.putWord a w, stOk)
  else if bankA + bankSize ≤ a ∧ a < bankA + 2 * bankSize then
    if s.on Reg.LE_CTL_SWPEND then (s, stBusy) else ((s.putWord a w).setV .bankTouched 0 1, stOk)
  else if 0x90020000 ≤ a ∧ a < 0x90028000 then
    if s.tableStatus ≠ stOk then (s, s.tableStatus) else if bits w 3 0 ≠ 0 then (s, stBadParam) else (s.putEntry a w, stOk)
  else (s, stBadParam)

/-- A debug access error (R28). -/
def accError (s : State) : State := ({ s with busOut := [0#8, 0#8, 0#8, 0#8] }).wr Reg.DBG_STAT_ACCERR 0 1 |>.irq 127

/-- An MRAM write by a master other than the NVS (R28). -/
def mramDiscard (s : State) : State := ((s.wr Reg.NVS_STAT_DISCF 0 1).irq 114).event 0x9005 1 []

/-- The word at an aligned address with the bytes of an access put into it. -/
def mergeWord (old : List Byte) (a n data : Nat) : Nat :=
  leNat ((List.range 4).map (fun k => if a % 4 ≤ k ∧ k < a % 4 + n then BitVec.ofNat 8 (data / 256 ^ (k - a % 4)) else old.getD k 0))

/-- A debug write of `n` bytes (R27, R28, R484): MRAM and the phase table take none. A part of a register word carries the other fields as they are, flags apart, and an address of the register region that names no object takes a write without effect (log entry 26). -/
def dbgWrite (s : State) (a n data : Nat) : State :=
  let base := a - a % 4
  if 0x40000000 ≤ a ∧ a < 0x40240000 then s.mramDiscard.accError
  else if 0x80000000 ≤ a ∧ a < 0x80160000 then
    match findAddr base with
    | some (f, i, k) =>
      let keep := f.fields.foldl (fun w g => if g.word == k && (g.acc == .rw || g.acc == .rws || g.acc == .rwl) then w + s.readFld g i * 2 ^ g.lo else w) 0
      s.busWord true f i k (mergeWord (leBytes 4 keep) a n data)
    | none => s
  else if 0x90020000 ≤ a ∧ a < 0x90028000 then s.accError
  else
    let x := s.memWord base (mergeWord (s.bytesAt base 4) a n data)
    if x.2 = stOk then x.1 else s.accError

/-- DBGACC (R28, R484): with the TAP instruction DBGACC, one aligned read or write of 1, 2 or 4 bytes; another size or address is an error (log entry 26). -/
def dbgAcc (s : State) (a data size : Nat) (write : Bool) : State :=
  let n := 2 ^ size
  if s.tapInstr ≠ 8 then s
  else if 2 < size ∨ a % n ≠ 0 then s.accError
  else if write then s.dbgWrite a n data
  else
    match s.busBytes a n with
    | some b => { s with busOut := b }
    | none => s.accError

end State

/-- TAP_DBGACC (R484). -/
def execTapDbgacc (addr data : Word) (size : BitVec 2) (write : Bool) (s : State) : Host.Outcome State Fault Refusal :=
  act s (fun s => s.dbgAcc addr.toNat data.toNat size.toNat write)

/-- REGISTER_WRITE (R6): a write by a core or by debug access. -/
def execRegisterWrite (byDebug : Bool) (obj : BitVec 16) (inst : Byte) (word : BitVec 4) (value : Word) (s : State) : Host.Outcome State Fault Refusal :=
  act s (fun s => s.registerWrite byDebug obj.toNat inst.toNat word.toNat value.toNat)

end Sys2Proof.Machine
end

