-- ==== Sys2Proof/Machine/Sets.lean ====
section
/-!
DEFINITION. What a SET is checked for: reserved bits, field ranges, the relations between fields, the device mode, and the state of the part (R9, R35, R36, R84, R89, R93, R109, R112, R120, R128, R131, R132, R138, R155, R158, R171, R181, R205 to R210, R239, R242, R261 to R264, R285, R286, R294, R301, R314, R318, R321 to R326, R347, R384, R387, R421 to R428, R517, R520).
-/

namespace Sys2Proof.Machine

/-- The values that a field may take, where they are fewer than its width holds. -/
def ranges : List (Fld × Nat × Nat) :=
  [(Reg.CSA_SGAIN, 1, 65535), (Reg.CSA_SPM, 0, 4), (Reg.VSC_CHECK_MISLIM, 1, 255), (Reg.VSC_CHECK_WIN, 1, 255), (Reg.VSC_CHECK_CHKSRC, 0, 6),
   (Reg.PWM_DT_MINOFF, 8, 255), (Reg.PWM_REF_SYNCIM, 0, 1), (Reg.PWM_REF_PRD, 134, 2666), (Reg.PWM_PRD, 134, 2666), (Reg.PWM_SYNCSEL, 0, 2),
   (Reg.PWM_PFP, 0, 2), (Reg.PWM_TRIPSEL, 0, 2), (Reg.PWM_OUTM, 0, 1)] ++
  [(Reg.LE_LAW, 0, 1), (Reg.LE_SLEW, 1, 1000), (Reg.LE_SSSLEW, 1, 1000), (Reg.LE_RDSLEW, 0, 1000), (Reg.LE_VTGT, 0, 3200), (Reg.LE_VMIN, 0, 3200),
   (Reg.LE_VMAX, 0, 3200), (Reg.LE_PGHI, 1, 255), (Reg.LE_PGLO, 1, 255), (Reg.LE_RDYN, 0, 2000), (Reg.LE_FCT, 1, 1000), (Reg.LE_PMMIN, 10, 90),
   (Reg.LE_GSTEP, 1, 100), (Reg.LE_GHI, 4096, 65535), (Reg.LE_GLO, 1, 4096)] ++
  [(Reg.PHM_CTL_CBWIN, 1, 50), (Reg.PHM_CTL_CBLOSS, 0, 30), (Reg.PHM_CTL_CBN, 1, 15), (Reg.PHM_SHED_NMIN, 1, 32), (Reg.PHM_SHED_NINT, 1, 32),
   (Reg.PHM_SHED_SHRAMP, 1, 255), (Reg.PHM_SHED_DWELL, 1, 255), (Reg.PHM_BAL_RESFRAC, 1, 255), (Reg.PHM_BAL_NDET, 1, 3), (Reg.PHM_IBINMAX, 1, 255)] ++
  [(Reg.CUE_CTL_CUEVMAX, 1, 3), (Reg.CUE_CTL_CUEVMIN, 1, 3), (Reg.CUE_CTL_STATPER, 1, 255), (Reg.CUE_CTL_THRREP, 1, 255), (Reg.CUE_FWIN_WINMIN, 1, 255),
   (Reg.CUE_FWIN_ARRF, 1, 255), (Reg.CUE_FWIN_HITSH, 1, 8), (Reg.CUE_FWIN_MISSH, 1, 8)] ++
  [(Reg.HAM_SHAPE_SLIM, 1, 1000), (Reg.HAM_SHAPE_ETA, 1, 255), (Reg.HAM_SHAPE_TRC, 1, 255), (Reg.HAM_LIM_IHMAX, 1, 255), (Reg.HAM_IB_TQUAL, 1, 255),
   (Reg.HAM_SHUNT_RRV, 1, 65535), (Reg.HAM_SHUNT_RIIB, 1, 65535), (Reg.GAU_CFG_UREQ, 1, 50), (Reg.GAU_CFG_ITAIL, 1, 255), (Reg.GAU_CFG_RELAX, 1, 255),
   (Reg.GAU_CFG_TFULL, 1, 255), (Reg.GAU_HCFG_SOHWARN, 1, 100), (Reg.GAU_HCFG_RWWAIT, 1, 255)] ++
  [(Reg.CMP_LMODE, 0, 2), (Reg.PROT_CTL_IBOVPOL, 0, 2), (Reg.PROT_CTL_HTRIPN, 1, 255), (Reg.PROT_CTL_THRPCT, 10, 100), (Reg.PROT_HOFF, 1, 2000),
   (Reg.PROT_HN, 1, 255), (Reg.THM_HYS, 1, 15), (Reg.THM_BAND_BHYS, 1, 15)] ++
  [(Reg.CAP_HCFG_LWARN, 1, 50), (Reg.CAP_HCFG_KWARN, 1, 50), (Reg.CAP_HCFG_SWARN, 1, 255), (Reg.CAP_HCFG_EWARN, 1, 255), (Reg.CAP_HCFG_HPER, 1, 255),
   (Reg.TWX_CTL_STBASE, 0x08, 0x54), (Reg.TWX_CTL_RATE, 0, 2), (Reg.TWX_CTL_LOWTO, 1, 255), (Reg.TWX_HXFR_NRD, 0, 4), (Reg.TWX_HXFR_NWR, 0, 8)]

/-- The values of a field within its range (R384). -/
def inRange (f : Fld) (x : Nat) : Bool := (ranges.find? (fun y => y.1.same f)).all (fun y => decide (y.2.1 ≤ x) && decide (x ≤ y.2.2))

/-- The least interface level of an object (R387). -/
def objIl (id : Nat) : Nat :=
  if (0x0620 ≤ id ∧ id ≤ 0x0622) ∨ (0x06CA ≤ id ∧ id ≤ 0x06CD) then 3 else if id = 0x0A15 then 2 else if 0x0B20 ≤ id ∧ id ≤ 0x0B23 then 4 else 1

/-- Objects that a host may never SET: those of ICU, DBG, EVR and NVS, SYS_WDT and SYS_SWI (R517). -/
def closedObj (id : Nat) : Bool := [0x0C, 0x11, 0x12, 0x14].contains (id / 256) || id == 0x1520 || id == 0x1521

/-- The fields that an object's words hold. -/
def Obj.flds (o : Obj) : List Fld := o.fam.fields.filter (fun f => decide (o.word ≤ f.word) && decide (f.word < o.word + o.words))

/-- Reserved bits are 0 (R9). -/
def reservedClear (o : Obj) (ws : List Nat) : Bool :=
  (ws.zipIdx).all (fun x => (o.flds.filter (fun f => f.word == o.word + x.2)).foldl (fun a f => a + State.fldOf f x.1 * 2 ^ f.lo) 0 == x.1)

/-- A comparator asserts at or below its threshold (R293). -/
def lowerLimit (i : Nat) : Bool := (decide (38 ≤ i) && decide (i < 42)) || i == 42 || i == 47

/-- Threshold and hysteresis of a comparator leave a release code of 10 bits; a tracked threshold has none of its own (R294, R301, R303). -/
def releaseOk (i dac hys : Nat) (track : Bool) : Bool := track || (if lowerLimit i then decide (dac + hys ≤ 1023) else decide (hys ≤ dac))

/-- Each rail is named exactly once (R264). -/
def orderOk (x : Nat) : Bool := (List.range 4).all (fun r => (List.range 4).any (fun k => bits x (2 * k + 1) (2 * k) == r))

/-- The band bounds stand more than the hysteresis apart (R318). -/
def bandsOk (l : List Nat) (h : Nat) : Bool := (l.zip (l.drop 1)).all (fun x => decide (x.1 + h < x.2))

/-- The rules of an object's fields that depend on no state of the part; `v` gives the written value of a field. -/
def objRules (id i : Nat) (v : Fld → Nat) : Bool :=
  if id = 0x1510 then v Reg.EXPERT_CTL_XKEY == 0x3296 || v Reg.EXPERT_CTL_XKEY == 0
  else if id = 0x01C0 then
    (if 32 ≤ i then v Reg.PWM_OUTM == 1 else (i % 2 == 0 || v Reg.PWM_OUTM == 0) && v Reg.PWM_SWAP == 0) && !(v Reg.PWM_SYNCSEL == 2 && (i == 0 || i == 32))
  else if (0x06C2 ≤ id ∧ id ≤ 0x06C5) ∨ (0x06CA ≤ id ∧ id ≤ 0x06CD) then i != 4
  else if 0x07C0 ≤ id ∧ id < 0x07C5 then decide (i < 32)
  else if id = 0x04C0 then i == 0 || decide (8 < i) || decide (v Reg.HKA_TYPE ≤ 2)
  else if id = 0x05C0 then
    (v Reg.CMP_TRACK == 0 || (decide (38 ≤ i) && decide (i < 42))) && releaseOk i (v Reg.CMP_DAC) (v Reg.CMP_HYS) (v Reg.CMP_TRACK == 1)
  else if id = 0x0800 then decide (v Reg.CUE_CTL_CUEVMIN ≤ v Reg.CUE_CTL_CUEVMAX)
  else if 0x0714 ≤ id ∧ id ≤ 0x0717 then decide (v Reg.PHM_SHED_ISHED + 16 ≤ v Reg.PHM_SHED_IADD)
  else if id = 0x0905 then orderOk (v Reg.HAM_CURT_ORDER)
  else if id = 0x0A10 then decide (v Reg.GAU_CFG_VEMPTY < v Reg.GAU_CFG_VFULL)
  else if id = 0x0FC0 then decide (v Reg.THM_THR < v Reg.THM_SD) && decide (v Reg.THM_WARN < v Reg.THM_THR)
  else if id = 0x0FC1 ∨ id = 0x0FC2 then i != 0
  else if id = 0x0F00 then
    bandsOk [v Reg.THM_BAND_B1, v Reg.THM_BAND_B2, v Reg.THM_BAND_B3, v Reg.THM_BAND_B4, v Reg.THM_BAND_B5, v Reg.THM_BAND_B6, v Reg.THM_BAND_B7] (v Reg.THM_BAND_BHYS)
  else if 0x0300 ≤ id ∧ id < 0x0304 then schedSlots.all (fun f => decide (v f ≤ 7))
  else if id = 0x0D12 then v Reg.TWX_HXFR_GO == 0 || v Reg.TWX_HXFR_NRD + v Reg.TWX_HXFR_NWR != 0
  else true

/-- Check 4 of R520 for a SET. -/
def fieldsOk (id : Nat) (o : Obj) (i : Nat) (ws : List Nat) : Bool :=
  !closedObj id && o.flds.any (fun f => f.acc != .ro) && reservedClear o ws &&
    o.flds.all (fun f => f.acc == .ro || f.acc == .wo || f.acc == .w1c || inRange f (valOf o.word ws f)) && objRules id i (valOf o.word ws)

/-! ### Schedules (R84) -/

/-- A source appears at most twice, then at slots n and n + 8 (R84). -/
def schedOk (l : List (Nat × Nat)) : Bool :=
  (List.range 7).all (fun n => match (l.filter (fun x => x.1 == n + 1)).map (·.2) with
    | [] => true
    | [_] => true
    | [a, b] => a + 8 == b || b + 8 == a
    | _ => false)

namespace State

/-- The slots of a schedule, as it stands staged. -/
def schedOf (s : State) (k : Nat) : List Nat := schedSlots.map (fun f => s.stg f k)

/-- Every rule of R84 that a SET of one schedule must keep. -/
def schedSetOk (s : State) (k : Nat) (new : List Nat) : Bool :=
  if k < 2 then schedOk (new.zipIdx ++ (s.schedOf (1 - k)).zipIdx) else schedOk new.zipIdx

/-- The SET changes a slot of a rail that is not in DISABLED (R84). -/
def schedBusy (s : State) (k : Nat) (new : List Nat) : Bool :=
  (new.zip (s.schedOf k)).any (fun x => x.1 != x.2 && [x.1, x.2].any (fun src => decide (1 ≤ src) && decide (src ≤ 4) && s.railState (src - 1) != railDisabled))

/-- Slots of a source in the published normal schedule (R131). -/
def slotCount (s : State) (src : Nat) : Nat :=
  ((List.range 2).flatMap (fun k => schedSlots.map (fun f => s.published f k))).countP (fun x => x == src)

/-- The top of the BUDGET range of a context (R131). -/
def budgetMax (s : State) (i : Nat) : Nat := if s.slotCount (if i = 4 then 5 else i + 1) = 2 then 32 else 64

/-- The dead-time set `k`, with these values, leaves room at the configured PRD of every channel of its group (R109). -/
def dtSetOk (s : State) (k : Nat) (v : Fld → Nat) : Bool :=
  (if k < 8 then List.range 32 else [32, 33]).all (fun c =>
    dtFits (s.stg Reg.PWM_PRD c) (v Reg.PWM_DT_DTR) (v Reg.PWM_DT_DTF) (v Reg.PWM_DT_MINP) (v Reg.PWM_DT_MINOFF))

/-- A PRD leaves room under every dead-time set of the channel's group (R109). -/
def prdOk (s : State) (c prd : Nat) : Bool :=
  (List.range 8).all (fun n => let k := if c < 32 then n else n + 8
    dtFits prd (s.stg Reg.PWM_DT_DTR k) (s.stg Reg.PWM_DT_DTF k) (s.stg Reg.PWM_DT_MINP k) (s.stg Reg.PWM_DT_MINOFF k))

/-- The order of the reservoir voltages (R261, R262). -/
def vrvOk (v : Fld → Nat) : Bool :=
  decide (v Reg.HAM_LIM_VRVMIN < v Reg.HAM_LIM_VCURT) && decide (v Reg.HAM_LIM_VCURT < v Reg.HAM_SHAPE_VRVTGT) && decide (v Reg.HAM_SHAPE_VRVTGT < v Reg.HAM_LIM_VRVMAX)

/-- The temperature windows and the voltages of HAM_LIM and HAM_IB (R262, R263). -/
def limOk (v : Fld → Nat) : Bool :=
  vrvOk v && decide (sgn 8 (v Reg.HAM_LIM_TCHLO) < sgn 8 (v Reg.HAM_LIM_TCHHI)) && decide (sgn 8 (v Reg.HAM_LIM_TDSLO) < sgn 8 (v Reg.HAM_LIM_TDSHI))

def ibOk (v : Fld → Nat) : Bool :=
  decide (v Reg.HAM_LIM_VRVMAX + 500 ≤ v Reg.HAM_IB_VHOLD) && decide (v Reg.HAM_IB_VHOLD + 500 ≤ v Reg.HAM_IB_VRES) &&
    decide (v Reg.HAM_IB_VLOSS < v Reg.HAM_IB_VRES) && releaseOk 42 ((v Reg.HAM_IB_VLOSS + 8) / 16) 0 false

/-- Conversions of a round with a weight replaced (R93). -/
def roundLen (s : State) (i w : Nat) : Nat := (List.range 40).foldl (fun n k => n + hkaTimes (if k = i then w else s.stg Reg.HKA_WEIGHT k)) 0

/-- A SET that would be BUSY now (R84, R139, R147, R155, R423). -/
def setBusy (s : State) (id i : Nat) (ws : List Nat) (v : Fld → Nat) : Bool :=
  if id = 0x0600 then v Reg.LE_CTL_SWAP != 0 && s.on Reg.LE_CTL_SWPEND
  else if id = 0x06C0 then
    (if i < 4 then s.railState i != railDisabled else s.rd Reg.HAM_CTL_AMODE != 0) && [Reg.LE_LAW, Reg.LE_ENTRY, Reg.LE_LEN, Reg.LE_VSRC].any (fun f => v f != s.stg f i)
  else if 0x0300 ≤ id ∧ id < 0x0304 then s.schedBusy (id - 0x0300) (schedSlots.map v)
  else if id = 0x0D12 then v Reg.TWX_HXFR_GO != 0 && !s.hxFree && !ws.isEmpty
  else false

/-- The rules of a SET that depend on other fields, as they stand staged (R84, R93, R109, R128, R131, R132, R138, R261 to R263, R294). -/
def setOk (s : State) (id i : Nat) (v : Fld → Nat) : Bool :=
  let w (f : Fld) : Nat := if f.obj = id then v f else s.stg f 0
  if id = 0x01C0 then s.prdOk i (v Reg.PWM_PRD)
  else if id = 0x01C1 then decide (v Reg.PWM_PHSV < 2 * s.stg Reg.PWM_PRD i)
  else if 0x0110 ≤ id ∧ id < 0x0120 then s.dtSetOk (id - 0x0110) v
  else if 0x0300 ≤ id ∧ id < 0x0304 then s.schedSetOk (id - 0x0300) (schedSlots.map v)
  else if id = 0x04C0 then decide (s.roundLen i (v Reg.HKA_WEIGHT) ≤ 64)
  else if id = 0x05C0 then i != 42 || v Reg.CMP_DAC == s.stg Reg.CMP_DAC 42
  else if id = 0x06C0 then i == 4 || v Reg.LE_LAW != 0 || decide (24 ≤ s.stg Reg.LE_BUDGET i)
  else if id = 0x06C1 then
    decide (8 ≤ v Reg.LE_BUDGET) && decide (v Reg.LE_BUDGET ≤ s.budgetMax i) && (i == 4 || s.stg Reg.LE_LAW i != 0 || decide (24 ≤ v Reg.LE_BUDGET))
  else if id = 0x06C2 then decide (s.stg Reg.LE_VMIN i ≤ v Reg.LE_VTGT) && decide (v Reg.LE_VTGT ≤ s.stg Reg.LE_VMAX i)
  else if id = 0x06C3 then decide (v Reg.LE_VMIN ≤ s.stg Reg.LE_VTGT i) && decide (s.stg Reg.LE_VTGT i ≤ v Reg.LE_VMAX)
  else if id = 0x0901 then vrvOk w
  else if id = 0x0902 then limOk w && ibOk w
  else if id = 0x0903 then ibOk w
  else true

/-- The write changes nothing but RWL fields, in an object that holds some (R36). -/
def rwlWord (s : State) (fm : Fam) (i k w : Nat) : Bool :=
  let fs := fm.fields.filter (fun f => f.word == k)
  fs.any (fun f => f.acc == .rwl) && fs.all (fun f => f.acc == .rwl || s.keeps f i (fldOf f w)) && fs.all (fun f => f.acc != .wo || fldOf f w == 0)

/-- The words of a SET with their places in the frame. -/
def placed (o : Obj) (ws : List Nat) : List (Nat × Nat) := (ws.zipIdx).map (fun x => (x.1, o.word + x.2))

/-- Check 5 of R520 for a SET: its modes (R385, R386), those of EXPERT_CTL (R35), of expert writes (R36), of THM_BAND (R318), of REDISC (R421) and of HALT (R21). -/
def setMode (s : State) (id : Nat) (o : Obj) (i : Nat) (ws : List Nat) : Bool :=
  let m := s.mode
  if id = 0x1510 then m != mBoot && m != mMinimal
  else modesCfg.contains m &&
    (!expertObj id || [mStandby, mRehearsal, mCharacterise].contains m || (placed o ws).all (fun x => s.basicWord o.fam i x.2 x.1) ||
      (placed o ws).all (fun x => s.rwlWord o.fam i x.2 x.1)) &&
    (id != 0x0F00 || m == mStandby || m == mRehearsal) && (id != 0x0D10 || valOf o.word ws Reg.TWX_CTL_REDISC == 0 || m == mStandby) &&
    (id != 0x0600 || valOf o.word ws Reg.LE_CTL_HALT == s.rd Reg.LE_CTL_HALT || (m == mRehearsal && s.stagesOff))

/-- Every check of a SET from the interface level on, in the order of R520. -/
def setStatus (s : State) (id : Nat) (o : Obj) (i : Nat) (ws : List Nat) : Nat :=
  if s.servedIl < objIl id then stVersion
  else if ¬ fieldsOk id o i ws then stBadParam
  else if ¬ s.setMode id o i ws then stWrongMode
  else if s.setBusy id i ws (valOf o.word ws) then stBusy
  else if s.setOk id i (valOf o.word ws) then stOk
  else stBadParam

/-- The words of a SET are written. -/
def writeObj (s : State) (o : Obj) (i : Nat) (ws : List Nat) : State := (placed o ws).foldl (fun s x => s.writeWord false o.fam i x.2 x.1) s

/-- FIRE written by the session that owns the job (R348). -/
def fireJob (s : State) (p : Port) (id w : Nat) : State :=
  let j := id - 0x0B10
  if 0x0B10 ≤ id ∧ id < 0x0B18 ∧ bit w 0 ∧ s.rd Reg.CAP_JOB_PORT j = p.idx ∧ s.rd Reg.CAP_JOB_TRIG j = 1 then s.triggerJob j else s

/-- SET (R390, R520). -/
def setBody (s : State) (p : Port) (c : Cmd) : Result :=
  match setData c.obj c.payload with
  | none => (s, stBadParam, [])
  | some (o, i, ws) => let st := s.setStatus c.obj o i ws; (if st = stOk then (s.writeObj o i ws).fireJob p c.obj (ws.headD 0) else s, st, [])

/-- GET (R390). -/
def getBody (s : State) (_p : Port) (c : Cmd) : Result :=
  let s := s.capSync
  match findObj c.obj with
  | none => (s, stBadParam, [])
  | some o =>
    let i := if o.arrayed then leNat (c.payload.take 1) else o.base
    if c.payload.length ≠ (if o.arrayed then 1 else 0) ∨ (o.arrayed ∧ o.fam.count ≤ i) then (s, stBadParam, [])
    else if s.servedIl < objIl c.obj then (s, stVersion, [])
    else (s, stOk, wordBytes (s.readObj o i))

/-! ### Windows and addresses (R391, R392) -/

/-- The bytes that a GETBLK reads, where the transfer is allowed (R150, R177, R201, R351, R391). -/
def blockBytes (s : State) (id start n : Nat) : Option (List Byte) :=
  if id = 0x0602 then
    if start < 0x1000 then if n ≤ 20 ∧ start + n ≤ 0x1000 then some ((List.range n).flatMap (fun k => s.bytesAt (0x90000000 + 16 * (start + k)) 12)) else none
    else if 0x1000 ≤ start ∧ start < 0x1200 then if n ≤ 60 ∧ start + n ≤ 0x1200 then some (s.bytesAt (bankA + 4 * (start - 0x1000)) (4 * n)) else none
    else if 0x1800 ≤ start ∧ start < 0x1A00 then if n ≤ 60 ∧ start + n ≤ 0x1A00 then some (s.bytesAt (bankA + bankSize + 4 * (start - 0x1800)) (4 * n)) else none
    else none
  else if 240 < n then none
  else if id = 0x0702 then if start + n ≤ 0x8000 then some (s.bytesAt (0x90020000 + start) n) else none
  else if id = 0x0622 then if start + n ≤ 0x220 then some ((List.range n).map (fun k => s.resByte (start + k))) else none
  else if id = 0x0B03 then if start + n ≤ 0x40000 then some (s.bytesAt (0x91000000 + start) n) else none
  else if id = 0x0B04 then if start + n ≤ 0x200 then some ((List.range n).map (fun k => s.hlthByte (start + k))) else none
  else none

/-- GETBLK (R391). -/
def getblkBody (s : State) (_p : Port) (c : Cmd) : Result :=
  let s := s.capSync
  let n := leNat (c.payload.drop 4)
  if c.payload.length ≠ 5 ∨ n = 0 ∨ ¬ [0x0602, 0x0702, 0x0622, 0x0B03, 0x0B04].contains c.obj then (s, stBadParam, [])
  else if s.servedIl < objIl c.obj then (s, stVersion, [])
  else
    match s.blockBytes c.obj (leNat (c.payload.take 4)) n with
    | some b => (s, stOk, b)
    | none => (s, stBadParam, [])

/-- Words written to a memory in order; none is written where one of them may not be (R201, R391, R392). -/
def memWords (s : State) (l : List (Nat × Nat)) : State × Nat :=
  let r := l.foldl (fun (x : State × Nat) y => if x.2 = stOk then x.1.memWord y.1 y.2 else x) (s, stOk)
  if r.2 = stOk then r else (s, r.2)

/-- SETBLK of LE_MEM (R36, R147, R150, R155). -/
def setLeMem (s : State) (start : Nat) (d : List Byte) : State × Nat :=
  let ws := (leWords d).zipIdx
  if start < 0x1000 then
    if d.length % 12 ≠ 0 ∨ 240 < d.length ∨ 0x1000 < start + d.length / 12 then (s, stBadParam)
    else if ¬ [mStandby, mRehearsal, mCharacterise].contains s.mode then (s, stWrongMode)
    else if s.on Reg.BIST_STAT_RUN then (s, stBusy)
    else s.memWords (ws.map (fun x => (0x90000000 + 16 * (start + x.2 / 3) + 4 * (x.2 % 3), x.1)))
  else if 0x1800 ≤ start ∧ start < 0x1A00 then
    if d.length % 4 ≠ 0 ∨ 240 < d.length ∨ 0x1A00 < start + d.length / 4 then (s, stBadParam)
    else if ¬ modesCfg.contains s.mode then (s, stWrongMode)
    else if s.on Reg.BIST_STAT_RUN then (s, stBusy)
    else s.memWords (ws.map (fun x => (bankA + bankSize + 4 * (start - 0x1800 + x.2), x.1)))
  else (s, stBadParam)

/-- SETBLK of PHM_MEM (R201). -/
def setPhmMem (s : State) (start : Nat) (d : List Byte) : State × Nat :=
  let ws := leWords d
  if d.length % 4 ≠ 0 ∨ start % 4 ≠ 0 ∨ 240 < d.length ∨ 0x8000 < start + d.length ∨ ws.any (fun w => bits w 3 0 != 0) then (s, stBadParam)
  else if s.tableStatus = stWrongMode then (s, stWrongMode)
  else if s.on Reg.BIST_STAT_RUN then (s, stBusy)
  else s.memWords (ws.zipIdx.map (fun x => (0x90020000 + start + 4 * x.2, x.1)))

/-- SETBLK (R391). -/
def setblkBody (s : State) (_p : Port) (c : Cmd) : Result :=
  if c.payload.length < 5 then (s, stBadParam, [])
  else
    let start := leNat (c.payload.take 4)
    let d := c.payload.drop 4
    let r := if c.obj = 0x0602 then s.setLeMem start d else if c.obj = 0x0702 then s.setPhmMem start d else (s, stBadParam)
    (r.1, r.2, [])

/-- PEEK (R392). -/
def peekBody (s : State) (_p : Port) (c : Cmd) : Result :=
  let s := s.capSync
  let a := leNat (c.payload.take 4)
  let n := leNat (c.payload.drop 4)
  if c.payload.length ≠ 5 ∨ c.obj ≠ 0xFFFF ∨ a % 4 ≠ 0 ∨ n = 0 ∨ 60 < n then (s, stBadParam, [])
  else
    match s.busBytes a (4 * n) with
    | some b => (s, stOk, b)
    | none => (s, stBadParam, [])

/-- The words of an object as a SET would carry them to leave it alone: no flag cleared, no action (R392). -/
def idleWords (s : State) (o : Obj) (i : Nat) : List Nat :=
  (List.range o.words).map (fun k => (o.fam.fields.filter (fun f => f.word == o.word + k && f.acc != .w1c && f.acc != .wo)).foldl (fun a f => a + s.readFld f i * 2 ^ f.lo) 0)

/-- One word of a POKE: the write that a SET of its object would make, or of its memory (R392). -/
def pokeWord (s : State) (p : Port) (a w : Nat) : State × Nat :=
  if 0x80000000 ≤ a ∧ a < 0x80160000 then
    match findAddr a with
    | none => (s, stBadParam)
    | some (f, i, k) =>
      let id := if f.stride = 0 then f.obj + i else f.obj + k
      match findObj id with
      | none => (s, stBadParam)
      | some o =>
        let ws := (s.idleWords o i).set (k - o.word) w
        let st := s.setStatus id o i ws
        (if st = stOk then if k = 0 then (s.writeWord false f i k w).fireJob p id w else s.writeWord false f i k w else s, st)
  else if s.on Reg.BIST_STAT_RUN ∧ 0x90000000 ≤ a then (s, stBusy)
  else s.memWord a w

/-- A word that a POKE may write in every mode of SET: a basic write of an expert object, or one that changes RWL fields only (R36, R517). -/
def pokeAnyMode (s : State) (a w : Nat) : Bool :=
  match findAddr a with
  | some (f, i, k) => expertObj (if f.stride = 0 then f.obj + i else f.obj + k) && (s.basicWord f i k w || s.rwlWord f i k w)
  | none => false

/-- POKE (R36, R392, R517): in its modes, or with words that every mode of SET allows; every word or none. -/
def pokeBody (s : State) (p : Port) (c : Cmd) : Result :=
  let a := leNat (c.payload.take 4)
  let ws := leWords (c.payload.drop 4)
  if c.payload.length % 4 ≠ 0 ∨ ws.isEmpty ∨ 60 < ws.length ∨ c.obj ≠ 0xFFFF ∨ a % 4 ≠ 0 then (s, stBadParam, [])
  else if ¬ ([mStandby, mRehearsal, mCharacterise].contains s.mode ∨ (modesCfg.contains s.mode ∧ ws.zipIdx.all (fun x => s.pokeAnyMode (a + 4 * x.2) x.1))) then (s, stWrongMode, [])
  else
    let r := ws.zipIdx.foldl (fun (x : State × Nat) y => if x.2 = stOk then x.1.pokeWord p (a + 4 * y.2) y.1 else x) (s, stOk)
    if r.2 = stOk then (r.1, stOk, []) else (s, r.2, [])

/-- FENCE (R371, R372): the commands of an old owner act as if it were still owner (R376). -/
def fenceBody (s : State) (p : Port) (c : Cmd) : Result :=
  if c.payload.length ≠ 0 ∨ c.obj ≠ 0xFFFF then (s, stBadParam, [])
  else (if c.asOwner ∨ s.isOwner p then s.publish else s, stOk, [])

/-- The word of a scalar one-word object as a SET would carry it to leave it alone. -/
def idleWord (s : State) (id : Nat) : Nat := match findObj id with
  | some o => (s.idleWords o o.base).headD 0
  | none => 0

/-- A SET of an object with these words, arriving as a packet of its session. -/
def setRow (p : Port) (h : Hdr) (id : Nat) (ws : List Nat) (s : State) : State :=
  hostRow 0x11 p { h with objId := BitVec.ofNat 16 id } (wordBytes ws) setBody s

end State

/-- SET (R390). -/
def execSet (p : Port) (h : Hdr) (pl : List Byte) (s : State) : Host.Outcome State Fault Refusal := act s (hostRow 0x11 p h pl State.setBody)

/-- GET (R390). -/
def execGet (p : Port) (h : Hdr) (pl : List Byte) (s : State) : Host.Outcome State Fault Refusal := act s (hostRow 0x10 p h pl State.getBody)

/-- GETBLK (R391). -/
def execGetblk (p : Port) (h : Hdr) (pl : List Byte) (s : State) : Host.Outcome State Fault Refusal := act s (hostRow 0x12 p h pl State.getblkBody)

/-- SETBLK (R391). -/
def execSetblk (p : Port) (h : Hdr) (pl : List Byte) (s : State) : Host.Outcome State Fault Refusal := act s (hostRow 0x13 p h pl State.setblkBody)

/-- PEEK (R392). -/
def execPeek (p : Port) (h : Hdr) (pl : List Byte) (s : State) : Host.Outcome State Fault Refusal := act s (hostRow 0x18 p h pl State.peekBody)

/-- POKE (R392). -/
def execPoke (p : Port) (h : Hdr) (pl : List Byte) (s : State) : Host.Outcome State Fault Refusal := act s (hostRow 0x19 p h pl State.pokeBody)

/-- FENCE (R371). -/
def execFence (p : Port) (h : Hdr) (pl : List Byte) (s : State) : Host.Outcome State Fault Refusal := act s (hostRow 0x06 p h pl State.fenceBody)

/-- EXPERT_UNLOCK (R35). -/
def execExpertUnlock (p : Port) (h : Hdr) (s : State) : Host.Outcome State Fault Refusal := act s (State.setRow p h 0x1510 [0x3296])

/-- EXPERT_LOCK (R35). -/
def execExpertLock (p : Port) (h : Hdr) (s : State) : Host.Outcome State Fault Refusal := act s (State.setRow p h 0x1510 [0])

/-- COMMIT_GO (R380). -/
def execCommitGo (p : Port) (h : Hdr) (s : State) : Host.Outcome State Fault Refusal := act s (State.setRow p h 0x1511 [1])

/-- LE_SWAP_ARM (R156): SWAP, with HALT as it is. -/
def execLeSwapArm (p : Port) (h : Hdr) (s : State) : Host.Outcome State Fault Refusal := act s (fun s => State.setRow p h 0x0600 [16 * s.rd Reg.LE_CTL_HALT + 128] s)

/-- LE_HALT (R156). -/
def execLeHalt (p : Port) (h : Hdr) (halt : Bool) (s : State) : Host.Outcome State Fault Refusal := act s (State.setRow p h 0x0600 [16 * b2n halt])

/-- CCT_SNAP (R97): SNAP, with EN as it is. -/
def execCctSnap (p : Port) (h : Hdr) (s : State) : Host.Outcome State Fault Refusal := act s (fun s => State.setRow p h 0x0A00 [s.rd Reg.CCT_CTL_EN + 2] s)

/-- CCT_ENABLE (R97). -/
def execCctEnable (p : Port) (h : Hdr) (en : Bool) (s : State) : Host.Outcome State Fault Refusal := act s (State.setRow p h 0x0A00 [b2n en])

/-- CAP_JOB_FIRE (R348). -/
def execCapJobFire (p : Port) (h : Hdr) (job : Fin 8) (s : State) : Host.Outcome State Fault Refusal := act s (State.setRow p h (0x0B10 + job) [1, 0, 0, 0])

/-- TWX_REDISC (R421): REDISC, with the other fields as they are. -/
def execTwxRedisc (p : Port) (h : Hdr) (s : State) : Host.Outcome State Fault Refusal := act s (fun s => State.setRow p h 0x0D10 [s.idleWord 0x0D10 + 1] s)

/-- TWX_HXFR_GO (R428): the four words of the object, with GO. -/
def execTwxHxfrGo (p : Port) (h : Hdr) (words : List Word) (s : State) : Host.Outcome State Fault Refusal :=
  match words with
  | [a, b, c, d] => act s (State.setRow p h 0x0D12 [a.toNat % 2 ^ 31 + 2 ^ 31, b.toNat, c.toNat, d.toNat])
  | _ => .refused .illFormed

end Sys2Proof.Machine
end

