-- ==== Sys2Proof/Machine/RailCmds.lean ====
section
/-!
DEFINITION. The rail and phase opcodes RAIL_CFG to UNDERSTUDY: their checks, what they stage, and the design of a rail's coefficients (R84, R104, R112, R120, R122, R132, R135, R138, R139, R146, R159, R181 to R183, R208, R393 to R396).
-/

namespace Sys2Proof.Machine

/-- A field of a payload: `n` bytes at an offset, little-endian. -/
def fieldAt (pl : List Byte) (off n : Nat) : Nat := leNat ((pl.drop off).take n)

/-- The status of the first check that fails; OK when none does (R520). -/
def firstFail (l : List (Bool × Nat)) : Nat := match l.find? (fun x => x.1) with
  | some x => x.2
  | none => stOk

/-! ### The basic law's coefficients (R135, R394) -/

/-- The constraints of R135 on the twelve codes of a half, and that each has a code of 32 bits. -/
def lawCodesOk (l : List Int) : Bool :=
  let g (k : Nat) : Int := l.getD k 0
  l.all (fun x => satS 32 x == x) && decide (0 ≤ g 3) && decide (g 3 < 2 ^ 30) && decide (0 ≤ g 4) && decide (0 ≤ g 5) && decide (g 5 < g 6) &&
    decide (g 6 < 2 ^ 30) && decide (0 ≤ g 8) && decide (g 8 ≤ 2 ^ 27) && decide (0 < g 9) && decide (g 9 ≤ 2 ^ 30) && decide (0 < g 11)

/-- The INTERMISSION half: the same law at four times the update interval (R135). -/
def interHalf (l : List Int) : List Int :=
  let g (k : Nat) : Int := l.getD k 0
  let ad4 : Int := g 3 * g 3 * g 3 * g 3
  let na : Int := 2 ^ 30 - g 9
  [g 0, 4 * g 1, rdiv (g 2 * (2 ^ 120 - ad4)) (4 * (2 ^ 30 - g 3) * 2 ^ 90), rdiv ad4 (2 ^ 90), g 4, g 5, g 6, g 7, g 8, 2 ^ 30 - rdiv (na * na * na * na) (2 ^ 90), g 10, g 11]

/-- RLL from its code of 0.25 µΩ, in Q4.28 mΩ (R135, R159). -/
def rllCode (rll : Nat) : Int := rdiv ((rll : Int) * 2 ^ 28) 4000

/-- The plant and the targets that DESIGN 0 gives (R393). -/
structure Plant where
  vin : Nat
  pm : Nat
  lph : Nat
  cout : Nat
  fc : Nat
  dmax : Nat
  stepth : Nat
  kcue : Nat
  fsw : Nat
  rll : Nat
  deriving DecidableEq, Repr

/-- The crossover lies above twice f0 of `n` phases (R394); 4 π² FC² L C against 4. -/
def fcAboveF0 (p : Plant) (n : Nat) : Bool :=
  decide (4 * 10 ^ 8 * (n : Int) * 2 ^ 40 < pi40 * pi40 / 2 ^ 40 * ((p.fc * p.fc * p.lph * p.cout : Nat) : Int))

/-- The codes of DESIGN 0 (R394); `ts` is the update interval in 10 ns. -/
def designCodes (p : Plant) (n ts : Nat) : List Int :=
  let mag := rdiv (pi40 * pi40 / 2 ^ 40 * ((p.fc * p.fc * p.lph * p.cout : Nat) : Int)) (10 ^ 7 * (n * p.vin : Nat))
  let th : Int := p.pm * 100 + 9 * p.fc
  let rad (x : Int) : Int := rdiv (pi40 * x) 18000
  let a := if th ≤ 9000 then mag * cosSeries (rad th) / 2 ^ 40 else -(mag * cosSeries (rad (18000 - th)) / 2 ^ 40)
  let b := mag * sinSeries (rad (if th ≤ 9000 then th else 18000 - th)) / 2 ^ 40
  let x := rdiv (52 * (10 * b + a)) 510
  let kp := a - rdiv (5 * x) 26
  let w := rdiv (2 * pi40 * (p.fc * ts : Nat)) 100000
  let ad := expQ (-(5 * w))
  [rdiv kp (2 ^ 16), rdiv (kp * w) (10 * 2 ^ 52), rdiv (x * (2 ^ 40 - ad)) (w * 2 ^ 16), rdiv ad (2 ^ 10), rdiv (2 ^ 30) 10, 0,
    rdiv ((p.dmax : Int) * 2 ^ 30) 100, 2 ^ 28, rllCode p.rll, rdiv (2 ^ 40 - expQ (-rdiv ((ts : Int) * 2 ^ 40) 100)) (2 ^ 10),
    rdiv ((p.kcue : Int) * 2 ^ 28) 1000, rdiv ((p.stepth : Int) * 2 ^ 28) 1000]

namespace State

/-- Words of a context's block in the staged bank, and the swap that brings them in is armed (R147). -/
def loadCoefs (s : State) (base : Nat) (l : List Int) : State :=
  (((l.zipIdx).foldl (fun s x => s.putCoef (base + x.2) (code 32 x.1)) s).setV .swapStaged 0 1).setV .bankTouched 0 1

/-- Both halves of a rail's block with their reserved words (R135). -/
def loadLaw (s : State) (r : Nat) (l : List Int) : State :=
  let pad : List Int := [0, 0, 0, 0]
  (s.loadCoefs (coefBase r) (l ++ pad)).loadCoefs (coefBase r + 0x30) (interHalf l ++ pad)

/-! ### The phase set (R112, R122, R181, R182) -/

/-- The phases of a rail as they stand staged, understudies or the others. -/
def stgPhases (s : State) (r : Nat) (ustudy : Bool) : List Nat :=
  (List.range 32).filter (fun c => s.stg Reg.PHM_ASSIGN c == 1 && s.stg Reg.PHM_RAIL c == r && (s.stg Reg.PHM_USTUDY c == 1) == ustudy)

/-- The half-period that a map takes: the staged PRD of its lowest non-understudy (R181). -/
def mapPrd (s : State) (own : List Nat) : Nat := match own.head? with
  | some c => s.stg Reg.PWM_PRD c
  | none => 0

/-- The map's rail runs at PREF's frequency (R181). -/
def atPref (s : State) (prd : Nat) : Bool := prd == s.stg Reg.PWM_REF_PRD

/-- A rail at another frequency stands on contiguous channels, understudies highest (R122, R181); both lists rise. -/
def layoutOk (own us : List Nat) : Bool :=
  let all := (List.range 32).filter (fun c => own.contains c || us.contains c)
  (match all.head?, all.getLast? with
    | some a, some b => b + 1 == a + all.length
    | _, _ => true) &&
  (match own.getLast?, us.head? with
    | some a, some b => decide (a < b)
    | _, _ => true)

/-- OUTM of an even channel after a map (R112). -/
def pairAfter (s : State) (r : Nat) (l : List Nat) (pair c : Nat) : Bool :=
  bit pair (c / 2) || (!(l.contains c || (s.stg Reg.PHM_ASSIGN c == 1 && s.stg Reg.PHM_RAIL c == r)) && s.stg Reg.PWM_OUTM c == 1)

/-- A phase is held by another rail than `r`, as it stands staged. -/
def heldElsewhere (s : State) (r c : Nat) : Bool := s.stg Reg.PHM_ASSIGN c == 1 && s.stg Reg.PHM_RAIL c != r

/-- A pairing borrows the pin of an assigned phase, or names a phase of another rail (R112). -/
def pairClash (s : State) (r : Nat) (l : List Nat) (pair : Nat) : Bool :=
  (List.range 16).any (fun k =>
    (bit pair k && (s.heldElsewhere r (2 * k) || s.heldElsewhere r (2 * k + 1))) || (s.pairAfter r l pair (2 * k) && l.contains (2 * k + 1)))

/-- The phases whose failed mark a map clears (R181). -/
def clears (s : State) (clrf : Nat) : List Nat := (maskList 32 clrf).filter (fun c => s.rd Reg.PHM_ROLE c == 4)

/-- The map changes the phase set of its rail. -/
def mapChanges (s : State) (r : Nat) (own us : List Nat) (pair : Nat) : Bool :=
  own != s.stgPhases r false || us != s.stgPhases r true || (List.range 16).any (fun k => (own ++ us).contains (2 * k) && bit pair k != (s.stg Reg.PWM_OUTM (2 * k) == 1))

/-- The refusals of a map, in the order of R520; `prd` is the half-period it takes. -/
def mapStatus (s : State) (r : Nat) (own us : List Nat) (pair clrf prd : Nat) : Nat :=
  firstFail
    [((s.mapChanges r own us pair && s.railState r != railDisabled) || (s.clears clrf).any (fun c => match s.railOf c with
        | some q => s.railState q != railDisabled
        | none => false), stBusy),
     ((own ++ us).any (fun c => s.heldElsewhere r c), stConflict),
     (s.pairClash r (own ++ us) pair, stConflict),
     (!s.atPref prd && !layoutOk own us, stConflict),
     (own.isEmpty && !us.isEmpty, stBadParam)]

/-- PRD, SYNCSEL and PHSV of a rail's phases (R122, R181, R182). -/
def stageSync (s : State) (r : Nat) (own us : List Nat) (prd : Nat) : State :=
  let rofs := s.stg Reg.PHM_BAL_ROFS r
  let slot (c : Nat) : Nat := if us.contains c then 0 else own.idxOf c
  let lead := (own ++ us).foldl min 32
  (own ++ us).foldl (fun s c =>
    let sel := if s.atPref prd then 1 else if c = lead then 0 else 2
    let ph := if sel = 0 then 0 else phsvAt own.length rofs (2 * prd) (slot c) (if sel = 2 then some (slot (c - 1)) else none)
    ((s.stage Reg.PWM_PRD c prd).stage Reg.PWM_SYNCSEL c sel).stage Reg.PWM_PHSV c ph) s

/-- A phase leaves its rail: unassigned, its carrier stopped (R181). -/
def stageFree (s : State) (c : Nat) : State := ((s.stage Reg.PHM_ASSIGN c 0).stage Reg.PHM_USTUDY c 0).stage Reg.PWM_CEN c 0

/-- A phase joins a rail: assigned, its carrier and its current sense running (R80, R181). -/
def stageJoin (s : State) (r c : Nat) (us : Bool) : State :=
  ((((s.stage Reg.PHM_ASSIGN c 1).stage Reg.PHM_RAIL c r).stage Reg.PHM_USTUDY c (b2n us)).stage Reg.PWM_CEN c 1).stage Reg.CSA_EN c 1

/-- What a map stages (R112, R181, R182). -/
def stageMap (s : State) (r : Nat) (own us : List Nat) (pair clrf prd : Nat) : State :=
  let l := own ++ us
  let was := s.stgPhases r false ++ s.stgPhases r true
  let s := (List.range 16).foldl (fun s k => if l.contains (2 * k) ∨ was.contains (2 * k) ∨ bit pair k then s.stage Reg.PWM_OUTM (2 * k) (b2n (bit pair k)) else s) s
  let s := (was.filter (fun c => !l.contains c)).foldl (fun s c => s.stageFree c) s
  let s := l.foldl (fun s c => s.stageJoin r c (us.contains c)) s
  let s := (s.stageSync r own us prd).setOn .mapStaged r (s.railState r == railDisabled)
  (s.clears clrf).foldl (fun s c => match s.railOf c with
    | some q => (s.setV .clrStaged c 1).setV .mapStaged q 1
    | none => s.setV .clrStaged c 1) s

/-- PHASE_MAP (R181, R396). -/
def phaseMapBody (s : State) (_p : Port) (c : Cmd) : Result :=
  let f (o n : Nat) : Nat := fieldAt c.payload o n
  let r := f 0 1
  let own := maskList 32 (f 1 4)
  let us := maskList 32 (f 5 4)
  let st := checkCmd c (c.payload.length = 15) (decide (r < 4) && !own.any us.contains) modesCfg s
  let prd := s.mapPrd own
  let st := if st = stOk then s.mapStatus r own us (f 9 2) (f 11 4) prd else st
  (if st = stOk then s.stageMap r own us (f 9 2) (f 11 4) prd else s, st, [])

/-! ### RAIL_CFG -/

/-- The fixed positions of a rail's source in the normal schedule: converter, lower slot; and in the solo schedules: lower slot (R84). -/
def schedPlace (r : Nat) : Nat × Nat × Nat := (r / 2, r % 2, r)

/-- The rail's source stands elsewhere, or another source stands in a position that RAIL_CFG writes (R84). -/
def schedClash (s : State) (r : Nat) : Bool :=
  let (conv, n, m) := schedPlace r
  (List.range 4).any (fun k => ((s.schedOf k).zipIdx).any (fun x =>
    let lo := if k < 2 then n else m
    if (k = conv ∨ 2 ≤ k) ∧ (x.2 = lo ∨ x.2 = lo + 8) then x.1 != 0 && x.1 != r + 1 else x.1 == r + 1))

/-- The rail's source is written in its fixed positions (R84). -/
def stageSched (s : State) (r : Nat) (two : Bool) : State :=
  let (conv, n, m) := schedPlace r
  [(conv, n), (2, m), (3, m)].foldl (fun s x =>
    match schedSlots[x.2]?, schedSlots[x.2 + 8]? with
    | some a, some b => (s.stage a x.1 (r + 1)).stage b x.1 (if two then r + 1 else 0)
    | _, _ => s) s

/-- The values of the frame that a RAIL_CFG carries: field and value (R158, R393). -/
def frameValues (pl : List Byte) : List (Fld × Nat) :=
  let f (o n : Nat) : Nat := fieldAt pl o n
  [(Reg.LE_VSRC, f 1 1 % 2), (Reg.LE_PREBIAS, f 1 1 / 2 % 2), (Reg.LE_VTGT, f 14 2), (Reg.LE_VMIN, f 16 2), (Reg.LE_VMAX, f 18 2), (Reg.LE_SLEW, f 20 2),
   (Reg.LE_SSSLEW, f 22 2), (Reg.LE_RDSLEW, f 24 2), (Reg.LE_PGHI, f 26 1), (Reg.LE_PGLO, f 27 1), (Reg.LE_PGDLY, f 28 1), (Reg.LE_ENDLY, f 29 1),
   (Reg.LE_PRETIME, f 30 1), (Reg.LE_VPMAX, f 31 1), (Reg.LE_RDYN, f 32 2), (Reg.LE_BUDGET, if bit (f 1 1) 3 then 32 else 64)]

/-- The plant of a DESIGN 0 request. -/
def plantOf (pl : List Byte) : Plant :=
  let f (o n : Nat) : Nat := fieldAt pl o n
  ⟨f 36 1, f 37 1, f 38 2, f 40 2, f 42 2, f 44 1, f 45 1, f 46 2, f 10 4, f 34 2⟩

/-- The codes that DESIGN 1 gives; RLL comes from its own field (R393). -/
def directCodes (pl : List Byte) : List Int :=
  ((leWords ((pl.drop 36).take 48)).map (sgn 32)).set 8 (rllCode (fieldAt pl 34 2))

/-- Check 4 of R520 for RAIL_CFG: ranges and relations that depend on no state of the part (R104, R158, R393, R394). -/
def cfgFieldsOk (pl : List Byte) : Bool :=
  let f (o n : Nat) : Nat := fieldAt pl o n
  let prd := rdiv 400000000 (f 10 4)
  decide (f 0 1 < 4) && decide (f 1 1 < 16) && Nat.land (f 2 4) (f 6 4) == 0 && (f 2 4 != 0 || f 6 4 == 0) && decide (134 ≤ prd) && decide (prd ≤ 2666) &&
    (frameValues pl).all (fun x => inRange x.1 x.2) && decide (f 16 2 ≤ f 14 2) && decide (f 14 2 ≤ f 18 2) && decide (f 34 2 ≤ 2000) &&
    (if bit (f 1 1) 2 then lawCodesOk (directCodes pl)
    else decide (20 ≤ f 37 1) && decide (f 37 1 ≤ 80) && decide (1 ≤ f 44 1) && decide (f 44 1 ≤ 95) && f 36 1 != 0 && f 45 1 != 0 && decide (4000 * f 42 2 ≤ f 10 4))

/-- RAIL_CFG (R84, R159, R393, R394). -/
def railCfgBody (s : State) (_p : Port) (c : Cmd) : Result :=
  let pl := c.payload
  let f (o n : Nat) : Nat := fieldAt pl o n
  let r := f 0 1
  let direct := bit (f 1 1) 2
  let two := bit (f 1 1) 3
  let st := checkCmd c (pl.length = if direct then 84 else 48) (cfgFieldsOk pl) modesCfg s
  if st ≠ stOk then (s, st, [])
  else
    let prd := (rdiv 400000000 (f 10 4)).toNat
    let given : Bool := f 2 4 != 0
    let own := if given then maskList 32 (f 2 4) else s.stgPhases r false
    let us := if given then maskList 32 (f 6 4) else s.stgPhases r true
    let codes := if direct then directCodes pl else designCodes (plantOf pl) own.length (if two then 8 else 16)
    let st := firstFail
      [(s.railState r != railDisabled || s.vn .onStaged r == 1 || s.vn .onPub r == 1 || s.on Reg.LE_CTL_SWPEND, stBusy),
       (given && s.mapStatus r own us 0 0 prd != stOk, s.mapStatus r own us 0 0 prd),
       (!s.atPref prd && !layoutOk own us, stConflict),
       (s.schedClash r, stConflict),
       ((own ++ us).any (fun c => !s.prdOk c prd), stBadParam),
       (!direct && (own.isEmpty || !fcAboveF0 (plantOf pl) own.length), stBadParam),
       (!(lawCodesOk codes && lawCodesOk (interHalf codes)), stBadParam)]
    if st ≠ stOk then (s, st, [])
    else
      let s := if given then s.stageMap r own us 0 0 prd else s.stageSync r own us prd
      let s := (frameValues pl).foldl (fun s x => s.stage x.1 r x.2) (s.stageSched r two)
      (s.loadLaw r codes, stOk, [])

/-! ### RAIL_ON, RAIL_OFF, SETV, SETSLEW, LOADLINE -/

/-- RAIL_ON (R47, R63, R69, R84, R159, R395). -/
def railOnBody (s : State) (p : Port) (c : Cmd) : Result :=
  let r := fieldAt c.payload 0 1
  let st := firstFail
    [(c.payload.length != 1 || c.obj != 0xFFFF, stBadParam), (decide (2 ≤ s.rd Reg.SYS_BOOT_LOOPSTAT), stVersion),
     (decide (4 ≤ r), stBadParam), (!railOnModes.contains s.mode, stWrongMode), (s.railLive r, stBusy),
     (s.railState r == railFaultOff, stWrongMode), (s.slotCount (r + 1) == 0, stConflict)]
  if st ≠ stOk then (s, st, [])
  else
    let s := s.interTrigger.setV .onStaged r 1
    ({ s with railWaits := s.railWaits ++ [⟨r, true, p.idx + 1, c.tag⟩] }, stAccepted, [])

/-- RAIL_OFF (R146, R159, R395). -/
def railOffBody (s : State) (p : Port) (c : Cmd) : Result :=
  let r := fieldAt c.payload 0 1
  let st := checkCmd c (c.payload.length = 1) (r < 4) modesCfg s
  if st ≠ stOk then (s, st, [])
  else if s.railState r = railFaultOff then (s, stWrongMode, [])
  else if s.railState r = railDisabled then (if s.vn .onStaged r = 1 then s.unstageOn r 0x0E else s, stOk, [])
  else if s.rampingDown r then (s, stOk, [])
  else
    let s := s.setV .onStaged r 2
    ({ s with railWaits := s.railWaits ++ [⟨r, false, p.idx + 1, c.tag⟩] }, stAccepted, [])

/-- SETV (R138, R139). -/
def setvBody (s : State) (_p : Port) (c : Cmd) : Result :=
  let r := fieldAt c.payload 0 1
  let v := fieldAt c.payload 1 2
  let st := checkCmd c (c.payload.length = 3) (decide (r < 4) && decide (v ≤ 3200)) modesCfg s
  let st := if st ≠ stOk then st else firstFail
    [(s.published Reg.LE_VSRC r == 1, stConflict), (!(decide (s.stg Reg.LE_VMIN r ≤ v) && decide (v ≤ s.stg Reg.LE_VMAX r)), stBadParam)]
  (if st = stOk then s.stage Reg.LE_VTGT r v else s, st, [])

/-- SETSLEW (R159, R395). -/
def setslewBody (s : State) (_p : Port) (c : Cmd) : Result :=
  let r := fieldAt c.payload 0 1
  let v := fieldAt c.payload 1 2
  let st := checkCmd c (c.payload.length = 3) (decide (r < 4) && decide (1 ≤ v) && decide (v ≤ 1000)) modesCfg s
  (if st = stOk then s.stage Reg.LE_SLEW r v else s, st, [])

/-- LOADLINE (R159, R395): words 0x08 and 0x38 of the block, through a swap. -/
def loadlineBody (s : State) (_p : Port) (c : Cmd) : Result :=
  let r := fieldAt c.payload 0 1
  let v := fieldAt c.payload 1 2
  let st := checkCmd c (c.payload.length = 3) (decide (r < 4) && decide (v ≤ 2000)) modesCfg s
  let st := if st = stOk ∧ s.on Reg.LE_CTL_SWPEND then stBusy else st
  (if st = stOk then (s.loadCoefs (coefBase r + 0x08) [rllCode v]).loadCoefs (coefBase r + 0x38) [rllCode v] else s, st, [])

/-! ### SHED_POLICY and UNDERSTUDY -/

/-- SHED_POLICY (R208, R396): the words of PHM_SHED_x, under the checks of a SET. -/
def shedPolicyBody (s : State) (_p : Port) (c : Cmd) : Result :=
  let r := fieldAt c.payload 0 1
  let ws := leWords (c.payload.drop 1)
  match findObj (0x0714 + r) with
  | none => (s, stBadParam, [])
  | some o =>
    let st := checkCmd c (c.payload.length = 13) (decide (r < 4) && fieldsOk (0x0714 + r) o o.base ws) modesCfg s
    (if st = stOk then s.writeObj o o.base ws else s, st, [])

/-- What UNDERSTUDY names is checked for: the rail and the phase (R384). -/
def ustudyCheck (s : State) (c : Cmd) : Nat :=
  checkCmd c (c.payload.length = 3) (decide (fieldAt c.payload 1 1 < 4) && decide (fieldAt c.payload 2 1 < 32)) modesCfg s

/-- PRD, SYNCSEL and PHSV of one phase that becomes a waiting understudy, and PHSV of the phase that chains from it; slots stay until the next PHASE_MAP (R182, R183). -/
def stageUstudy (s : State) (r ch : Nat) (own us : List Nat) (prd : Nat) : State :=
  let lag (c : Nat) (slot : Nat) (src : Option Nat) (s : State) : State := s.stage Reg.PWM_PHSV c (phsvAt (s.vn .slotM r) (s.stg Reg.PHM_BAL_ROFS r) (2 * prd) slot src)
  let sel := if s.atPref prd then 1 else if ch = (own ++ us).foldl min 32 then 0 else 2
  let s := (s.stage Reg.PWM_PRD ch prd).stage Reg.PWM_SYNCSEL ch sel
  let s := if sel = 0 then s.stage Reg.PWM_PHSV ch 0 else s |> lag ch 0 (if sel = 2 then some (s.lagSlot (ch - 1)) else none)
  if (own ++ us).contains (ch + 1) ∧ s.stg Reg.PWM_SYNCSEL (ch + 1) = 2 then s |> lag (ch + 1) (s.lagSlot (ch + 1)) (some 0) else s

/-- The rail's set with one understudy more or less is staged, if its layout holds (R122, R181, R183); with a PHASE_MAP staged it joins that map. -/
def changeUstudy (s : State) (r ch : Nat) (add : Bool) : Result :=
  let own := (s.stgPhases r false).filter (fun c => c != ch)
  let us := (List.range 32).filter (fun c => if c = ch then add else (s.stgPhases r true).contains c)
  let prd := s.mapPrd own
  let st := firstFail [(!s.atPref prd && !layoutOk own us, stConflict), (add && decide (ch % 2 = 1) && s.stg Reg.PWM_OUTM (ch - 1) == 1, stConflict),
    (own.isEmpty && !us.isEmpty, stBadParam)]
  if st ≠ stOk then (s, st, [])
  else
    let s := if add then s.stageJoin r ch true else s.stageFree ch
    (if s.vOn .mapStaged r then s.stageSync r own us prd else if add then s.stageUstudy r ch own us prd else s, stOk, [])

/-- UNDERSTUDY, name (R183). -/
def ustudyName (s : State) (_p : Port) (c : Cmd) : Result :=
  let r := fieldAt c.payload 1 1
  let ch := fieldAt c.payload 2 1
  let st := s.ustudyCheck c
  let role := s.rd Reg.PHM_ROLE ch
  let live : Bool := (role == 1 || role == 2) && (match s.railOf ch with
    | some q => s.railState q != railDisabled
    | none => false)
  if st ≠ stOk then (s, st, [])
  else if live then (s, stConflict, [])
  else if (s.stgPhases r true).contains ch then (s, stOk, [])
  else if s.heldElsewhere r ch then (s, stConflict, [])
  else s.changeUstudy r ch true

/-- UNDERSTUDY, withdraw (R183): a phase that is no waiting understudy of the rail stays as it is. -/
def ustudyWithdraw (s : State) (_p : Port) (c : Cmd) : Result :=
  let r := fieldAt c.payload 1 1
  let ch := fieldAt c.payload 2 1
  let st := s.ustudyCheck c
  if st ≠ stOk then (s, st, [])
  else if ¬ (s.stgPhases r true).contains ch ∨ s.rd Reg.PHM_ROLE ch = 1 ∨ s.rd Reg.PHM_ROLE ch = 2 then (s, stOk, [])
  else s.changeUstudy r ch false

/-- UNDERSTUDY, retire (R183, R194). -/
def ustudyRetire (s : State) (_p : Port) (c : Cmd) : Result :=
  let r := fieldAt c.payload 1 1
  let ch := fieldAt c.payload 2 1
  let st := s.ustudyCheck c
  let x := s.railState r
  let st := if st ≠ stOk then st else firstFail
    [((s.understudies r).isEmpty, stConflict), (!((s.active r).contains ch || (s.parked r).contains ch), stBadParam),
     (x == railRamp || x == railHiccup, stBusy), (x != railRegulate, stWrongMode)]
  (if st = stOk then s.declareFailed ch 6 else s, st, [])

end State

/-- RAIL_CFG (R393). -/
def execRailCfg (p : Port) (h : Hdr) (pl : List Byte) (s : State) : Host.Outcome State Fault Refusal := act s (hostRow 0x20 p h pl State.railCfgBody)

/-- RAIL_ON (R395). -/
def execRailOn (p : Port) (h : Hdr) (pl : List Byte) (s : State) : Host.Outcome State Fault Refusal := act s (hostRow 0x21 p h pl State.railOnBody)

/-- RAIL_OFF (R395). -/
def execRailOff (p : Port) (h : Hdr) (pl : List Byte) (s : State) : Host.Outcome State Fault Refusal := act s (hostRow 0x22 p h pl State.railOffBody)

/-- SETV (R138). -/
def execSetv (p : Port) (h : Hdr) (pl : List Byte) (s : State) : Host.Outcome State Fault Refusal := act s (hostRow 0x23 p h pl State.setvBody)

/-- SETSLEW (R159). -/
def execSetslew (p : Port) (h : Hdr) (pl : List Byte) (s : State) : Host.Outcome State Fault Refusal := act s (hostRow 0x24 p h pl State.setslewBody)

/-- LOADLINE (R159). -/
def execLoadline (p : Port) (h : Hdr) (pl : List Byte) (s : State) : Host.Outcome State Fault Refusal := act s (hostRow 0x25 p h pl State.loadlineBody)

/-- PHASE_MAP (R181). -/
def execPhaseMap (p : Port) (h : Hdr) (pl : List Byte) (s : State) : Host.Outcome State Fault Refusal := act s (hostRow 0x30 p h pl State.phaseMapBody)

/-- SHED_POLICY (R208). -/
def execShedPolicy (p : Port) (h : Hdr) (pl : List Byte) (s : State) : Host.Outcome State Fault Refusal := act s (hostRow 0x31 p h pl State.shedPolicyBody)

/-- UNDERSTUDY, name (R183). -/
def execUnderstudyName (p : Port) (h : Hdr) (pl : List Byte) (s : State) : Host.Outcome State Fault Refusal := act s (hostRow 0x32 p h (0#8 :: pl) State.ustudyName)

/-- UNDERSTUDY, withdraw (R183). -/
def execUnderstudyWithdraw (p : Port) (h : Hdr) (pl : List Byte) (s : State) : Host.Outcome State Fault Refusal := act s (hostRow 0x32 p h (1#8 :: pl) State.ustudyWithdraw)

/-- UNDERSTUDY, retire (R183). -/
def execUnderstudyRetire (p : Port) (h : Hdr) (pl : List Byte) (s : State) : Host.Outcome State Fault Refusal := act s (hostRow 0x32 p h (2#8 :: pl) State.ustudyRetire)

end Sys2Proof.Machine
end

