-- ==== Sys2Proof/Machine/Analysis.lean ====
section
/-!
DEFINITION. The opcodes of capture, spectra, health and identification: CAPTURE_ARM, CAPTURE_READ, SPECTRUM, HEALTH, IDENT_RUN, IDENT_READ, RETUNE (R160 to R163, R173, R329 to R344, R352, R399, R400).
-/

namespace Sys2Proof.Machine

/-- The sources that a capture channel records (R329). -/
def srcKnown (x : Nat) : Bool :=
  [(0x01, 0x07), (0x10, 0x31), (0x40, 0x44), (0x48, 0x4C), (0x50, 0x53), (0x60, 0x87), (0x90, 0x90), (0xA0, 0xA2)].any (fun r => decide (r.1 ≤ x) && decide (x ≤ r.2))

/-- A channel as CAPTURE_ARM describes it. -/
structure ChanSpec where
  src : Nat
  decn : Nat
  dmode : Nat
  len : Nat
  deriving DecidableEq, Repr

/-- The channels of a CAPTURE_ARM, in order (R399). -/
def armChans (pl : List Byte) : List ChanSpec :=
  (List.range (fieldAt pl 6 1)).map (fun k =>
    let d := fieldAt pl (8 + 4 * k) 1
    ⟨fieldAt pl (7 + 4 * k) 1, bits d 3 0, bits d 5 4, fieldAt pl (9 + 4 * k) 1⟩)

/-- TRIG and TARG within range; a level trigger names a channel by its place in the job (R335, log entry 28). -/
def trigOk (trig targ nch : Nat) : Bool :=
  decide (trig ≤ 0x0B) &&
    (if trig = 2 then decide (targ < 48) else if [3, 4, 5, 9, 10].contains trig then decide (targ < 4) else if trig = 6 ∨ trig = 7 then decide (targ < nch) else true)

/-- Check 4 of R520 for the arm action (R329, R330, R334, R335, R399). -/
def armFieldsOk (pl : List Byte) : Bool :=
  let l := armChans pl
  trigOk (fieldAt pl 1 1) (fieldAt pl 2 1) l.length && decide (fieldAt pl 3 1 ≤ 7) && decide (1 ≤ l.length) && decide (l.length ≤ 16) &&
    (List.range l.length).all (fun k => decide (fieldAt pl (8 + 4 * k) 1 < 64) && fieldAt pl (10 + 4 * k) 1 == 0) &&
    l.all (fun c => srcKnown c.src && decide (1 ≤ c.len) && decide (c.len ≤ 64) && (decide (c.dmode ≤ 1) || (c.dmode == 2 && cmpSource c.src)))

namespace State

/-! ### Channels and tokens -/

/-- One channel with a run of tokens for a holder: the lowest free channel, the first run that fits; none where either is missing (R332). -/
def allocate (s : State) (hold len : Nat) : Option (State × Nat) :=
  match s.freeChannel, s.fitTokens len with
  | some c, some t => some (((s.wr Reg.CAP_HOLD c hold).wr Reg.CAP_LEN c len).wr Reg.CAP_TOK0 c t, c)
  | _, _ => none

/-- Channels with runs of these lengths, in order. -/
def allocateAll (s : State) (hold : Nat) (lens : List Nat) : Option (State × List Nat) :=
  lens.foldl (fun a n => a.bind (fun x => (x.1.allocate hold n).map (fun y => (y.1, x.2 ++ [y.2])))) (some (s, []))

/-- A job belongs to a session. -/
def ownsJob (s : State) (p : Port) (j : Nat) : Bool := decide (j < 8) && s.rd Reg.CAP_JOB_STATE j != 0 && s.rd Reg.CAP_JOB_PORT j == p.idx

/-- The channels of a session's jobs (R333). -/
def sessionChans (s : State) (p : Port) : List Nat := (List.range 16).filter (fun c => s.rd Reg.CAP_HOLD c == holdJob && s.rd Reg.CAP_JOB_PORT (s.rd Reg.CAP_JOB c) == p.idx)

/-- The tokens of a session's jobs and their spectra (R333). -/
def sessionTokens (s : State) (p : Port) : Nat := (s.sessionChans p).foldl (fun n c => n + s.rd Reg.CAP_LEN c + s.vn .specNtok c) 0

/-- A session that is not the owner would hold more than its share (R333). -/
def overShare (s : State) (p : Port) (chans toks : Nat) : Bool :=
  !s.isOwner p && (decide (4 < (s.sessionChans p).length + chans) || decide (16 < s.sessionTokens p + toks))

/-! ### CAPTURE_ARM -/

/-- Samples stored per second by the channels of a job, times 2^15 (R330). -/
def storeRate (s : State) (l : List ChanSpec) : Nat := l.foldl (fun n c => n + s.nativeRate c.src * 2 ^ (15 - c.decn)) 0

/-- The lowest free job slot (R334). -/
def freeSlot (s : State) : Option Nat := (List.range 8).find? (fun j => s.rd Reg.CAP_JOB_STATE j == 0)

/-- A channel of a new job starts to record (R330, R336, R337). -/
def startChan (s : State) (j c : Nat) (x : ChanSpec) : State :=
  let s := (((s.wr Reg.CAP_JOB c j).wr Reg.CAP_SRC c x.src).wr Reg.CAP_DECN c x.decn).wr Reg.CAP_DMODE c x.dmode
  let s := (s.wr Reg.CAP_RATE c (s.nativeRate x.src / 2 ^ x.decn)).setV .capAt c (s.now + 1)
  let s := (s.setV .capNum c (s.exactRate x.src).1).setV .capDen c (s.exactRate x.src).2
  if cmpSource x.src then (s.setV .capNext c ((s.now + 1) / 2 + 1)).setV .capWas c (s.cmpOuts (x.src - 0xA0)) else s

/-- CAPTURE_ARM, arm (R330, R332 to R337, R399, R476). -/
def captureArmBody (s : State) (p : Port) (c : Cmd) : Result :=
  let pl := c.payload
  let f (o n : Nat) : Nat := fieldAt pl o n
  let l := armChans pl
  let st := checkCmd c (7 ≤ pl.length && pl.length == 7 + 4 * f 6 1) (armFieldsOk pl) modesSes s
  let got := s.allocateAll holdJob (l.map (fun x => x.len))
  let st := if st ≠ stOk then st else firstFail
    [(s.on Reg.BIST_STAT_RUN || s.freeSlot.isNone, stBusy), (s.overShare p l.length (l.foldl (fun n x => n + x.len) 0) || got.isNone, stConflict),
     (decide (200000000 * 2 ^ 15 < s.storeRate l), stBadParam)]
  match got, s.freeSlot with
  | some (t, chans), some j =>
    if st ≠ stOk then (s, st, [])
    else
      let t := ((((t.wr Reg.CAP_JOB_STATE j 1).wr Reg.CAP_JOB_PORT j p.idx).wr Reg.CAP_JOB_TRIG j (f 1 1)).wr Reg.CAP_JOB_TARG j (f 2 1)).wr Reg.CAP_JOB_PRE j (f 3 1)
      let t := (t.wr Reg.CAP_JOB_LEVEL j (f 4 2)).wr Reg.CAP_JOB_CHMASK j (listMask chans)
      let t := ((chans.zip l).foldl (fun s x => s.startChan j x.1 x.2) t).jobProgress j
      let t := if f 1 1 = 0 then t.triggerJob j else t
      (t, stOk, leBytes 1 j ++ leBytes 2 (listMask chans) ++ leBytes 1 (t.rd Reg.CAP_TOK0 (chans.headD 0)))
  | _, _ => (s, st, [])

/-- CAPTURE_ARM, fire and cancel: an action on a job of the session (R335, R399). -/
def captureAct (f : State → Nat → State) (s : State) (p : Port) (c : Cmd) : Result :=
  let j := fieldAt c.payload 1 1
  let st := checkCmd c (c.payload.length = 2) (j < 8) modesSes s
  let st := if st = stOk ∧ s.on Reg.BIST_STAT_RUN then stBusy else if st = stOk ∧ ¬ s.ownsJob p j then stBadParam else st
  (if st = stOk then f s j else s, st, [])

/-- Software fire acts on a job whose trigger it is (R335). -/
def fireSoft (s : State) (j : Nat) : State := if s.rd Reg.CAP_JOB_TRIG j = 1 then s.triggerJob j else s

/-! ### CAPTURE_READ and SPECTRUM -/

/-- The bytes of the samples, or of the spectrum's words, that a read returns (R338, R340, R399). -/
def readData (s : State) (ch start n : Nat) (spec : Bool) : List Byte :=
  if spec then s.bytesAt (0x91000000 + 4096 * (s.vn .specTok ch - 1) + 4 * start) (4 * min n (s.vn .specBytes ch / 4 - start))
  else (List.range (min n (s.rd Reg.CAP_NSAMP ch - start))).flatMap (fun i => leBytes 4 (s.logical ch (start + i)))

/-- CAPTURE_READ (R334, R338, R399). -/
def captureReadBody (s : State) (p : Port) (c : Cmd) : Result :=
  let f (o n : Nat) : Nat := fieldAt c.payload o n
  let j := f 0 1
  let ch := f 1 1
  let spec := bit (f 7 1) 1
  let release := bit (f 7 1) 0
  let st := checkCmd c (c.payload.length = 8) (decide (j < 8) && decide (ch < 16) && decide (f 6 1 ≤ 55) && decide (f 7 1 < 4)) modesSes s
  if st ≠ stOk then (s, st, [])
  else
    let s := s.capSync
    if s.rd Reg.CAP_JOB_STATE j = 0 ∨ ¬ (s.jobChans j).contains ch ∨ (release ∧ ¬ s.ownsJob p j) ∨ (spec ∧ s.vn .specBytes ch = 0) then (s, stBadParam, [])
    else
      let d := (List.range 4).flatMap (fun k => s.objBytes (0x0BC1 + k) ch) ++ s.readData ch (f 2 4) (f 6 1) spec
      (if release then s.freeJob j else s, stOk, d)

/-- SPECTRUM (R333, R339, R340, R399); one that replaces a transform of the channel still in the queue ends that one with FAILED (log entry 46). -/
def spectrumBody (s : State) (p : Port) (c : Cmd) : Result :=
  let f (o n : Nat) : Nat := fieldAt c.payload o n
  let j := f 0 1
  let ch := f 1 1
  let n := 2 ^ f 2 1
  let navg := f 4 1
  let st := checkCmd c (c.payload.length = 6) (decide (j < 8) && decide (ch < 16) && decide (6 ≤ f 2 1) && decide (f 2 1 ≤ 12) && decide (f 3 1 ≤ 3) &&
    decide (1 ≤ navg) && decide (navg ≤ 64) && decide (f 5 1 ≤ 1) && (f 5 1 == 0 || navg == 1)) modesSes s
  if st ≠ stOk then (s, st, [])
  else
    let s := s.capSync
    let ntok := (16 + 4 * (n / 2 + 1) + 4095) / 4096
    let t := s.freeSpectrum ch
    let mine : Bool := s.ownsJob p j && (s.jobChans j).contains ch
    let usable : Bool := mine && s.rd Reg.CAP_JOB_STATE j == 4 && decide ((navg + 1) * n / 2 ≤ s.rd Reg.CAP_NSAMP ch) && !cmpSource (s.rd Reg.CAP_SRC ch)
    let st := firstFail [(decide (9 ≤ s.spectra.length), stBusy), (usable && (t.overShare p 0 ntok || (t.fitTokens ntok).isNone), stConflict), (!usable, stBadParam)]
    match t.fitTokens ntok with
    | some k =>
      if st ≠ stOk then (s, st, [])
      else
        let old := t.spectra.filter (fun x => x.job == j && x.ch == ch)
        let t := old.foldl (fun t x => t.complete x.port x.tag 0x52 stFailed 0x0B) t
        let t : State := { t with spectra := t.spectra.filter (fun x => !(x.job == j && x.ch == ch)) ++ [⟨p.idx + 1, c.tag, j, ch, f 2 1, f 3 1, navg, f 5 1⟩] }
        ((t.setV .specTok ch (k + 1)).setV .specNtok ch ntok, stAccepted, [])
    | none => (s, st, [])

/-! ### HEALTH -/

/-- HEALTH, read (R351, R399). -/
def healthReadBody (s : State) (_p : Port) (c : Cmd) : Result :=
  let l := maskList 32 (fieldAt c.payload 1 4)
  let st := checkCmd c (c.payload.length = 5) (l.length ≤ 15) modesSes s
  (s, st, if st = stOk then l.flatMap (fun k => (List.range 16).map (fun i => s.hlthByte (16 * k + i))) else [])

/-- HEALTH, baseline (R344); it waits while the AC is halted (R405). -/
def healthBaseBody (s : State) (p : Port) (c : Cmd) : Result :=
  let st := checkCmd c (c.payload.length = 1) true modesSes s
  if st ≠ stOk then (s, st, [])
  else if s.on Reg.DBG_STAT_ACHALTED then (s.updSess p (fun x => { x with queue := c :: x.queue }), stLater, [])
  else (s.setBaselines, stOk, [])

/-- The checks of the ESR actions: they need interface level 4 (R384, R386). -/
def esrCheck (s : State) (c : Cmd) : Nat :=
  firstFail [(c.payload.length != 2 || c.obj != 0xFFFF, stBadParam), (decide (s.servedIl < 4), stVersion), (decide (4 ≤ fieldAt c.payload 1 1), stBadParam),
    (!modesSes.contains s.mode, stWrongMode)]

/-- HEALTH, ESR arm (R343). -/
def esrArmBody (s : State) (_p : Port) (c : Cmd) : Result :=
  let r := fieldAt c.payload 1 1
  let st := s.esrCheck c
  if st ≠ stOk then (s, st, [])
  else if s.on Reg.CAP_ESR_ARMED r then (s, stOk, [])
  else
    match s.allocate holdEsr 8 with
    | some (t, ch) => (((t.wr Reg.CAP_JOB ch r).wr Reg.CAP_RATE ch 3125000).wr Reg.CAP_ESR_ARMED r 1, stOk, [])
    | none => (s, stConflict, [])

/-- HEALTH, ESR disarm (R343, R399). -/
def esrDisarmBody (s : State) (_p : Port) (c : Cmd) : Result :=
  let r := fieldAt c.payload 1 1
  let st := s.esrCheck c
  let t := match s.esrChan r with
    | some ch => s.freeChan ch
    | none => s
  (if st = stOk then t.wr Reg.CAP_ESR_ARMED r 0 else s, st, [])

/-! ### Identification -/

/-- IDENT_RUN (R160, R162, R163, R400). -/
def identRunBody (s : State) (p : Port) (c : Cmd) : Result :=
  let f (o n : Nat) : Nat := fieldAt c.payload o n
  let r := f 0 1
  let amp := f 1 1
  let st := checkCmd c (c.payload.length = 4) (decide (r < 4) && decide (1 ≤ amp) && decide (amp ≤ 8) && decide (1 ≤ f 2 1) && decide (f 2 1 ≤ 64)) [mActive, mCharacterise] s
  let got := s.allocateAll holdIdent [8, 8, 8, 8]
  let st := if st ≠ stOk then st else firstFail
    [(s.railState r != railRegulate || s.rampingDown r || s.on Reg.IDENT_STAT_RUN || s.on Reg.LE_CTL_SWPEND || s.on Reg.DBG_STAT_ACHALTED || s.on Reg.ICU_CORE_FATAL 1, stBusy),
     (got.isNone, stConflict), (decide (min (s.rd Reg.LE_PGLO r) (s.rd Reg.LE_PGHI r) < amp), stBadParam)]
  match got with
  | some (t, chans) =>
    if st ≠ stOk then (s, st, []) else (s.identStart (p.idx + 1) c.tag r amp (f 2 1) (f 3 1) chans (chans.map (fun ch => t.rd Reg.CAP_TOK0 ch)), stAccepted, [])
  | none => (s, st, [])

/-- IDENT_READ (R177, R400). -/
def identReadBody (s : State) (_p : Port) (c : Cmd) : Result :=
  let a := fieldAt c.payload 0 2
  let n := fieldAt c.payload 2 1
  let st := checkCmd c (c.payload.length = 3) (decide (1 ≤ n) && decide (n ≤ 240) && decide (a + n ≤ 0x220)) modesSes s
  (s, st, if st = stOk then (List.range n).map (fun i => s.resByte (a + i)) else [])

/-- RETUNE (R173): the reply follows when the swap has ended. -/
def retuneBody (s : State) (p : Port) (c : Cmd) : Result :=
  let r := fieldAt c.payload 0 1
  let st := checkCmd c (c.payload.length = 1) (r < 4) modesCfg s
  let st := if st ≠ stOk then st else firstFail
    [(!s.on Reg.IDENT_STAT_PROPV || s.rd Reg.IDENT_CFG_RAIL != r || s.rd Reg.LE_LAW r != 0, stBadParam), (s.on Reg.IDENT_STAT_OOE, stEnvelope), (s.on Reg.LE_CTL_SWPEND, stBusy)]
  if st ≠ stOk then (s, st, [])
  else
    let s := (s.stageRetune r).publish
    if s.on Reg.LE_CTL_SWPEND then ({ s with retuning := some (p, c) }, stLater, []) else (s, stOk, [])

end State

/-- CAPTURE_ARM, arm (R399). -/
def execCaptureArm (p : Port) (h : Hdr) (pl : List Byte) (s : State) : Host.Outcome State Fault Refusal := act s (hostRow 0x50 p h (0#8 :: pl) State.captureArmBody)

/-- CAPTURE_ARM, fire (R399). -/
def execCaptureFire (p : Port) (h : Hdr) (pl : List Byte) (s : State) : Host.Outcome State Fault Refusal := act s (hostRow 0x50 p h (1#8 :: pl) (State.captureAct State.fireSoft))

/-- CAPTURE_ARM, cancel (R399). -/
def execCaptureCancel (p : Port) (h : Hdr) (pl : List Byte) (s : State) : Host.Outcome State Fault Refusal := act s (hostRow 0x50 p h (2#8 :: pl) (State.captureAct State.freeJob))

/-- CAPTURE_READ (R399). -/
def execCaptureRead (p : Port) (h : Hdr) (pl : List Byte) (s : State) : Host.Outcome State Fault Refusal := act s (hostRow 0x51 p h pl State.captureReadBody)

/-- SPECTRUM (R339). -/
def execSpectrum (p : Port) (h : Hdr) (pl : List Byte) (s : State) : Host.Outcome State Fault Refusal := act s (hostRow 0x52 p h pl State.spectrumBody)

/-- HEALTH, read (R399). -/
def execHealthRead (p : Port) (h : Hdr) (pl : List Byte) (s : State) : Host.Outcome State Fault Refusal := act s (hostRow 0x53 p h (0#8 :: pl) State.healthReadBody)

/-- HEALTH, baseline (R344). -/
def execHealthBaseline (p : Port) (h : Hdr) (pl : List Byte) (s : State) : Host.Outcome State Fault Refusal := act s (hostRow 0x53 p h (1#8 :: pl) State.healthBaseBody)

/-- HEALTH, ESR arm (R343). -/
def execHealthEsrArm (p : Port) (h : Hdr) (pl : List Byte) (s : State) : Host.Outcome State Fault Refusal := act s (hostRow 0x53 p h (2#8 :: pl) State.esrArmBody)

/-- HEALTH, ESR disarm (R343). -/
def execHealthEsrDisarm (p : Port) (h : Hdr) (pl : List Byte) (s : State) : Host.Outcome State Fault Refusal := act s (hostRow 0x53 p h (3#8 :: pl) State.esrDisarmBody)

/-- IDENT_RUN (R160). -/
def execIdentRun (p : Port) (h : Hdr) (pl : List Byte) (s : State) : Host.Outcome State Fault Refusal := act s (hostRow 0x58 p h pl State.identRunBody)

/-- IDENT_READ (R400). -/
def execIdentRead (p : Port) (h : Hdr) (pl : List Byte) (s : State) : Host.Outcome State Fault Refusal := act s (hostRow 0x59 p h pl State.identReadBody)

/-- RETUNE (R173). -/
def execRetune (p : Port) (h : Hdr) (pl : List Byte) (s : State) : Host.Outcome State Fault Refusal := act s (hostRow 0x5A p h pl State.retuneBody)

end Sys2Proof.Machine
end

