-- ==== Sys2Proof/Machine/Recorder.lean ====
section
/-!
DEFINITION. The non-volatile store and the event recorder as they work on their own: brown-out, slot writes, records, token buckets, read errors (R283, R450, R454 to R465).
-/

namespace Sys2Proof.Machine

namespace State

/-- A core runs: it is released, not halted by the debugger and has taken no fatal fault (R20, R433). -/
def acRuns (s : State) : Bool := !s.on Reg.DBG_STAT_ACHALTED && !s.on Reg.ICU_CORE_FATAL 1

/-- VDD33 falls through the warning level: an update is aborted, the final state record goes first, in place of one that waits, record 0x9001 waits (R283, R284, R457, R458). -/
def brownWarning (s : State) : State :=
  let s := (((s.wr Reg.NVS_STAT_BOWARN 0 1).wr Reg.NVS_STAT_BOF 0 1).bump Reg.NVS_STAT_BOCNT 0).irq 112
  let s := (s.abortUpdate 0x01).event 0x9001 2 []
  if s.on Reg.GAU_STATE_ACTIVE && s.acRuns then kickNvs { s.setV .tFinal 0 (s.now + 40000 + 1) with nvsq := SlotWrite.mk 75 s.gaugeBody :: s.nvsq.filter (fun w => w.dir != 75) } else s

/-- VDD33 has stayed above the release level (R457, R458). -/
def brownRelease (s : State) : State :=
  if s.on Reg.NVS_STAT_BOWARN then (((s.wr Reg.NVS_STAT_BOWARN 0 0).wr Reg.NVS_STAT_INHIBIT 0 0).event 0x9002 0 []).kickNvs else s

/-- The write that runs has written its CRC; the next one starts (R454, R456). -/
def slotDone (s : State) : State :=
  match s.nvsRun with
  | some w => ((s.endSlotWrite w).irq 113).kickNvs
  | none => s

/-- The AC writes the oldest queued event, once no slot write runs or waits (R456 to R458, R461). -/
def recordWrite (s : State) : State :=
  if s.acRuns && !s.on Reg.NVS_STAT_BOWARN && !s.on Reg.NVS_STAT_INHIBIT && s.nvsRun.isNone && s.nvsq.isEmpty then s.writeEvent else s

/-- A code's refill timer adds a token, up to its depth, every floor(1,000 / RATE) ms (R464); when the timer's first period began is the sender's (log entry 82). -/
def refill (s : State) (c : Nat) : State :=
  let b := s.bucket c
  let s := if b.last = 0 then s else s.upTo (b.last - 1 + 1000 / (s.bucketPair b).1 * 400000)
  s.setBucket { b with tokens := min (b.tokens + 1) (s.bucketPair b).2, last := s.now + 1 }

/-- An uncorrectable read: its flag and address, and a slot that holds the word is no longer valid (R450, R453). -/
def readError (s : State) (a : Nat) : State :=
  let s := (((s.wr Reg.NVS_STAT_RDERRF 0 1).wr Reg.NVS_STAT_ERRADDR 0 a).irq 115).event 0x9003 2 (leBytes 4 a)
  if 0x40220000 ≤ a ∧ a < 0x40233DA0 then { s with slots := kvErase ((a - 0x40220000) / 0x210) s.slots } else s

end State

/-- BROWNOUT_WARNING (R457). -/
def execBrownoutWarning (s : State) : Host.Outcome State Fault Refusal := act s State.brownWarning

/-- BROWNOUT_RELEASE (R457). -/
def execBrownoutRelease (s : State) : Host.Outcome State Fault Refusal := act s State.brownRelease

/-- WRITE_INHIBIT (R457). -/
def execWriteInhibit (s : State) : Host.Outcome State Fault Refusal := act s (fun s => s.wr Reg.NVS_STAT_INHIBIT 0 1)

/-- SLOT_WRITE_DONE (R454). -/
def execSlotWriteDone (s : State) : Host.Outcome State Fault Refusal := act s State.slotDone

/-- EVENT_RECORD_WRITE (R461). -/
def execEventRecordWrite (s : State) : Host.Outcome State Fault Refusal := act s State.recordWrite

/-- BUCKET_REFILL (R464). -/
def execBucketRefill (code : BitVec 16) (s : State) : Host.Outcome State Fault Refusal := act s (fun s => s.refill code.toNat)

end Sys2Proof.Machine
end

