-- ==== Sys2Proof/Machine/Boot.lean ====
section
/-!
DEFINITION. BOOT: reset release, straps, the boot record's accounting, the choice of a bank, the loop image, what is restored from the data store, MINIMAL, the end of the start; clock failure and recovery; read errors of the MRAM (R24, R25, R39, R50 to R67, R407, R435, R450, R455, R518).
-/

namespace Sys2Proof.Machine

/-- The strap bin of a reading in 0.25 mV (R39, R58; "Electrical Characteristics and Package"). -/
def strapBin (x : Nat) : Nat := ([400, 1200, 2000, 2800, 3600, 4400, 5200].filter (fun b => decide (b ≤ x))).length

/-- A firmware bank's supervisor header, and its loop header (R27, R59). -/
def bankBase (b : Bool) : Nat := if b then 0x40100000 else 0x40000000
def loopBase (b : Bool) : Nat := bankBase b + 0xE0000

/-- The largest bodies of the two partitions (R59, R403). -/
def supMax : Nat := 917440
def loopMax : Nat := 131008

/-- STATE codes of a supervisor header (R59). -/
def imgTrial : Nat := 0x5A
def imgTrying : Nat := 0x3C
def imgConfirmed : Nat := 0xA5

/-- The sources whose target the firmware sets to the AC at BOOT (R435). -/
def acSources : List Nat := [35, 38, 43, 45, 54, 59, 60, 61, 64, 65, 66, 72, 73, 74, 75, 76, 101, 112, 120]

/-- The reason of a counted start from the reset cause (R53); `acFatal` tells which core's FATAL the reset kept. -/
def startReason (rst : Nat) (acFatal : Bool) : Nat :=
  match rst with
  | 1 => 0x07
  | 2 => 0x0B
  | 3 => 0x06
  | 4 => 0x06
  | 5 => 0x03
  | 7 => if acFatal then 0x05 else 0x04
  | 8 => 0x0A
  | 9 => 0x01
  | _ => 0

/-- A reason is shifted into the failure log (R52, R54). -/
def BootRec.shift (b : BootRec) (r : Nat) : BootRec := { b with reason0 := r, reason1 := b.reason0, reason2 := b.reason1 }

namespace State

/-! ### Image headers (R59) -/

/-- A field of `n` bytes of an image header. -/
def hdr (s : State) (base off n : Nat) : Nat := leNat (s.bytesAt (base + off) n)

/-- The partition holds an image. -/
def hasImage (s : State) (base : Nat) : Bool := s.hdr base 0 2 == 0x414C

/-- The body matches the header: its length fits the partition and its CRC matches (R59). -/
def bodyOk (s : State) (base max : Nat) : Bool :=
  decide (s.hdr base 8 4 ≤ max) && crc32 (s.bytesAt (base + 64) (s.hdr base 8 4)) == s.hdr base 60 4

/-- STATE of a supervisor header is set. -/
def setImgState (s : State) (b : Bool) (x : Nat) : State := s.putByte (bankBase b + 3) (BitVec.ofNat 8 x)

/-- The boot record as the registers show it (R49, R54). -/
def showBoot (s : State) : State :=
  let s := (s.wr Reg.SYS_BOOT_STREAK 0 s.boot.streak).wr Reg.SYS_FAILLOG_REASON0 0 s.boot.reason0
  (s.wr Reg.SYS_FAILLOG_REASON1 0 s.boot.reason1).wr Reg.SYS_FAILLOG_REASON2 0 s.boot.reason2

/-! ### The steps of BOOT -/

/-- Reset release: the boot ROM starts; protective outputs are asserted in their starting state, BOOT is entered (R42, R50, R71). -/
def bootStart (s : State) : State :=
  let s : State := { s with power := .running, now := 0 }
  let s := (List.range 48).foldl (fun s i => s.setV .cmpStart i 1) s
  let s := ((s.setV .chStart 0 1).setV .dsStart 0 1).setV .thmStartSd 0 1
  ((s.setV .thmStartThr 0 1).irq 123).event 0x0200 0 (leBytes 1 mBoot ++ leBytes 1 0)

/-- The straps are latched, and with them the port addresses (R39, R58, R407). -/
def latchStraps (s : State) (a0 a1 sv : Nat) : State :=
  let s := ((s.wr Reg.SYS_STRAP_ADDR0 0 (strapBin a0)).wr Reg.SYS_STRAP_ADDR1 0 (strapBin a1)).wr Reg.SYS_STRAP_SAFEV 0 (strapBin sv)
  (s.wr Reg.TWI_PSTAT_ADDR 0 (0x60 + strapBin a0)).wr Reg.TWI_PSTAT_ADDR 1 (0x68 + strapBin a1)

/-- The accounting of failed starts (R52, R53), with the records that RSTCAUSE calls for (R448). Below three failed starts the marker is set. -/
def accounting (s : State) : State :=
  let rst := s.rd Reg.SYS_BOOT_RSTCAUSE
  let b : BootRec := { s.boot with bootn := (s.boot.bootn + 1) % 65536 }
  let counted := b.marker && rst != rstPowerOn && rst != rstBrownOut
  let reason := if b.pendingReason ≠ 0 then b.pendingReason else startReason rst (s.on Reg.ICU_CORE_FATAL 1)
  let b : BootRec := if counted then { b.shift reason with streak := min (b.streak + 1) 3 } else b
  let b : BootRec := { b with pendingReason := 0, marker := b.marker || b.streak != 3 }
  let s := s.writeBoot b
  let s := if rst = rstWdtSc ∨ rst = rstWdtAc then s.event 0x8001 3 (leBytes 1 (rst - 3))
    else if rst = rstFatal then s.event 0x8002 3 (leBytes 1 (s.rd Reg.ICU_CORE_FATAL 1)) else s
  ((s.wr Reg.ICU_CORE_FATAL 0 0).wr Reg.ICU_CORE_FATAL 1 0).showBoot

/-- A candidate is run: a trial bank is marked trying, and its body must match (R60). -/
def tryBank (s : State) (b : Bool) : State × Bool :=
  let s := if s.hdr (bankBase b) 3 1 = imgTrial then s.setImgState b imgTrying else s
  if s.bodyOk (bankBase b) supMax then (s, true) else ((s.setImgState b 0).event 0x9007 2 (leBytes 1 (b2n b)), false)

/-- A trying bank is rejected unless the supply failed (R60, R67). -/
def rejectTrying (s : State) (b : Bool) : State :=
  let rst := s.rd Reg.SYS_BOOT_RSTCAUSE
  if s.hasImage (bankBase b) ∧ s.hdr (bankBase b) 3 1 = imgTrying ∧ rst ≠ rstPowerOn ∧ rst ≠ rstBrownOut then
    (((s.setImgState b 0).wr Reg.SYS_BOOT_TRIALFAIL 0 1).writeBoot (s.boot.shift 0x02)).showBoot
  else s

/-- The header names a candidate (R60). -/
def candidate (s : State) (b : Bool) : Bool := s.hasImage (bankBase b) && [imgTrial, imgTrying, imgConfirmed].contains (s.hdr (bankBase b) 3 1)

/-- The bank to run (R60). -/
def selectBank (s : State) : State × Option Bool :=
  let s := (s.rejectTrying false).rejectTrying true
  let first := decide (s.hdr (bankBase false) 12 4 < s.hdr (bankBase true) 12 4)
  let order := if s.candidate first then (if s.candidate (!first) then [first, !first] else [first]) else if s.candidate (!first) then [!first] else []
  order.foldl (fun (x : State × Option Bool) b => match x.2 with
    | some _ => x
    | none => let y := x.1.tryBank b; (y.1, if y.2 then some b else none)) (s, none)

/-- Microcode and coefficients are loaded from an image or the boot ROM, whose content the manual does not give; LE_BASE describes it (R50, R63, R157). -/
def loadLe (s : State) : State :=
  let s : State := { s with mem := s.mem.filter (fun x => decide (x.1 < 0x90000000) || decide (0x90011000 ≤ x.1)) }
  let s := s.setV .leEpoch 0 (s.v .leEpoch + 1)
  [Reg.LE_BASE_BENTRY, Reg.LE_BASE_BLEN, Reg.LE_BASE_HENTRY, Reg.LE_BASE_HLEN].foldl (fun s f => s.free.2.wr f 0 s.free.1) s

/-- The loop image against the supervisor: LOOPSTAT, the effective IL and the record (R61 to R64). -/
def checkLoop (s : State) (b : Bool) : State :=
  let il := s.hdr (loopBase b) 6 1
  let sil := s.rd Reg.SYS_IMAGE_SUPIL
  let st := if ¬ (s.hasImage (loopBase b) ∧ s.bodyOk (loopBase b) loopMax) then 3
    else if il = sil then 0 else if s.rd Reg.SYS_IMAGE_FLOOR ≤ il ∧ il < sil then 1 else 2
  let s := (s.wr Reg.SYS_IMAGE_LOOPIL 0 il).wr Reg.SYS_IMAGE_LOOPVER 0 (s.hdr (loopBase b) 4 2)
  let s := (s.wr Reg.SYS_BOOT_LOOPSTAT 0 st).wr Reg.SYS_IMAGE_EFFIL 0 (if st < 2 then il else 0)
  if st = 0 then s else s.event (0x0100 + st) (if st = 1 then 1 else 2) (leBytes 1 il ++ leBytes 1 sil)

/-- A table segment of the store: its bytes, and its valid entries counted (R200, R206). -/
def restoreSegment (s : State) (i : Nat) (b : List Byte) : State :=
  let n := ((leWords b).filter (fun w => bit w 4)).length
  (s.putBytes (0x90020000 + 512 * i) b).wr Reg.PHM_TAB_NVALID 0 (s.rd Reg.PHM_TAB_NVALID + n)

/-- A calibration set of the store (R101, R103). -/
def restoreCal (s : State) (k : Nat) (b : List Byte) : State :=
  let at' (o n : Nat) : Nat := leNat ((b.drop o).take n)
  let put (l : List (Nat × Nat)) (u : Nat) : List (Nat × Nat) := kvPut (k * 256 + 2 * u + 1) (at' (4 * u + 2) 2) (kvPut (k * 256 + 2 * u) (at' (4 * u) 2) l)
  let mark (l : List (Nat × Nat)) (u : Nat) : List (Nat × Nat) := if bit (at' 152 8) u then kvPut (k * 256 + 128 + u) 1 l else l
  { s.wr Reg.CAL_STAT_BANDS 0 (s.rd Reg.CAL_STAT_BANDS + 2 ^ k) with calSets := (List.range 34).foldl mark ((List.range 38).foldl put s.calSets) }

/-- The open-circuit table of the store (R273, R291). -/
def restoreOcv (s : State) (b : List Byte) : State :=
  (List.range 32).foldl (fun s n =>
    let w := leNat ((b.drop (4 * n)).take 4)
    ((s.setV .ocvTab n (w + 1)).wr Reg.GAU_OCV_OCV n (w / 65536)).wr Reg.GAU_OCV_SOCP n (w % 65536)) s

/-- One directory entry is read at BOOT; one with no valid slot counts (R455). -/
def restoreDir (s : State) (i : Nat) : State :=
  match s.newestSlot i with
  | none => (s.bump Reg.NVS_STAT_SLOTBAD 0).event 0x9004 1 (leBytes 2 (nvsIdReset i))
  | some (_, x) =>
    if i < 64 then s.restoreSegment i x.body
    else if 65 ≤ i ∧ i ≤ 72 then s.restoreCal (i - 65) x.body
    else if i = 73 then (maskList 32 (leNat x.body)).foldl (fun s c => s.setRole c 4) s
    else if i = 74 then s.restoreOcv x.body
    else if i = 76 then s.restoreBase x.body
    else s

/-- A supervisor image starts: its identity, the loop image, the loop engine's memories, interrupt targets, the data store, the watchdogs (R50, R61, R432, R435, R455). -/
def runImage (s : State) (b : Bool) : State :=
  let s := (s.wrB Reg.SYS_BOOT_BANKB 0 b).wr Reg.SYS_IMAGE_SUPVER 0 (s.hdr (bankBase b) 4 2)
  let s := (s.wr Reg.SYS_IMAGE_SUPIL 0 (s.hdr (bankBase b) 6 1)).wr Reg.SYS_IMAGE_FLOOR 0 (s.hdr (bankBase b) 7 1)
  let s := (s.checkLoop b).loadLe
  let s := acSources.foldl (fun s n => s.wr Reg.ICU_TGT n 1) s
  let s := (List.range 77).foldl (fun s i => s.restoreDir i) s
  ((s.wdtStart .sc).wdtStart .ac).setV .bootRun 0 1

/-- The cause that BOOT waits with: its bit and rail (R309, R518). -/
def bootCause (s : State) : Nat × Option Nat :=
  (s.rd Reg.PROT_LATCH_FIRST - 1, (List.range 4).find? (fun r => bit (s.rd Reg.PROT_LATCH_RAILS) r))

/-- BOOT ends in SAFESTOP; the pending reason is written first (R518). -/
def bootSafestop (s : State) (toMinimal : Bool) : State :=
  let c := s.bootCause
  ((s.writeBoot { s.boot with pendingReason := 0x09 }).setV .bootLatch 0 0).goSafestop c.1 c.2 toMinimal

/-- MINIMAL is entered, or SAFESTOP on the way to it (R53, R55, R57, R64, R518). -/
def enterMinimal (s : State) (reason : Nat) : State :=
  let s := (s.setV .minCause 0 reason).wr Reg.SYS_IMAGE_SUPVER 0 Config.fallbackVersion.toNat
  let s := (s.wr Reg.SYS_IMAGE_SUPIL 0 1).wr Reg.SYS_IMAGE_EFFIL 0 1
  let s := ((s.loadLe.wdtStart .sc).wdtStart .ac).safeRail (s.rd Reg.SYS_STRAP_SAFEV)
  if s.vOn .bootLatch then s.bootSafestop true
  else (s.enterMode mMinimal (if reason = 0x10 then 0x0D else 0x0E)).safeStart

/-- The PLL locks, and the boot ROM goes on: straps, accounting, the bank, the image or MINIMAL (R24, R50). -/
def pllLock (s : State) (a0 a1 sv : Nat) : State :=
  if s.mode ≠ mBoot ∨ s.vOn .pllSeen then s
  else
    let s := (((s.wr Reg.CLK_STATUS_LOCK 0 1).wr Reg.CLK_STATUS_REFOK 0 1).wr Reg.CLK_STATUS_ONRC 0 0).setV .pllSeen 0 1
    let s := (s.latchStraps a0 a1 sv).accounting
    if s.boot.streak = 3 then s.enterMinimal 0x10
    else
      let x := s.selectBank
      match x.2 with
      | some b => x.1.runImage b
      | none => x.1.enterMinimal 0x20

/-- The PLL has not locked in time: the start is accounted for, and the boot ROM resets itself, or ends in MINIMAL on the RC oscillator (R24, R52). -/
def pllTimeout (s : State) : State :=
  if s.mode ≠ mBoot ∨ s.vOn .pllSeen then s
  else
    let s := (s.upTo 800000).accounting
    if s.boot.streak = 3 then s.enterMinimal 0x10 else s.devReset rstRom

/-- The start has reached STANDBY: the streak and the marker clear, a trial bank is confirmed (R52, R67). -/
def startDone (s : State) : State :=
  let b := s.on Reg.SYS_BOOT_BANKB
  let s := (s.writeBoot { s.boot with streak := 0, marker := false, pendingReason := 0 }).showBoot
  if s.hdr (bankBase b) 3 1 = imgTrying then s.setImgState b imgConfirmed else s

/-- The start completes (R50, R518). -/
def bootComplete (s : State) : State :=
  if s.mode ≠ mBoot ∨ ¬ s.vOn .bootRun ∨ s.on Reg.TWX_STAT_DISC then s
  else if s.vOn .bootLatch then s.bootSafestop false
  else s.startDone.enterMode mStandby 0x00

/-! ### The reference clock -/

/-- A clock failure (R25): unclocked, every output goes safe; out of BOOT the part enters SAFESTOP, in BOOT it resets. -/
def clockFailure (s : State) (why : ClockFault) : State :=
  if ¬ s.vOn .pllSeen then s
  else
    let s := ((s.wr Reg.CLK_STATUS_CLKFAIL 0 1).bump Reg.CLK_STATUS_FAILCNT 0).irq 0
    let s := match why with
      | .lockDrop => (s.wr Reg.CLK_STATUS_LOCK 0 0).irq 1
      | _ => s.wr Reg.CLK_STATUS_REFOK 0 0
    let s := (s.wr Reg.CLK_STATUS_ONRC 0 1).setV .pinAct 0 0
    if s.mode = mBoot then s.devReset rstRom
    else
      let s := if s.mode = mSafestop then s.allOff true else s
      s.safestop 0 none

/-- After a clock failure the reference is back and the PLL relocks (R25). -/
def refRecovery (s : State) : State :=
  if s.vOn .pllSeen then (s.wr Reg.CLK_STATUS_REFOK 0 1).wr Reg.CLK_STATUS_LOCK 0 1 else s

/-- An uncorrectable MRAM read (R450): in BOOT, in a firmware bank before an image runs, the boot ROM cannot recover; the start has been accounted for, the reason is pending, and it resets itself (R53). -/
def mramError (s : State) (a : Nat) : State :=
  let s := s.readError a
  if s.mode = mBoot ∧ ¬ s.vOn .pllSeen ∧ 0x40000000 ≤ a ∧ a < 0x40200000 then
    let t := s.accounting
    if t.boot.streak = 3 then s else (t.writeBoot { t.boot with pendingReason := 0x08 }).devReset rstRom
  else s

end State

/-- RESET_RELEASE (R50). -/
def execResetRelease (s : State) : Host.Outcome State Fault Refusal := .next (if s.power = .held then s.bootStart.settle else s)

/-- PLL_LOCK (R24): the three strap readings in 0.25 mV. -/
def execPllLock (addr0 addr1 safev : BitVec 16) (s : State) : Host.Outcome State Fault Refusal :=
  act s (fun s => s.pllLock addr0.toNat addr1.toNat safev.toNat)

/-- PLL_LOCK_TIMEOUT (R24). -/
def execPllLockTimeout (s : State) : Host.Outcome State Fault Refusal := act s State.pllTimeout

/-- BOOT_COMPLETE (R50). -/
def execBootComplete (s : State) : Host.Outcome State Fault Refusal := act s State.bootComplete

/-- CLOCK_FAILURE (R25). -/
def execClockFailure (why : ClockFault) (s : State) : Host.Outcome State Fault Refusal := act s (fun s => s.clockFailure why)

/-- REFERENCE_RECOVERY (R25). -/
def execReferenceRecovery (s : State) : Host.Outcome State Fault Refusal := act s State.refRecovery

/-- MRAM_READ_ERROR (R450): a read that the error code corrects counts, another one is an error. -/
def execMramReadError (read : MramRead) (s : State) : Host.Outcome State Fault Refusal :=
  act s (fun s => if read.corrected then s.bump Reg.NVS_STAT_CORRCNT 0 else s.mramError read.addr.toNat)

end Sys2Proof.Machine
end

