-- ==== Sys2Proof/Machine/LogCmds.lean ====
section
/-!
DEFINITION. The session opcodes' own rows, and the recorder's opcodes: HELLO, CLAIM, YIELD, GRANT, HEARTBEAT, ABORT, CREDITS, LOG_OPEN, LOG_READ, LOG_CLOSE, LOG_CLEAR, LOG_POLICY (R361 to R375, R389, R401, R464, R466, R467).
-/

namespace Sys2Proof.Machine

/-- `a` is at or after `b` in the serial order of records (R460). -/
def seqAtLeast (a b : Nat) : Bool := decide ((a + recSeqMax - b % recSeqMax) % recSeqMax < recSeqMax / 2)

namespace State

/-! ### Read windows -/

/-- LOG_OPEN (R401, R466). -/
def logOpenBody (s : State) (p : Port) (c : Cmd) : Result :=
  let from' := fieldAt c.payload 0 4
  let sev := fieldAt c.payload 4 1
  let st := checkCmd c (c.payload.length = 5) (sev ≤ 3) modesAny s
  if st ≠ stOk then (s, st, [])
  else
    let w : LogWindow := ⟨if from' = 0xFFFFFFFF then s.oldestSeq else from', s.newestSeq, sev, s.ring.isEmpty⟩
    (s.updSess p (fun x => { x with log := some w }), stOk, leBytes 4 s.oldestSeq ++ leBytes 4 s.newestSeq)

/-- A held record lies in a window at or behind its cursor (R466). -/
def inWindow (w : LogWindow) (r : Record) : Bool := !w.empty && seqAtLeast r.seq w.cursor && seqAtLeast w.newest r.seq && decide (w.minSev ≤ r.sev)

/-- The next record of a window: the lowest SEQ (R466). -/
def nextRecord (s : State) (w : LogWindow) : Option Record := (s.oldestRec (inWindow w)).map (·.2)

/-- Up to `n` records of a window in ascending SEQ, and the window behind them (R466). -/
def readRecords (s : State) (w : LogWindow) : Nat → List Record × LogWindow
  | 0 => ([], w)
  | n + 1 =>
    match s.nextRecord w with
    | none => ([], w)
    | some r =>
      let x := s.readRecords { w with cursor := if recSeqMax ≤ r.seq then 1 else r.seq + 1, empty := r.seq == w.newest } n
      (r :: x.1, x.2)

/-- LOG_READ (R401, R466). -/
def logReadBody (s : State) (p : Port) (c : Cmd) : Result :=
  let n := fieldAt c.payload 0 1
  let st := checkCmd c (c.payload.length = 1) (decide (1 ≤ n) && decide (n ≤ 7)) modesAny s
  match st == stOk, (s.sess p).log with
  | true, some w =>
    let x := s.readRecords w n
    (s.updSess p (fun y => { y with log := some x.2 }), stOk, leBytes 1 x.1.length ++ x.1.flatMap recordBytes)
  | true, none => (s, stBadParam, [])
  | false, _ => (s, st, [])

/-- LOG_CLOSE (R401, R466). -/
def logCloseBody (s : State) (p : Port) (c : Cmd) : Result :=
  let st := checkCmd c (c.payload.length = 0) true modesAny s
  let st := if st = stOk ∧ (s.sess p).log.isNone then stBadParam else st
  (if st = stOk then s.updSess p (fun x => { x with log := none }) else s, st, [])

/-! ### Clear and policy -/

/-- The record of a clear goes ahead of the events that wait, and is written at once where the recorder writes (R467). -/
def clearRecord (s : State) (n : Nat) (p : Port) : State :=
  let data := leBytes 2 n ++ leBytes 1 p.idx
  let e : Event := ⟨0x9006, 0, s.now / 400, s.boot.bootn, s.mode, (data ++ List.replicate 12 0).take 12⟩
  let s := s.wr Reg.EVR_BOOK_RAISED 0 (s.rd Reg.EVR_BOOK_RAISED + 1)
  if s.acRuns && !s.on Reg.NVS_STAT_BOWARN && !s.on Reg.NVS_STAT_INHIBIT then ({ s with events := e :: s.events } : State).writeEvent
  else if s.events.length < 64 then { s with events := e :: s.events }
  else s.loseEvent

/-- LOG_CLEAR (R386, R401, R467); while no record may be written the clear stops before its first slot (R458, R474). -/
def logClearBody (s : State) (p : Port) (c : Cmd) : Result :=
  let st := checkCmd c (c.payload.length = 2) (fieldAt c.payload 0 2 = 0x5AA5) [mStandby, mRehearsal] s
  if st ≠ stOk then (s, st, [])
  else
    let n := s.ring.length
    let s := s.updAll (fun x => { x with log := none })
    if s.on Reg.NVS_STAT_BOWARN ∨ s.on Reg.NVS_STAT_INHIBIT then (s, stFailed, [0x01#8])
    else (({ s with ring := [] } : State).clearRecord n p, stOk, [])

/-- The default pair: it serves every code without its own, and no bucket holds more than its depth (R464). -/
def setDefaultPolicy (s : State) (rate burst : Nat) : State :=
  let s := (s.wr Reg.EVR_POL_RATE 0 rate).wr Reg.EVR_POL_BURST 0 burst
  { s with buckets := s.buckets.map (fun b => if b.own.isSome then b else { b with tokens := min b.tokens burst }) }

/-- A code's own pair; one equal to the default removes it (R464). -/
def setOwnPolicy (s : State) (code rate burst : Nat) : State :=
  let b := s.bucket code
  let own := if rate = s.rd Reg.EVR_POL_RATE ∧ burst = s.rd Reg.EVR_POL_BURST then none else some (rate, burst)
  s.setBucket { b with own := own, tokens := min b.tokens burst }

/-- The pair would be the 33rd code's own (R464). -/
def policyFull (s : State) (code rate burst : Nat) : Bool :=
  code != 0xFFFF && (s.bucket code).own.isNone && decide (32 ≤ (s.buckets.filter (fun b => b.own.isSome)).length) &&
    !(rate == s.rd Reg.EVR_POL_RATE && burst == s.rd Reg.EVR_POL_BURST)

/-- LOG_POLICY (R401, R464). -/
def logPolicyBody (s : State) (_p : Port) (c : Cmd) : Result :=
  let code := fieldAt c.payload 0 2
  let rate := fieldAt c.payload 2 1
  let burst := fieldAt c.payload 3 1
  let st := checkCmd c (c.payload.length = 4) (decide (1 ≤ rate) && decide (1 ≤ burst)) modesCfg s
  let st := if st = stOk ∧ s.policyFull code rate burst then stConflict else st
  (if st ≠ stOk then s else if code = 0xFFFF then s.setDefaultPolicy rate burst else s.setOwnPolicy code rate burst, st, [])

end State

/-- HELLO (R361, R389). -/
def execHello (p : Port) (h : Hdr) (pl : List Byte) (s : State) : Host.Outcome State Fault Refusal := act s (sessionRow 0x01 p h pl)

/-- CLAIM (R374). -/
def execClaim (p : Port) (h : Hdr) (pl : List Byte) (s : State) : Host.Outcome State Fault Refusal := act s (sessionRow 0x02 p h pl)

/-- YIELD (R375). -/
def execYield (p : Port) (h : Hdr) (pl : List Byte) (s : State) : Host.Outcome State Fault Refusal := act s (sessionRow 0x03 p h pl)

/-- GRANT (R375). -/
def execGrant (p : Port) (h : Hdr) (pl : List Byte) (s : State) : Host.Outcome State Fault Refusal := act s (sessionRow 0x04 p h pl)

/-- HEARTBEAT (R374). -/
def execHeartbeat (p : Port) (h : Hdr) (pl : List Byte) (s : State) : Host.Outcome State Fault Refusal := act s (sessionRow 0x05 p h pl)

/-- ABORT (R373). -/
def execAbort (p : Port) (h : Hdr) (pl : List Byte) (s : State) : Host.Outcome State Fault Refusal := act s (sessionRow 0x07 p h pl)

/-- CREDITS, action 0 (R369, R389). -/
def execCreditsReport (p : Port) (h : Hdr) (pl : List Byte) (s : State) : Host.Outcome State Fault Refusal := act s (sessionRow 0x08 p h (0x00#8 :: pl))

/-- CREDITS, action 1 (R369, R389). -/
def execCreditsReclaim (p : Port) (h : Hdr) (pl : List Byte) (s : State) : Host.Outcome State Fault Refusal := act s (sessionRow 0x08 p h (0x01#8 :: pl))

/-- LOG_OPEN (R401, R466). -/
def execLogOpen (p : Port) (h : Hdr) (pl : List Byte) (s : State) : Host.Outcome State Fault Refusal := act s (hostRow 0x60 p h pl State.logOpenBody)

/-- LOG_READ (R401, R466). -/
def execLogRead (p : Port) (h : Hdr) (pl : List Byte) (s : State) : Host.Outcome State Fault Refusal := act s (hostRow 0x61 p h pl State.logReadBody)

/-- LOG_CLOSE (R401). -/
def execLogClose (p : Port) (h : Hdr) (pl : List Byte) (s : State) : Host.Outcome State Fault Refusal := act s (hostRow 0x62 p h pl State.logCloseBody)

/-- LOG_CLEAR (R401, R467). -/
def execLogClear (p : Port) (h : Hdr) (pl : List Byte) (s : State) : Host.Outcome State Fault Refusal := act s (hostRow 0x63 p h pl State.logClearBody)

/-- LOG_POLICY (R401, R464). -/
def execLogPolicy (p : Port) (h : Hdr) (pl : List Byte) (s : State) : Host.Outcome State Fault Refusal := act s (hostRow 0x64 p h pl State.logPolicyBody)

end Sys2Proof.Machine
end

