-- ==== Sys2Proof/Machine/Service.lean ====
section
/-!
DEFINITION. The opcodes of the Hamper, the estimator, the protection and the sensors: HAMPER_CFG, GAUGE_READ, REST_WINDOW, PROT_CFG, FAULT_CLEAR, THERM_CFG (R246, R249, R252, R269, R279, R293, R294, R301, R307, R312 to R314, R318, R326, R387, R396 to R398).
-/

namespace Sys2Proof.Machine

/-- Threshold or hysteresis as a DAC code: mV at the pin by the instance's step, or 1/16 A by the stage's current gain `gain` (R293, R294, R397). -/
def dacCode (i x gain : Nat) : Nat :=
  (if i ≤ 33 ∨ i = 44 ∨ i = 45 then rdiv ((x : Int) * gain) 4096 else if i < 42 then rdiv x 2 else rdiv x 16).toNat

/-- The sense channel whose gain converts a comparator's amperes. -/
def gainChan (i : Nat) : Option Nat := if i ≤ 33 then some i else if i = 44 then some 32 else if i = 45 then some 33 else none

/-- Word 0 of a comparator frame (R301). -/
def cmpWord (flags hys dac : Nat) : Nat :=
  bits flags 0 0 * 2 ^ 31 + bits flags 1 1 * 2 ^ 30 + bits flags 2 2 * 2 ^ 29 + bits flags 4 3 * 2 ^ 27 + bits flags 7 7 * 2 ^ 26 + bits flags 6 5 * 2 ^ 24 + hys * 2 ^ 16 + dac

/-- A temperature of a payload as its code, where one exists (R326, R398). -/
def tempCode (n : Nat) : Option Nat := let t := sgn 16 n; if -64 ≤ t ∧ t ≤ 191 then some (t + 64).toNat else none

namespace State

/-! ### HAMPER_CFG -/

/-- HAMPER_CFG computes the coefficients of R252; the manual gives no formula, so each is a free value within its own limit (log entry 27). -/
def hamperCoefs (s : State) : State :=
  (List.range 7).foldl (fun s k =>
    let x := s.free
    let c := if k = 2 ∨ k = 6 then x.1 % (2 ^ 31 - 1) + 1 else x.1 % 2 ^ 32
    x.2.putCoef (0x180 + k) c) s

/-- HAMPER_CFG (R104, R246, R249, R252, R396). -/
def hamperCfgBody (s : State) (_p : Port) (c : Cmd) : Result :=
  let f (o n : Nat) : Nat := fieldAt c.payload o n
  let prd := rdiv 400000000 (f 0 4)
  let st := checkCmd c (c.payload.length = 12)
    (decide (134 ≤ prd) && decide (prd ≤ 2666) && f 4 2 != 0 && f 6 2 != 0 && f 8 2 != 0 && decide (f 10 1 ≤ 1) && f 11 1 == 0) modesCfg s
  let moves : Bool := prd.toNat != s.stg Reg.PWM_PRD 32 || f 6 2 != s.stg Reg.HAM_SHUNT_RRV || f 8 2 != s.stg Reg.HAM_SHUNT_RIIB
  let st := if st ≠ stOk then st else firstFail
    [(s.on Reg.LE_CTL_SWPEND || (moves && s.rd Reg.HAM_CTL_AMODE != 0), stBusy), (!s.prdOk 32 prd.toNat, stBadParam)]
  if st ≠ stOk then (s, st, [])
  else
    let s := [32, 33].foldl (fun s ch => ((s.stage Reg.PWM_PRD ch prd.toNat).stage Reg.PWM_CEN ch 1).stage Reg.CSA_EN ch 1) s
    let s := (s.stage Reg.PWM_SYNCSEL 33 2).stage Reg.PWM_PHSV 33 prd.toNat
    let s := ((s.stage Reg.HAM_SHUNT_RRV 0 (f 6 2)).stage Reg.HAM_SHUNT_RIIB 0 (f 8 2)).stage Reg.HAM_CTL_H1EN 0 (f 10 1)
    ((s.hamperCoefs.setV .swapStaged 0 1).setV .bankTouched 0 1, stOk, [])

/-! ### The estimator -/

/-- GAUGE_READ (R269, R387, R396). -/
def gaugeReadBody (s : State) (_p : Port) (c : Cmd) : Result :=
  let f := leNat c.payload
  let st := checkCmd c (c.payload.length = 1) (f ≤ 1) modesCfg s
  if st ≠ stOk then (s, st, [])
  else
    let rest := if 2 ≤ s.servedIl then s.objBytes 0x0A15 0 else List.replicate 8 0
    (if f = 1 then s.clearLedger else s, stOk, s.objBytes 0x0A12 0 ++ s.objBytes 0x0A13 0 ++ s.objBytes 0x0A14 0 ++ rest)

/-- The modes of REST_WINDOW (R386). -/
def restModes : List Nat := [mStandby, mActive, mInter]

/-- An action of REST_WINDOW (R279); `il` is the least interface level of the action (R386). -/
def restAction (il : Nat) (f : State → State) (s : State) (_p : Port) (c : Cmd) : Result :=
  let st := firstFail [(c.payload.length != 1 || c.obj != 0xFFFF, stBadParam), (decide (s.servedIl < il), stVersion), (!restModes.contains s.mode, stWrongMode)]
  (if st = stOk then f s else s, st, [])

/-! ### PROT_CFG -/

/-- PROT_CFG of a comparator (R293, R294, R301, R397). -/
def cfgComparator (s : State) (c : Cmd) : Result :=
  let f (o n : Nat) : Nat := fieldAt c.payload o n
  let i := f 1 1
  let gain := match gainChan i with
    | some k => s.stg Reg.CSA_SGAIN k
    | none => 0
  let hys := dacCode i (f 3 2) gain
  let dac := if i = 42 then s.stg Reg.CMP_DAC 42 else dacCode i (f 5 2) gain
  let fits : Bool := decide (hys ≤ 63) && decide (dac ≤ 1023)
  match findObj 0x05C0 with
  | none => (s, stBadParam, [])
  | some o =>
    let w := cmpWord (f 2 1) (min hys 63) (min dac 1023)
    let ok : Bool := fits && fieldsOk 0x05C0 o i [w]
    let st := checkCmd c (c.payload.length = 7) (decide (i < 48) && bits (f 2 1) 4 3 != 3 && (ok || (gainChan i).isSome)) modesCfg s
    let st := if st = stOk ∧ ¬ ok then stBadParam else st
    (if st = stOk then s.writeObj o i [w] else s, st, [])

/-- PROT_CFG of a rail's policies (R397). -/
def cfgRailPolicy (s : State) (c : Cmd) : Result :=
  let f (o n : Nat) : Nat := fieldAt c.payload o n
  let r := f 1 1
  let l := [(Reg.PROT_OVPOL, f 2 1 % 2), (Reg.PROT_UVPOL, bits (f 2 1) 2 1), (Reg.PROT_HN, f 3 1), (Reg.PROT_HRETRY, f 4 1), (Reg.PROT_HOFF, f 5 2)]
  let st := checkCmd c (c.payload.length = 7) (decide (r < 4) && decide (f 2 1 < 8) && l.all (fun x => inRange x.1 x.2)) modesCfg s
  (if st = stOk then l.foldl (fun s x => s.stage x.1 r x.2) s else s, st, [])

/-- PROT_CFG of the device's policies (R397). -/
def cfgDevice (s : State) (c : Cmd) : Result :=
  let f (o n : Nat) : Nat := fieldAt c.payload o n
  let l := [(Reg.PROT_CTL_IBOVPOL, bits (f 1 1) 1 0), (Reg.PROT_CTL_FNRAIL, bits (f 1 1) 2 2), (Reg.PROT_CTL_FNHAM, bits (f 1 1) 3 3),
    (Reg.PROT_CTL_HTRIPN, f 2 1), (Reg.PROT_CTL_THRPCT, f 3 1)]
  let st := checkCmd c (c.payload.length = 4) (decide (f 1 1 < 16) && l.all (fun x => inRange x.1 x.2)) modesCfg s
  (if st = stOk then l.foldl (fun s x => s.stage x.1 0 x.2) s else s, st, [])

/-- PROT_CFG, by KIND (R397). -/
def protCfgBody (s : State) (_p : Port) (c : Cmd) : Result :=
  match c.payload.head? with
  | some 0#8 => s.cfgComparator c
  | some 1#8 => s.cfgRailPolicy c
  | some 2#8 => s.cfgDevice c
  | _ => (s, stBadParam, [])

/-! ### FAULT_CLEAR -/

/-- The part leaves SAFESTOP: the latch and OVRFLT clear, the cores return to the PLL clocks, STANDBY or MINIMAL follows (R25, R42, R312, R363, R518). -/
def leaveSafestop (s : State) : State :=
  let s := ((s.wr Reg.PROT_LATCH_CAUSE 0 0).wr Reg.PROT_LATCH_FIRST 0 0).wr Reg.PROT_LATCH_RAILS 0 0
  let s := s.wr Reg.LE_CTL_OVRFLT 0 0
  let s := if s.on Reg.CLK_STATUS_LOCK then s.wr Reg.CLK_STATUS_ONRC 0 0 else s
  if s.vn .safeFrom = 2 then (s.enterMode mMinimal 0x0B).dropAll.safeStart
  else (if s.boot.marker ∨ s.boot.pendingReason ≠ 0 then s.startDone else s).enterMode mStandby 0x0B

/-- The rails of a mask that FAULT_CLEAR can clear: in FAULTOFF with the over-voltage output released, or not (R312). -/
def faultRails (s : State) (tgt : Nat) (ov : Bool) : List Nat :=
  (List.range 4).filter (fun r => bit tgt (4 + r) && s.railState r == railFaultOff && s.on Reg.CMP_OUT (34 + r) == ov)

/-- A rail leaves FAULTOFF (R68, R312). -/
def clearFaultOff (s : State) (r : Nat) : State := ((s.wr Reg.PROT_RETRYCNT r 0).wr Reg.PROT_FOCAUSE r 0).disable r

/-- FAULT_CLEAR (R312, R397). -/
def faultClearBody (s : State) (_p : Port) (c : Cmd) : Result :=
  let tgt := leNat c.payload
  let st := checkCmd c (c.payload.length = 1) (bits tgt 3 2 = 0) modesCfg s
  if st ≠ stOk then (s, st, [])
  else
    let causes := s.rd Reg.PROT_LATCH_CAUSE
    let stopped : Bool := bit tgt 0 && causes != 0 && s.mode == mSafestop
    let still := (List.range 7).any (fun b => bit causes b && s.causeActive b)
    let latched : Bool := bit tgt 1 && s.on Reg.PROT_LATCH_HAMLAT
    let held := s.on Reg.CMP_OUT 46 || s.on Reg.CMP_OUT 47
    let ok := s.faultRails tgt false
    let fails : Bool := (stopped && still) || (latched && held) || !(s.faultRails tgt true).isEmpty
    let done := b2n (stopped && !still) + 2 * b2n (latched && !held) + 16 * listMask ok
    let s := if latched && !held then (s.wr Reg.PROT_LATCH_HAMLAT 0 0).hamAtOnce else s
    let s := (ok.foldl (fun s r => s.clearFaultOff r) s).event 0x3008 0 (leBytes 1 tgt ++ leBytes 1 done)
    (if stopped && !still then s.leaveSafestop else s, if fails then stFailed else stOk, (if fails then [0x07#8] else []) ++ leBytes 1 done)

/-! ### THERM_CFG -/

/-- THERM_CFG of a sensor (R313, R314, R326, R398). -/
def cfgSensor (s : State) (c : Cmd) : Result :=
  let f (o n : Nat) : Nat := fieldAt c.payload o n
  let i := f 1 1
  match tempCode (f 4 2), tempCode (f 6 2), tempCode (f 8 2) with
  | some w, some t, some d =>
    let ok : Bool := decide (i ≤ 8) && decide (f 2 1 ≤ 2) && decide (f 3 1 < 16) && decide (1 ≤ f 10 1) && decide (f 10 1 ≤ 15) && decide (t < d) && decide (w < t) &&
      (i != 0 || (f 2 1 == 0 && f 3 1 == 0 && (c.payload.drop 11).all (fun b => b == 0#8)))
    let st := checkCmd c (c.payload.length = 18) ok modesCfg s
    let own := [(Reg.THM_WARN, w), (Reg.THM_THR, t), (Reg.THM_SD, d), (Reg.THM_HYS, f 10 1)]
    let ts := [(Reg.HKA_TYPE, f 2 1), (Reg.THM_RAILMASK, f 3 1), (Reg.THM_NF, f 11 1), (Reg.THM_RNOM, f 12 2), (Reg.THM_BETA, f 14 2), (Reg.THM_RPU, f 16 2)]
    (if st = stOk then (if i = 0 then own else own ++ ts).foldl (fun s x => s.stage x.1 i x.2) s else s, st, [])
  | _, _, _ => (s, stBadParam, [])

/-- The fields of the band boundaries, in order. -/
def bandFlds : List Fld := [Reg.THM_BAND_B1, Reg.THM_BAND_B2, Reg.THM_BAND_B3, Reg.THM_BAND_B4, Reg.THM_BAND_B5, Reg.THM_BAND_B6, Reg.THM_BAND_B7]

/-- THERM_CFG of the bands (R318, R398). -/
def cfgBands (s : State) (c : Cmd) : Result :=
  let f (o n : Nat) : Nat := fieldAt c.payload o n
  let bs := (List.range 7).map (fun k => tempCode (f (2 + 2 * k) 2))
  let l := bs.map (fun b => b.getD 0)
  let st := checkCmd c (c.payload.length = 16)
    (decide (1 ≤ f 1 1) && decide (f 1 1 ≤ 15) && bs.all Option.isSome && bandsOk l (f 1 1)) [mStandby, mRehearsal] s
  (if st = stOk then (bandFlds.zip l).foldl (fun s x => s.stage x.1 0 x.2) (s.stage Reg.THM_BAND_BHYS 0 (f 1 1)) else s, st, [])

/-- THERM_CFG, by KIND (R398). -/
def thermCfgBody (s : State) (_p : Port) (c : Cmd) : Result :=
  match c.payload.head? with
  | some 0#8 => s.cfgSensor c
  | some 1#8 => s.cfgBands c
  | _ => (s, stBadParam, [])

end State

/-- HAMPER_CFG (R396). -/
def execHamperCfg (p : Port) (h : Hdr) (pl : List Byte) (s : State) : Host.Outcome State Fault Refusal := act s (hostRow 0x38 p h pl State.hamperCfgBody)

/-- GAUGE_READ (R396). -/
def execGaugeRead (p : Port) (h : Hdr) (pl : List Byte) (s : State) : Host.Outcome State Fault Refusal := act s (hostRow 0x39 p h pl State.gaugeReadBody)

/-- REST_WINDOW, grant now (R279). -/
def execRestGrantNow (p : Port) (h : Hdr) (pl : List Byte) (s : State) : Host.Outcome State Fault Refusal := act s (hostRow 0x3A p h (0#8 :: pl) (State.restAction 2 State.grantNow))

/-- REST_WINDOW, grant at quiet (R279). -/
def execRestGrantAtQuiet (p : Port) (h : Hdr) (pl : List Byte) (s : State) : Host.Outcome State Fault Refusal := act s (hostRow 0x3A p h (1#8 :: pl) (State.restAction 4 State.grantQuiet))

/-- REST_WINDOW, deny (R279). -/
def execRestDeny (p : Port) (h : Hdr) (pl : List Byte) (s : State) : Host.Outcome State Fault Refusal := act s (hostRow 0x3A p h (2#8 :: pl) (State.restAction 2 State.denyRest))

/-- REST_WINDOW, cancel (R279). -/
def execRestCancel (p : Port) (h : Hdr) (pl : List Byte) (s : State) : Host.Outcome State Fault Refusal := act s (hostRow 0x3A p h (3#8 :: pl) (State.restAction 2 State.cancelRest))

/-- PROT_CFG (R397). -/
def execProtCfg (p : Port) (h : Hdr) (pl : List Byte) (s : State) : Host.Outcome State Fault Refusal := act s (hostRow 0x40 p h pl State.protCfgBody)

/-- FAULT_CLEAR (R312). -/
def execFaultClear (p : Port) (h : Hdr) (pl : List Byte) (s : State) : Host.Outcome State Fault Refusal := act s (hostRow 0x41 p h pl State.faultClearBody)

/-- THERM_CFG (R398). -/
def execThermCfg (p : Port) (h : Hdr) (pl : List Byte) (s : State) : Host.Outcome State Fault Refusal := act s (hostRow 0x48 p h pl State.thermCfgBody)

end Sys2Proof.Machine
end

