-- ==== Sys2Proof/Machine/Maintenance.lean ====
section
/-!
DEFINITION. The maintenance opcodes: CAL_ADC, BIST, CHARACTERISE, UPDATE_BEGIN, UPDATE_DATA, UPDATE_COMMIT, and the ends of a self-test and of a commit (R65 to R67, R98, R99, R203, R403, R404, R476 to R480, R487).
-/

namespace Sys2Proof.Machine

/-- One image as UPDATE_BEGIN describes it at an offset of its payload (R403). -/
def beginImage (pl : List Byte) (type off : Nat) : UpdateImage :=
  ⟨type, fieldAt pl off 2, fieldAt pl (off + 2) 1, fieldAt pl (off + 3) 1, fieldAt pl (off + 4) 4, fieldAt pl (off + 8) 4, 0⟩

/-- The images of an UPDATE_BEGIN, the supervisor first (R403). -/
def beginImages (pl : List Byte) : List UpdateImage :=
  match fieldAt pl 0 1 with
  | 1 => [beginImage pl 1 1]
  | 2 => [beginImage pl 2 1]
  | 3 => [beginImage pl 1 1, beginImage pl 2 13]
  | _ => []

/-- The header of an image's partition in a bank (R59). -/
def imageBase (bankB : Bool) (type : Nat) : Nat := if type = 1 then bankBase bankB else loopBase bankB

/-- The largest body of an image (R403). -/
def imageMax (type : Nat) : Nat := if type = 1 then supMax else loopMax

/-- The fields of an image are in range (R59, R403). -/
def imageOk (m : UpdateImage) : Bool := decide (1 ≤ m.il) && decide (m.length ≤ imageMax m.type) && (m.type == 1 || m.floor == 0)

/-- A complete image header (R59). -/
def headerBytes (m : UpdateImage) (seq : Nat) : List Byte :=
  leBytes 2 0x414C ++ leBytes 1 m.type ++ leBytes 1 (if m.type = 1 then imgTrial else imgConfirmed) ++ leBytes 2 m.version ++ leBytes 1 m.il ++
    leBytes 1 m.floor ++ leBytes 4 m.length ++ leBytes 4 seq ++ List.replicate 44 0 ++ leBytes 4 m.crc

namespace State

/-! ### CAL_ADC -/

/-- CAL_ADC (R98, R99). -/
def calAdcBody (s : State) (p : Port) (c : Cmd) : Result :=
  let st := checkCmd c (c.payload.length = 0) true [mStandby, mRehearsal, mCharacterise] s
  let st := if st = stOk ∧ (s.on Reg.CAL_STAT_BUSY ∨ (List.range 4).any (fun r => s.railState r != railDisabled)) then stBusy else st
  if st ≠ stOk then (s, st, [])
  else (((s.setV .calPort 0 (p.idx + 1)).setV .calTag 0 c.tag).calStart, stAccepted, [])

/-! ### BIST -/

/-- What makes BIST wait (R476, R477). -/
def bistBusy (s : State) (sel : Nat) : Bool :=
  s.on Reg.BIST_STAT_RUN || (bit sel 7 && [holdJob, holdEsr, holdIdent].any (fun h => s.tokensOf h != 0)) || (bit sel 2 && s.on Reg.LE_CTL_HALTED) ||
    (bit sel 1 && s.coreHalted .ac) || (bit sel 0 && s.coreHalted .sc)

/-- BIST (R403, R476, R477, R487). -/
def bistBody (s : State) (p : Port) (c : Cmd) : Result :=
  let sel := fieldAt c.payload 0 2
  let st := checkCmd c (c.payload.length = 2) (decide (1 ≤ sel) && decide (sel ≤ 255)) [mRehearsal] s
  let st := if st = stOk ∧ s.bistBusy sel then stBusy else st
  if st ≠ stOk then (s, st, [])
  else
    let s := (((s.wr Reg.BIST_STAT_RUN 0 1).wr Reg.BIST_STAT_SEL 0 sel).wr Reg.BIST_STAT_PASS 0 0).wr Reg.BIST_STAT_FAIL 0 0
    ((s.setV .bistPort 0 (p.idx + 1)).setV .bistTag 0 c.tag, stAccepted, [])

/-- A test passes: a logic test by its signature, a memory test when no word fails (R479). -/
def testPasses (n : Nat) (x : BistResult) : Bool := if n ≤ 2 then x.sig.toNat == Config.bistExpected n % 2 ^ 32 else x.nfail == 0

/-- The result frame of a test (R487). -/
def showTest (s : State) (n : Nat) (x : BistResult) : State :=
  let s := if n ≤ 2 then (s.wr Reg.BIST_SIG n x.sig.toNat).wr Reg.BIST_EXP n (Config.bistExpected n % 2 ^ 32) else (s.wr Reg.BIST_SIG n 0).wr Reg.BIST_EXP n 0
  let s := s.wr Reg.BIST_TIME n x.time.toNat
  if n ≤ 2 then (s.wr Reg.BIST_NFAIL n 0).wr Reg.BIST_FADDR n 0
  else (s.wr Reg.BIST_NFAIL n x.nfail.toNat).wr Reg.BIST_FADDR n (if x.nfail = 0 then 0 else x.faddr.toNat)

/-- Written bytes of an address range are dropped: it reads what its load put there. -/
def dropBytes (s : State) (lo hi : Nat) : State := { s with mem := s.mem.filter (fun x => decide (x.1 < lo) || decide (hi ≤ x.1)) }

/-- The phase table is restored from the store; what was written to it since is lost (R200, R477). -/
def restoreTable (s : State) : State :=
  (List.range 64).foldl (fun s i => match s.newestSlot i with
    | some (_, x) => s.restoreSegment i x.body
    | none => s) (((s.dropBytes 0x90020000 0x90028000).wr Reg.PHM_TAB_NVALID 0 0).setOn .tableDirty 0 false)

/-- What a test leaves behind (R477). -/
def afterTest (s : State) (n : Nat) : State :=
  match n with
  | 7 => (List.range 64).foldl (fun s k => s.setV .tokEpoch k (s.v .tokEpoch k + 1)) (s.dropBytes 0x91000000 0x91040000)
  | 6 => s.restoreTable
  | 5 => s.dropBytes 0x90010000 0x90011000
  | 4 => s.dropBytes 0x90000000 0x90010000
  | 2 => (List.range 5).foldl (fun s r => s.clearLane r) s
  | 1 => s.wr Reg.ICU_CORE_SLEEP 1 0
  | 0 => s.wr Reg.ICU_CORE_SLEEP 0 0
  | _ => s

/-- One selected test of a run, in descending bit order: its result, what it leaves, the record of a failure (R477, R479). -/
def endTest (l : List BistResult) (s : State) (n : Nat) : State :=
  match bit (s.rd Reg.BIST_STAT_SEL) n, l[n]? with
  | true, some x =>
    let s := (s.showTest n x).afterTest n
    if testPasses n x then s.wr Reg.BIST_STAT_PASS 0 (s.rd Reg.BIST_STAT_PASS + 2 ^ n)
    else (s.wr Reg.BIST_STAT_FAIL 0 (s.rd Reg.BIST_STAT_FAIL + 2 ^ n)).event 0xA002 2 (leBytes 1 n ++ leBytes 4 (s.rd Reg.BIST_SIG n))
  | _, _ => s

/-- The last selected test ends (R479). -/
def bistEnd (s : State) (l : List BistResult) : State :=
  if s.on Reg.BIST_STAT_RUN then
    let s := [7, 6, 5, 4, 3, 2, 1, 0].foldl (endTest l) s
    let pass := s.rd Reg.BIST_STAT_FAIL == 0
    let s := (((s.wr Reg.BIST_STAT_RUN 0 0).testHalts).wr Reg.BIST_STAT_DONE 0 1).irq 126
    let s := if pass then s.event 0xA001 0 [] else s
    (s.complete (s.vn .bistPort) (s.vn .bistTag) 0x79 (if pass then stOk else stFailed) 0x0C).setV .bistPort 0 0
  else s

/-! ### CHARACTERISE -/

/-- CHARACTERISE (R203, R403): the procedure starts with the first rail of its mask. -/
def characteriseBody (s : State) (p : Port) (c : Cmd) : Result :=
  let f (o n : Nat) : Nat := fieldAt c.payload o n
  let rails := f 0 1
  let ok := decide (rails < 16) && decide (f 1 1 ≤ f 2 1) && decide (f 2 1 ≤ 31) && decide (1 ≤ f 3 1) && decide (f 3 1 ≤ 100) && decide (10 ≤ f 4 2) && decide (f 4 2 ≤ 3600)
  let st := checkCmd c (c.payload.length = 6) ok [mCharacterise] s
  let st := if st ≠ stOk then st else firstFail
    [(s.on Reg.PHM_CHAR_RUN, stBusy), ((List.range 4).any (fun r => bit rails r && (s.assigned r).isEmpty), stBadParam)]
  if st ≠ stOk then (s, st, [])
  else
    let s := (((s.wr Reg.PHM_CHAR_RUN 0 1).wr Reg.PHM_CHAR_REASON 0 0).wr Reg.PHM_CHAR_BANDS 0 0).wr Reg.PHM_CHAR_POINTS 0 0
    let s := ((s.setV .charMask 0 rails).setV .charLo 0 (f 1 1)).setV .charHi 0 (f 2 1)
    (((s.setV .charPort 0 (p.idx + 1)).setV .charTag 0 c.tag).charNext 0, stAccepted, [])

/-! ### UPDATE -/

/-- The bank that an update targets: the one that does not run; in MINIMAL the one without a supervisor header, else the one with the lower SEQ, or A when neither has a header (R65, R404). -/
def targetBank (s : State) : Bool :=
  if s.mode = mMinimal then
    let a := s.hasImage (bankBase false)
    let b := s.hasImage (bankBase true)
    if a && b then decide (s.hdr (bankBase true) 12 4 ≤ s.hdr (bankBase false) 12 4) else a
  else !s.on Reg.SYS_BOOT_BANKB

/-- UPDATE_BEGIN (R65, R403, R404). -/
def updateBeginBody (s : State) (p : Port) (c : Cmd) : Result :=
  let l := beginImages c.payload
  let st := checkCmd c (c.payload.length == 1 + 12 * l.length && !l.isEmpty) (l.all imageOk) [mStandby, mMinimal] s
  let st := if st = stOk ∧ s.mode = mMinimal ∧ l.length ≠ 2 then stBadParam else st
  if st ≠ stOk then (s, st, [])
  else
    let b := s.targetBank
    let s' := (s.putBytes (bankBase b) [0, 0]).putBytes (loopBase b) [0, 0]
    (({ s' with update := some ⟨b, l, p.idx + 1, 0, false, s.mode⟩ } : State).enterMode mUpdate 0x0F, stOk, [])

/-- UPDATE_DATA (R65, R403, R404). -/
def updateDataBody (s : State) (_p : Port) (c : Cmd) : Result :=
  let ty := fieldAt c.payload 0 1
  let off := fieldAt c.payload 1 4
  let d := c.payload.drop 5
  let st := checkCmd c (6 ≤ c.payload.length && c.payload.length ≤ 245) (ty == 1 || ty == 2) [mUpdate] s
  match st == stOk, s.update with
  | true, some u =>
    match u.images.find? (fun m => m.type == ty) with
    | some m =>
      if off ≠ m.written ∨ m.length < m.written + d.length then (s, stBadParam, [])
      else
        let s := (s.putBytes (imageBase u.bankB ty + 64 + off) d).irq 116
        ({ s with update := some { u with images := u.images.map (fun x => if x.type = ty then { x with written := x.written + d.length } else x) } }, stOk, [])
    | none => (s, stBadParam, [])
  | true, none => (s, stWrongMode, [])
  | false, _ => (s, st, [])

/-- UPDATE_COMMIT (R66, R403). -/
def updateCommitBody (s : State) (_p : Port) (c : Cmd) : Result :=
  let st := checkCmd c (c.payload.length = 0) true [mUpdate] s
  match st == stOk, s.update with
  | true, some u =>
    if u.committing then (s, stBusy, [])
    else if u.images.any (fun m => m.written != m.length) then (s, stBadParam, [])
    else ({ s with update := some { u with committing := true, tag := c.tag } }, stAccepted, [])
  | true, none => (s, stWrongMode, [])
  | false, _ => (s, st, [])

/-- The image of a type that the target bank will hold: the begun one, or the running bank's (R65, R66). -/
def pairImage (s : State) (u : Update) (ty : Nat) : UpdateImage :=
  match u.images.find? (fun m => m.type == ty) with
  | some m => m
  | none =>
    let b := imageBase (!u.bankB) ty
    ⟨ty, s.hdr b 4 2, s.hdr b 6 1, s.hdr b 7 1, s.hdr b 8 4, s.hdr b 60 4, 0⟩

/-- An image that is copied is there and complete (R61, R65). -/
def copyOk (s : State) (u : Update) (ty : Nat) : Bool :=
  u.images.any (fun m => m.type == ty) || (s.hasImage (imageBase (!u.bankB) ty) && s.bodyOk (imageBase (!u.bankB) ty) (imageMax ty))

/-- The body that was written matches its CRC (R66). -/
def writtenOk (s : State) (u : Update) (m : UpdateImage) : Bool := crc32 (s.bytesAt (imageBase u.bankB m.type + 64) m.length) == m.crc

/-- What a commit comes to (R61, R66). -/
def commitStatus (s : State) (u : Update) : Nat :=
  let sup := s.pairImage u 1
  let loop := s.pairImage u 2
  if ¬ u.images.all (s.writtenOk u) then stFailed
  else if s.copyOk u 1 && s.copyOk u 2 && decide (sup.floor ≤ loop.il) && decide (loop.il ≤ sup.il) then stOk
  else stVersion

/-- The SEQ of the new pair (R66). -/
def commitSeq (s : State) (u : Update) : Nat := if s.hasImage (bankBase (!u.bankB)) then (s.hdr (bankBase (!u.bankB)) 12 4 + 1) % 2 ^ 32 else 1

/-- The body of an image that was not supplied is copied from the running bank (R65). -/
def copyBody (s : State) (u : Update) (ty : Nat) : State :=
  if u.images.any (fun m => m.type == ty) then s
  else s.putBytes (imageBase u.bankB ty + 64) (s.bytesAt (imageBase (!u.bankB) ty + 64) (s.pairImage u ty).length)

/-- The headers of the new pair, the supervisor's last (R59, R65, R66). -/
def writeHeaders (s : State) (u : Update) : State :=
  let q := s.commitSeq u
  let sup := s.pairImage u 1
  let loop := s.pairImage u 2
  (s.putBytes (loopBase u.bankB) (headerBytes loop q)).putBytes (bankBase u.bankB) (headerBytes sup q)

/-- A commit ends: the pair is verified, then written as a trial or left empty, and the part returns to its source mode (R42, R56, R65, R66). -/
def commitDone (s : State) : State :=
  match s.update with
  | none => s
  | some u =>
    if ¬ u.committing then s
    else
      let st := s.commitStatus u
      let s := if st = stOk then ((s.copyBody u 1).copyBody u 2).writeHeaders u else s
      let s := if st = stOk ∧ u.source = mMinimal then (s.writeBoot { s.boot with streak := 0, marker := false }).showBoot else s
      let s := (({ s with update := none } : State).complete u.port u.tag 0x7E st 0x06).irq 116
      let s := s.enterMode u.source 0x0C
      if u.source = mMinimal then s.dropAll.safeStart else s

end State

/-- CAL_ADC (R98). -/
def execCalAdc (p : Port) (h : Hdr) (pl : List Byte) (s : State) : Host.Outcome State Fault Refusal := act s (hostRow 0x78 p h pl State.calAdcBody)

/-- BIST (R476, R477). -/
def execBist (p : Port) (h : Hdr) (pl : List Byte) (s : State) : Host.Outcome State Fault Refusal := act s (hostRow 0x79 p h pl State.bistBody)

/-- CHARACTERISE (R203). -/
def execCharacterise (p : Port) (h : Hdr) (pl : List Byte) (s : State) : Host.Outcome State Fault Refusal := act s (hostRow 0x7A p h pl State.characteriseBody)

/-- UPDATE_BEGIN (R65). -/
def execUpdateBegin (p : Port) (h : Hdr) (pl : List Byte) (s : State) : Host.Outcome State Fault Refusal := act s (hostRow 0x7C p h pl State.updateBeginBody)

/-- UPDATE_DATA (R65). -/
def execUpdateData (p : Port) (h : Hdr) (pl : List Byte) (s : State) : Host.Outcome State Fault Refusal := act s (hostRow 0x7D p h pl State.updateDataBody)

/-- UPDATE_COMMIT (R66). -/
def execUpdateCommit (p : Port) (h : Hdr) (pl : List Byte) (s : State) : Host.Outcome State Fault Refusal := act s (hostRow 0x7E p h pl State.updateCommitBody)

/-- BIST_DONE (R479): one result per test, by SEL bit; those of tests not selected say nothing. -/
def execBistDone (results : List BistResult) (s : State) : Host.Outcome State Fault Refusal :=
  if results.length = 8 then act s (fun s => s.bistEnd results) else .refused .illFormed

/-- UPDATE_COMMIT_DONE (R66). -/
def execUpdateCommitDone (s : State) : Host.Outcome State Fault Refusal := act s State.commitDone

end Sys2Proof.Machine
end

