-- ==== Sys2Proof/Machine/PhmRows.lean ====
section
/-!
DEFINITION. The windows and timers of the phase manager: charge balance, saving the characterisation table, the hourly look at its hit rate, and the points and the end of a characterisation (R193, R196, R200, R202 to R204).
-/

namespace Sys2Proof.Machine

namespace State

/-- The active phases of the device. -/
def allActive (s : State) : List Nat := (List.range 32).filter (fun c => s.on Reg.PHM_ASSIGN c && s.rd Reg.PHM_ROLE c == 1)

/-- A phase's trim stands at its limit (R193). -/
def trimAtLimit (s : State) (c : Nat) : Bool :=
  let m := 8 * s.rd Reg.PHM_BAL_TRIMMAX (s.rd Reg.PHM_RAIL c)
  (s.trim (s.rd Reg.PHM_RAIL c) c).natAbs == m

/-- The measured charge reaches 5 % of IBINMAX over all active phases at their mean duty, so that CBF is evaluated (R196). Charges count in 1/32768 A times a PWM tick; a window has 80,000 ticks. -/
def balanceCounts (s : State) (q : Int) : Bool :=
  let l := s.allActive
  let n : Int := max 1 l.length
  let duty : Int := l.foldl (fun a c => a + (if s.half c = 0 then 0 else rdiv (s.rd Reg.PWM_WACT c * 32768) (s.half c))) 0
  let ib : Int := l.foldl (fun a c => a + s.rd Reg.PHM_IBINMAX c) 0
  decide (ib * duty * 32768 * 80000 ≤ q * 20 * n * 2 ^ 24)

/-- The mismatch of a window (R196). -/
def mismatch (s : State) (q : Int) : Bool :=
  s.balanceCounts q &&
    decide ((s.rd Reg.PHM_CTL_CBWIN : Int) * q < ((q * (100 - (s.rd Reg.PHM_CTL_CBLOSS : Int)) - 100 * s.v .cbRun).natAbs : Int))

/-- The shares of a window start anew. -/
def clearShares (s : State) : State := (List.range 32).foldl (fun s c => s.setV .cbShare c 0) s

/-- An evaluated window is kept with each active phase's share, for the fit of the sense gains (R342). -/
def keepWindow (s : State) (q : Int) : State :=
  let w := (q, s.allActive.map (fun c => (c, s.v .cbShare c)))
  if s.balanceCounts q then { s.clearShares with cbHist := (w :: s.cbHist).take 4096 } else s.clearShares

/-- A window of the declarations that wait for their classification has passed, with the check enabled or not (R196). -/
def passWindow (s : State) : State := (List.range 32).foldl (fun s c => s.setV .senseWin c (s.v .senseWin c - (if s.vn .senseWin c = 0 then 0 else 1))) s

/-- A charge-balance window ends: CBF, CBFL, the declaration of cause 5, and SENSEQ of phases declared in this window or the one before (R193, R196). -/
def balanceWindow (s : State) (q : Int) : State :=
  if s.on Reg.PHM_CTL_CBEN then
    let m := s.mismatch q
    let s := s.keepWindow q
    let s := (s.wrB Reg.PHM_CTL_CBF 0 m).setV .cbRun 0 0
    let s := if m then s.wr Reg.PHM_CTL_CBFL 0 1 else s
    let at' := s.allActive.filter s.trimAtLimit
    let s := match s.on Reg.PHM_CTL_CBFL, at' with
      | true, [c] =>
        let k := s.vn .cbWins + 1
        if s.rd Reg.PHM_CTL_CBN ≤ k then (s.setV .cbWins 0 0).declareFailed c 5 else s.setV .cbWins 0 k
      | _, _ => s.setV .cbWins 0 0
    (if m then (List.range 32).foldl (fun s c => if s.vn .senseWin c = 0 then s else s.wr Reg.PHM_SENSEQ c 1) s else s).passWindow
  else (s.clearShares.setV .cbRun 0 0).passWindow

/-- An hour of ACTIVE service ends: the hit rate of the table lookups, and STALE (R202). -/
def staleCheck (s : State) : State :=
  let n := s.vn .lookups
  let g := s.vn .goodLookups
  let s := if n = 0 then s else s.wr Reg.PHM_TAB_HITPCT 0 (100 * g / n)
  let s := if 100 * g < 75 * n then s.wr Reg.PHM_TAB_STALE 0 1 else s
  (s.setV .lookups 0 0).setV .goodLookups 0 0

/-- A point that the procedure takes is learned: the entry takes the trim at which the phase carried the point's current, with the 256-period rule waived; after the last point of its rail the rail is ramped down (R199, R203). -/
def charPoint (s : State) (r c bin : Nat) (t : Int) : State :=
  if s.on Reg.PHM_CHAR_RUN ∧ s.charTakes r c bin then
    let s := s.learnEntry c s.band bin t
    let m := s.rd Reg.PHM_CHAR_BANDS
    let s := (s.wr Reg.PHM_CHAR_BANDS 0 (if bit m s.band then m else m + 2 ^ s.band)).bump Reg.PHM_CHAR_POINTS 0
    if s.charMore r c bin then s else s.setV .curDown r 1
  else s

/-- The procedure completes, or its time limit expires (R204). -/
def charDone (s : State) : State :=
  if s.on Reg.PHM_CHAR_RUN then
    let s := (((s.charFree.wr Reg.PHM_CHAR_RUN 0 0).wr Reg.PHM_CHAR_DONE 0 1).wr Reg.PHM_TAB_STALE 0 0).saveTable
    let s := ((s.setV .lookups 0 0).setV .goodLookups 0 0).complete (s.vn .charPort) (s.vn .charTag) 0x7A stOk
    (s.setV .charPort 0 0).charExit 0x0C
  else s

end State

/-- CHARGE_BALANCE_WINDOW (R196). -/
def execChargeBalanceWindow (qmeas : Int) (s : State) : Host.Outcome State Fault Refusal := act s (fun s => s.balanceWindow qmeas)

/-- CHARACTERISE_POINT (R203). -/
def execCharacterisePoint (phase bin : Fin 32) (trim : Int) (s : State) : Host.Outcome State Fault Refusal :=
  act s (fun s => s.charPoint (s.rd Reg.PHM_RAIL phase) phase bin trim)

/-- CHARACTERISE_DONE (R204). -/
def execCharacteriseDone (s : State) : Host.Outcome State Fault Refusal := act s State.charDone

/-- PHASE_TABLE_SAVE_TIMER (R200). -/
def execPhaseTableSaveTimer (s : State) : Host.Outcome State Fault Refusal := act s (fun s => if s.vOn .tableDirty then s.saveTable else s)

/-- STALE_CHECK (R202). -/
def execStaleCheck (s : State) : Host.Outcome State Fault Refusal := act s State.staleCheck

end Sys2Proof.Machine
end

