-- ==== Sys2Proof/Machine/Ports.lean ====
section
/-!
DEFINITION. The host ports' own transactions: pointer and packet writes, reads of replies and summaries, bus errors; the timers of sessions and ownership (R356 to R360, R363, R374 to R376, R406 to R411).
-/

namespace Sys2Proof.Machine

namespace State

/-- The port is one of the two-wire host ports. -/
def twoWire (p : Port) : Bool := p != .hsp

/-- A write whose first byte is a pointer (R356, R409): a read pointer is stored and what follows it is ignored; 0x00 alone is stored; 0x00 with bytes behind it carries a packet; any other is NACKed. -/
def pointerWrite (s : State) (p : Port) (ptr : Nat) (extra : List Byte) : State :=
  if ¬ twoWire p then s
  else if ptr = 0 ∧ ¬ extra.isEmpty then s.deliver p extra
  else if s.portBusy p then s.turnAway p
  else if [0x00, 0xF0, 0xF1, 0xF3].contains ptr then s.wr Reg.TWI_PSTAT_PTR p.idx ptr
  else s

/-- The first `n` bytes of a read: past the end every byte reads 0xFF (R356). -/
def readOut (bs : List Byte) (n : Nat) : List Byte := (bs ++ List.replicate n 0xFF#8).take n

/-- The bytes of the oldest retrievable reply; none reads 0xFF from its first byte (R357). -/
def replyBytes (s : State) (p : Port) : List Byte := ((s.sess p).oldestReply.map (fun x => x.1.bytes)).getD []

/-- A read of the oldest reply: it is released when its last byte has been clocked out (R357). -/
def readReply (s : State) (p : Port) (n : Nat) (head : List Byte) : State :=
  let bs := s.replyBytes p
  let s' : State := { s with busOut := head ++ readOut bs n }
  if bs ≠ [] ∧ bs.length ≤ n then (s'.updSess p Session.release).irq (match p with
    | .twa => 82
    | .twb => 83
    | .hsp => 89)
  else s'

/-- A read of TWA or TWB, served from the stored pointer; a BUSY port NACKs its address (R408, R409). -/
def twRead (s : State) (p : Port) (n : Nat) : State :=
  if ¬ twoWire p then s
  else if s.portBusy p then s.turnAway p
  else match s.rd Reg.TWI_PSTAT_PTR p.idx with
    | 0xF0 => s.readReply p n []
    | 0xF1 => { s with busOut := readOut (s.summary p) n }
    | 0xF3 => { s with busOut := readOut (s.sess p).released n }
    | _ => { s with busOut := readOut [] n }

/-- The bytes that HSP shifts out with the command byte and with the dummy byte (R358). -/
def hspHead (s : State) : List Byte := (s.summary .hsp).take 2

/-- A transaction is abandoned: a START or STOP in the wrong place, or SCL held low, counted in the field given (R410, R411). -/
def abandon (s : State) (p : Port) (f : Fld) : State := ((s.bump f p.idx).event 0x7006 1 (leBytes 1 p.idx)).irq 84

/-- The SMBus timeout option of a port (R411). -/
def smbOn (s : State) (p : Port) : Bool := if p = .twa then s.on Reg.TWI_CFG_SMBTA else s.on Reg.TWI_CFG_SMBTB

/-- 60 s have passed without a packet of the session that passed its CRC check (R363). -/
def sessionTimeout (s : State) (p : Port) : State :=
  if (s.sess p).isOpen ∧ ¬ s.scStopped then (s.upTo ((s.sess p).lastGood + 24000000000)).closeSession p 1 else s

/-- The owner's earlier commands have completed: a waiting GRANT hands over (R375). -/
def handover (s : State) : State :=
  match s.granting, s.owner with
  | some (q, c), some p =>
    if s.scStopped ∨ (s.sess p).queue.any (fun d => d.asOwner) ∨ s.retuning.any (fun x => x.1 == p) ∨ ¬ (s.sess q).claim.isSome then s
    else (s.passOwner (some q) meansGrant).reply p true c stOk []
  | _, _ => s

/-- The old owner's commands have all completed: what was staged and not published is discarded, and the new owner proceeds (R376). -/
def drainEnd (s : State) : State :=
  if s.draining.isSome ∧ s.drained ∧ ¬ s.scStopped then { s.discardStaged with draining := none } else s

end State

/-- TW_POINTER_WRITE (R409). -/
def execTwPointerWrite (p : Port) (ptr : Byte) (extra : List Byte) (s : State) : Host.Outcome State Fault Refusal :=
  act s (fun s => s.pointerWrite p ptr.toNat extra)

/-- TW_PACKET_WRITE (R356): a write at pointer 0x00. -/
def execTwPacketWrite (p : Port) (bytes : List Byte) (s : State) : Host.Outcome State Fault Refusal := act s (fun s => s.pointerWrite p 0 bytes)

/-- TW_REPLY_READ (R357): a read with the stored pointer at 0xF0. -/
def execTwReplyRead (p : Port) (n : Nat) (s : State) : Host.Outcome State Fault Refusal := act s (fun s => s.twRead p n)

/-- TW_SUMMARY_READ (R360): a read with the stored pointer at 0xF1. -/
def execTwSummaryRead (p : Port) (n : Nat) (s : State) : Host.Outcome State Fault Refusal := act s (fun s => s.twRead p n)

/-- TW_REPLY_REREAD (R357): a read with the stored pointer at 0xF3. -/
def execTwReplyReread (p : Port) (n : Nat) (s : State) : Host.Outcome State Fault Refusal := act s (fun s => s.twRead p n)

/-- TW_BUS_ERROR (R410). -/
def execTwBusError (p : Port) (s : State) : Host.Outcome State Fault Refusal :=
  act s (fun s => if State.twoWire p then s.abandon p Reg.TWI_PSTAT_PROTERR else s)

/-- TW_SMBUS_TIMEOUT (R411). -/
def execTwSmbusTimeout (p : Port) (s : State) : Host.Outcome State Fault Refusal :=
  act s (fun s => if State.twoWire p && s.smbOn p then s.abandon p Reg.TWI_PSTAT_TOUT else s)

/-- HSP_PACKET_WRITE (R358). -/
def execHspPacketWrite (bytes : List Byte) (s : State) : Host.Outcome State Fault Refusal :=
  act s (fun s => ({ s with busOut := s.hspHead.take 1 ++ State.readOut [] bytes.length } : State).deliver .hsp bytes)

/-- HSP_REPLY_READ (R358): `n` bytes behind the command byte and the dummy byte. -/
def execHspReplyRead (n : Nat) (s : State) : Host.Outcome State Fault Refusal := act s (fun s => s.readReply .hsp n s.hspHead)

/-- HSP_SUMMARY_READ (R358). -/
def execHspSummaryRead (n : Nat) (s : State) : Host.Outcome State Fault Refusal :=
  act s (fun s => { s with busOut := s.hspHead ++ State.readOut (s.summary .hsp) n })

/-- HSP_REPLY_REREAD (R358). -/
def execHspReplyReread (n : Nat) (s : State) : Host.Outcome State Fault Refusal :=
  act s (fun s => { s with busOut := s.hspHead ++ State.readOut (s.sess .hsp).released n })

/-- SESSION_TIMEOUT (R363). -/
def execSessionTimeout (p : Port) (s : State) : Host.Outcome State Fault Refusal := act s (fun s => s.sessionTimeout p)

/-- LEASE_LAPSE (R374). -/
def execLeaseLapse (s : State) : Host.Outcome State Fault Refusal := act s State.lapse

/-- HANDOVER_COMPLETE (R375). -/
def execHandoverComplete (s : State) : Host.Outcome State Fault Refusal := act s State.handover

/-- DRAIN_END (R376). -/
def execDrainEnd (s : State) : Host.Outcome State Fault Refusal := act s State.drainEnd

end Sys2Proof.Machine
end

