-- ==== Sys2Proof/Machine/SystemCmds.lean ====
section
/-!
DEFINITION. The system opcodes: MODE, RESET, IDENTIFY, STATUS (R42 to R47, R56, R63, R402, R476).
-/

namespace Sys2Proof.Machine

/-- The transitions that a MODE command may name (R42, R43). -/
def modeMoves : List (Nat × Nat) :=
  [(mActive, mInter), (mInter, mActive), (mActive, mCurtain), (mInter, mCurtain), (mHoldup, mCurtain), (mStandby, mRehearsal), (mStandby, mCharacterise),
   (mRehearsal, mStandby), (mCharacterise, mStandby)]

namespace State

/-! ### MODE -/

/-- MODE STANDBY out of CHARACTERISE: the procedure is aborted, and the mode changes when the rails are off (R42, R43, R204). -/
def leaveCharacterise (s : State) (p : Port) (tag : Nat) : State :=
  let s := (((s.setV .modeWant 0 3).setV .modePort 0 (p.idx + 1)).setV .modeTag 0 tag).wr Reg.SYS_MODE_TRANS 0 1
  (s.charAbort 1 0x0B).charExit 0x01

/-- MODE CURTAIN (R42, R43): the command completes when the CURTAIN has ended. -/
def commandCurtain (s : State) (p : Port) (tag : Nat) : State :=
  let s := s.interAbandon 0x0B
  (((s.setV .modeWant 0 7).setV .modePort 0 (p.idx + 1)).setV .modeTag 0 tag).enterCurtain 0x01 0

/-- A commanded transition that R42 gives, and the status of its reply (R43). MODE ACTIVE out of INTERMISSION carries CAUSE 0x01, a host command, and not 0x0A (log entry 17). -/
def commandMode (s : State) (p : Port) (tag m : Nat) : State × Nat :=
  if m = mInter then (s.startInter (p.idx + 1) tag, stAccepted)
  else if m = mCurtain then (s.commandCurtain p tag, stAccepted)
  else if m = mActive then (s.interExit 0x01, stOk)
  else if m = mStandby ∧ s.mode = mCharacterise then (s.leaveCharacterise p tag, stAccepted)
  else (s.enterMode m 0x01, stOk)

/-- MODE (R43, R63, R476). A transition in progress, BOOT and CURTAIN come before an absent transition, which else nothing in CURTAIN could be. -/
def modeBody (s : State) (p : Port) (c : Cmd) : Result :=
  let m := fieldAt c.payload 0 1
  let st := checkCmd c (c.payload.length = 1) (m ≤ 11) modesAny s
  let st := if c.payload.length = 1 ∧ c.obj = 0xFFFF ∧ 2 ≤ s.rd Reg.SYS_BOOT_LOOPSTAT ∧ (m = mActive ∨ m = mInter ∨ m = mCharacterise) then stVersion else st
  let st := if st ≠ stOk then st else firstFail
    [(s.on Reg.SYS_MODE_TRANS || s.mode == mBoot || s.mode == mCurtain || s.on Reg.BIST_STAT_RUN, stBusy), (!modeMoves.contains (s.mode, m), stWrongMode),
     (s.mode == mRehearsal && s.on Reg.LE_CTL_HALTED, stBusy)]
  if st ≠ stOk then (s, st, []) else let x := s.commandMode p c.tag m; (x.1, x.2, [])

/-! ### RESET -/

/-- RESET (R46, R56, R402). The reply to a reset at once is lost with its session. -/
def resetBody (s : State) (p : Port) (c : Cmd) : Result :=
  let f := fieldAt c.payload 0 1
  let st := checkCmd c (c.payload.length = 1) (f ≤ 1) modesAny s
  if st ≠ stOk then (s, st, [])
  else
    let s := if f = 1 then (s.writeBoot { s.boot with streak := 0, marker := false }).showBoot else s
    if s.anyLive then (((s.setV .resetPort 0 (p.idx + 1)).setV .resetTag 0 c.tag).resetOrCurtain 0x11 rstCommand, stAccepted, [])
    else (s.devReset rstCommand, stOk, [])

/-! ### IDENTIFY and STATUS -/

/-- IDENTIFY (R402). -/
def identifyBody (s : State) (_p : Port) (c : Cmd) : Result :=
  let st := checkCmd c (c.payload.length = 0) true modesAny s
  (s, st, if st = stOk then s.objBytes 0x1500 0 ++ s.objBytes 0x1503 0 ++ s.objBytes 0x1502 0 ++ s.objBytes 0x1504 0 ++ (s.objBytes 0x1501 0).take 1 ++ leBytes 8 Config.uid.toNat else [])

/-- The counters of a session restart (R382, R402). -/
def clearCounts (x : Session) : Session := { x with seqGap := 0, crcCnt := 0, refCnt := 0, dupCnt := 0, repLost := 0 }

/-- The actions of STATUS, which follow its reply (R378, R402). -/
def statusActs (act mask clr : Nat) (x : Session) : Session :=
  let x : Session := if bit act 0 then { x with entries := [] } else x
  let x : Session := if bit act 1 then { x with almask := mask } else x
  let x : Session := if bit act 2 then { x with causes := Nat.land x.causes (511 - Nat.land clr 0x178) } else x
  if bit act 3 then clearCounts x else x

/-- A completion entry as a host reads it (R388). -/
def entryBytes (e : Entry) : List Byte := leBytes 1 e.tag ++ leBytes 1 e.opcode ++ leBytes 1 e.status ++ leBytes 1 e.reason

/-- STATUS (R378, R402). -/
def statusReport (s : State) (p : Port) (c : Cmd) : Result :=
  let act' := fieldAt c.payload 0 1
  let mask := fieldAt c.payload 1 2
  let st := checkCmd c (c.payload.length = 5) (decide (act' < 16) && (!bit act' 1 || decide (mask < 512))) modesAny s
  if st ≠ stOk then (s, st, [])
  else
    let s := s.capSync
    let x := s.sess p
    let reqs := b2n (s.on Reg.GAU_REST_REQ) + 2 * b2n (s.on Reg.PHM_TAB_STALE) + 4 * b2n (s.on Reg.CAL_STAT_BUSY)
    let d := (s.summary p).take 6 ++ leBytes 2 (s.causeWord p) ++ leBytes 2 s.evCode ++ leBytes 1 reqs ++ leBytes 1 x.entries.length ++ x.entries.flatMap entryBytes
    (s.updSess p (statusActs act' mask (fieldAt c.payload 3 2)), stOk, d)

end State

/-- MODE (R43). -/
def execMode (p : Port) (h : Hdr) (pl : List Byte) (s : State) : Host.Outcome State Fault Refusal := act s (hostRow 0x70 p h pl State.modeBody)

/-- RESET (R46). -/
def execReset (p : Port) (h : Hdr) (pl : List Byte) (s : State) : Host.Outcome State Fault Refusal := act s (hostRow 0x71 p h pl State.resetBody)

/-- IDENTIFY (R402). -/
def execIdentify (p : Port) (h : Hdr) (pl : List Byte) (s : State) : Host.Outcome State Fault Refusal := act s (hostRow 0x72 p h pl State.identifyBody)

/-- STATUS (R402). -/
def execStatus (p : Port) (h : Hdr) (pl : List Byte) (s : State) : Host.Outcome State Fault Refusal := act s (hostRow 0x73 p h pl State.statusReport)

end Sys2Proof.Machine
end

