-- ==== Sys2Proof/Machine/Dispatch.lean ====
section
/-!
DEFINITION. One arm per command: each is one direct call of the command's meaning.
-/

namespace Sys2Proof.Machine

/-- The effect of a command on everything but the queue. -/
def exec (i : Instr) (s : State) : Host.Outcome State Fault Refusal :=
  match i with
  | .powerOn => Sys2Proof.Machine.execPowerOn s
  | .supplyLoss => Sys2Proof.Machine.execSupplyLoss s
  | .resetNAssert => Sys2Proof.Machine.execResetNAssert s
  | .resetRelease => Sys2Proof.Machine.execResetRelease s
  | .pllLock addr0 addr1 safev => Sys2Proof.Machine.execPllLock addr0 addr1 safev s
  | .pllLockTimeout => Sys2Proof.Machine.execPllLockTimeout s
  | .bootTimerExpiry => Sys2Proof.Machine.execBootTimerExpiry s
  | .bootComplete => Sys2Proof.Machine.execBootComplete s
  | .clockFailure why => Sys2Proof.Machine.execClockFailure why s
  | .deferredReset => Sys2Proof.Machine.execDeferredReset s
  | .watchdogKick core value => Sys2Proof.Machine.execWatchdogKick core value s
  | .watchdogPrewarning core => Sys2Proof.Machine.execWatchdogPrewarning core s
  | .watchdogExpiry core => Sys2Proof.Machine.execWatchdogExpiry core s
  | .fatalCoreFault core => Sys2Proof.Machine.execFatalCoreFault core s
  | .coreSleep core => Sys2Proof.Machine.execCoreSleep core s
  | .pwmReload ch => Sys2Proof.Machine.execPwmReload ch s
  | .pwmPeakReload ch => Sys2Proof.Machine.execPwmPeakReload ch s
  | .pwmTrip ch path t => Sys2Proof.Machine.execPwmTrip ch path t s
  | .fltRegistered ch => Sys2Proof.Machine.execFltRegistered ch s
  | .syncEvent ch carrier => Sys2Proof.Machine.execSyncEvent ch carrier s
  | .synciEdge carrier t => Sys2Proof.Machine.execSynciEdge carrier t s
  | .synciLoss => Sys2Proof.Machine.execSynciLoss s
  | .fineDelayMeasure ch map => Sys2Proof.Machine.execFineDelayMeasure ch map s
  | .fdstaleTimeout ch => Sys2Proof.Machine.execFdstaleTimeout ch s
  | .csaSample ch raw t => Sys2Proof.Machine.execCsaSample ch raw t s
  | .csaSlopeSample ch second raw toff t => Sys2Proof.Machine.execCsaSlopeSample ch second raw toff t s
  | .vscConversion vb slot raw => Sys2Proof.Machine.execVscConversion vb slot raw s
  | .judgementVerdict readings => Sys2Proof.Machine.execJudgementVerdict readings s
  | .checkSourceRotate => Sys2Proof.Machine.execCheckSourceRotate s
  | .leUpdate ctx t => Sys2Proof.Machine.execLeUpdate ctx t s
  | .headroomWithdraw => Sys2Proof.Machine.execHeadroomWithdraw s
  | .endlyExpiry r => Sys2Proof.Machine.execEndlyExpiry r s
  | .pgdlyExpiry r => Sys2Proof.Machine.execPgdlyExpiry r s
  | .rampdownTimeout r => Sys2Proof.Machine.execRampdownTimeout r s
  | .hiccupOffExpiry r => Sys2Proof.Machine.execHiccupOffExpiry r s
  | .retryClearTimer r => Sys2Proof.Machine.execRetryClearTimer r s
  | .comparatorAssert inst => Sys2Proof.Machine.execComparatorAssert inst s
  | .comparatorRelease inst => Sys2Proof.Machine.execComparatorRelease inst s
  | .comparatorRawEdge inst passed => Sys2Proof.Machine.execComparatorRawEdge inst passed s
  | .hkaConversion inst x => Sys2Proof.Machine.execHkaConversion inst x s
  | .cctSample x => Sys2Proof.Machine.execCctSample x s
  | .shedDwellExpiry r => Sys2Proof.Machine.execShedDwellExpiry r s
  | .holdExpiry r => Sys2Proof.Machine.execHoldExpiry r s
  | .chargeBalanceWindow qmeas => Sys2Proof.Machine.execChargeBalanceWindow qmeas s
  | .phaseTableSaveTimer => Sys2Proof.Machine.execPhaseTableSaveTimer s
  | .staleCheck => Sys2Proof.Machine.execStaleCheck s
  | .swapCopyDone => Sys2Proof.Machine.execSwapCopyDone s
  | .identChip => Sys2Proof.Machine.execIdentChip s
  | .identRecordEnd bandH => Sys2Proof.Machine.execIdentRecordEnd bandH s
  | .fftDone => Sys2Proof.Machine.execFftDone s
  | .identPublish => Sys2Proof.Machine.execIdentPublish s
  | .autoRetuneRetry => Sys2Proof.Machine.execAutoRetuneRetry s
  | .cueClockQualified => Sys2Proof.Machine.execCueClockQualified s
  | .cueDeskewDone => Sys2Proof.Machine.execCueDeskewDone s
  | .cueTrain vmax vmin rails => Sys2Proof.Machine.execCueTrain vmax vmin rails s
  | .cueVcmd seq rail code vid => Sys2Proof.Machine.execCueVcmd seq rail code vid s
  | .cueSlew seq rail slew => Sys2Proof.Machine.execCueSlew seq rail slew s
  | .cueFcst seq rail fid di lead lc dur t => Sys2Proof.Machine.execCueFcst seq rail fid di lead lc dur t s
  | .cueCancel seq rail fid t => Sys2Proof.Machine.execCueCancel seq rail fid t s
  | .cueState seq lp => Sys2Proof.Machine.execCueState seq lp s
  | .cueQuiet seq start qdur => Sys2Proof.Machine.execCueQuiet seq start qdur s
  | .cuePing seq token => Sys2Proof.Machine.execCuePing seq token s
  | .cueBadPacket err => Sys2Proof.Machine.execCueBadPacket err s
  | .cueCodeViolation => Sys2Proof.Machine.execCueCodeViolation s
  | .cueLinkLoss why => Sys2Proof.Machine.execCueLinkLoss why s
  | .returnPacketStart => Sys2Proof.Machine.execReturnPacketStart s
  | .telemTimer => Sys2Proof.Machine.execTelemTimer s
  | .statusTimer => Sys2Proof.Machine.execStatusTimer s
  | .throttleRepeat => Sys2Proof.Machine.execThrottleRepeat s
  | .forecastRampStart r => Sys2Proof.Machine.execForecastRampStart r s
  | .forecastWindowClose r => Sys2Proof.Machine.execForecastWindowClose r s
  | .ibQualified => Sys2Proof.Machine.execIbQualified s
  | .holdmaxExpiry => Sys2Proof.Machine.execHoldmaxExpiry s
  | .curtainGapExpiry => Sys2Proof.Machine.execCurtainGapExpiry s
  | .gaugeUpdate => Sys2Proof.Machine.execGaugeUpdate s
  | .startupReconcile vocMv => Sys2Proof.Machine.execStartupReconcile vocMv s
  | .relaxExpiry => Sys2Proof.Machine.execRelaxExpiry s
  | .restAnchorReading vrvMv => Sys2Proof.Machine.execRestAnchorReading vrvMv s
  | .restWindowStart => Sys2Proof.Machine.execRestWindowStart s
  | .restWindowEnd => Sys2Proof.Machine.execRestWindowEnd s
  | .restGrantLapse => Sys2Proof.Machine.execRestGrantLapse s
  | .stateRecordTimer => Sys2Proof.Machine.execStateRecordTimer s
  | .brownoutWarning => Sys2Proof.Machine.execBrownoutWarning s
  | .brownoutRelease => Sys2Proof.Machine.execBrownoutRelease s
  | .writeInhibit => Sys2Proof.Machine.execWriteInhibit s
  | .slotWriteDone => Sys2Proof.Machine.execSlotWriteDone s
  | .eventRecordWrite => Sys2Proof.Machine.execEventRecordWrite s
  | .bucketRefill code => Sys2Proof.Machine.execBucketRefill code s
  | .mramReadError read => Sys2Proof.Machine.execMramReadError read s
  | .captureStall ch => Sys2Proof.Machine.execCaptureStall ch s
  | .healthPeriod => Sys2Proof.Machine.execHealthPeriod s
  | .spectrumDone => Sys2Proof.Machine.execSpectrumDone s
  | .calAdcDone factors => Sys2Proof.Machine.execCalAdcDone factors s
  | .characterisePoint phase bin trim => Sys2Proof.Machine.execCharacterisePoint phase bin trim s
  | .characteriseDone => Sys2Proof.Machine.execCharacteriseDone s
  | .bistDone results => Sys2Proof.Machine.execBistDone results s
  | .updateCommitDone => Sys2Proof.Machine.execUpdateCommitDone s
  | .discoveryDone probes => Sys2Proof.Machine.execDiscoveryDone probes s
  | .twxTransactionEnd how cleared data => Sys2Proof.Machine.execTwxTransactionEnd how cleared data s
  | .twxArbLost => Sys2Proof.Machine.execTwxArbLost s
  | .twxLowTimeout released => Sys2Proof.Machine.execTwxLowTimeout released s
  | .twxBusyTimeout => Sys2Proof.Machine.execTwxBusyTimeout s
  | .telemetryPoll readings late => Sys2Proof.Machine.execTelemetryPoll readings late s
  | .twPointerWrite p ptr extra => Sys2Proof.Machine.execTwPointerWrite p ptr extra s
  | .twPacketWrite p bytes => Sys2Proof.Machine.execTwPacketWrite p bytes s
  | .twReplyRead p n => Sys2Proof.Machine.execTwReplyRead p n s
  | .twSummaryRead p n => Sys2Proof.Machine.execTwSummaryRead p n s
  | .twReplyReread p n => Sys2Proof.Machine.execTwReplyReread p n s
  | .twBusError p => Sys2Proof.Machine.execTwBusError p s
  | .twSmbusTimeout p => Sys2Proof.Machine.execTwSmbusTimeout p s
  | .hspPacketWrite bytes => Sys2Proof.Machine.execHspPacketWrite bytes s
  | .hspReplyRead n => Sys2Proof.Machine.execHspReplyRead n s
  | .hspSummaryRead n => Sys2Proof.Machine.execHspSummaryRead n s
  | .hspReplyReread n => Sys2Proof.Machine.execHspReplyReread n s
  | .sessionTimeout p => Sys2Proof.Machine.execSessionTimeout p s
  | .leaseLapse => Sys2Proof.Machine.execLeaseLapse s
  | .handoverComplete => Sys2Proof.Machine.execHandoverComplete s
  | .drainEnd => Sys2Proof.Machine.execDrainEnd s
  | .interruptEntry core => Sys2Proof.Machine.execInterruptEntry core s
  | .interruptReturn core => Sys2Proof.Machine.execInterruptReturn core s
  | .wakeFallback src => Sys2Proof.Machine.execWakeFallback src s
  | .systemTick => Sys2Proof.Machine.execSystemTick s
  | .breakpointHit bp => Sys2Proof.Machine.execBreakpointHit bp s
  | .tapReset => Sys2Proof.Machine.execTapReset s
  | .tapUpdateIr ir => Sys2Proof.Machine.execTapUpdateIr ir s
  | .tapDbgacc addr data size write => Sys2Proof.Machine.execTapDbgacc addr data size write s
  | .expertUnlock p h => Sys2Proof.Machine.execExpertUnlock p h s
  | .expertLock p h => Sys2Proof.Machine.execExpertLock p h s
  | .commitGo p h => Sys2Proof.Machine.execCommitGo p h s
  | .leSwapArm p h => Sys2Proof.Machine.execLeSwapArm p h s
  | .leHalt p h halt => Sys2Proof.Machine.execLeHalt p h halt s
  | .cctSnap p h => Sys2Proof.Machine.execCctSnap p h s
  | .cctEnable p h en => Sys2Proof.Machine.execCctEnable p h en s
  | .capJobFire p h job => Sys2Proof.Machine.execCapJobFire p h job s
  | .twxRedisc p h => Sys2Proof.Machine.execTwxRedisc p h s
  | .twxHxfrGo p h words => Sys2Proof.Machine.execTwxHxfrGo p h words s
  | .softwareInterrupt core => Sys2Proof.Machine.execSoftwareInterrupt core s
  | .icuEoi core src => Sys2Proof.Machine.execIcuEoi core src s
  | .icuSetpend src => Sys2Proof.Machine.execIcuSetpend src s
  | .icuClrpend src => Sys2Proof.Machine.execIcuClrpend src s
  | .icuEnset src => Sys2Proof.Machine.execIcuEnset src s
  | .icuEnclr src => Sys2Proof.Machine.execIcuEnclr src s
  | .dbgDrst => Sys2Proof.Machine.execDbgDrst s
  | .dbgHalt sc ac => Sys2Proof.Machine.execDbgHalt sc ac s
  | .dbgStep core => Sys2Proof.Machine.execDbgStep core s
  | .dbgLeHaltreq req => Sys2Proof.Machine.execDbgLeHaltreq req s
  | .dbgLeStep => Sys2Proof.Machine.execDbgLeStep s
  | .registerWrite byDebug obj inst word value => Sys2Proof.Machine.execRegisterWrite byDebug obj inst word value s
  | .hello p h pl => Sys2Proof.Machine.execHello p h pl s
  | .claim p h pl => Sys2Proof.Machine.execClaim p h pl s
  | .yield p h pl => Sys2Proof.Machine.execYield p h pl s
  | .grant p h pl => Sys2Proof.Machine.execGrant p h pl s
  | .heartbeat p h pl => Sys2Proof.Machine.execHeartbeat p h pl s
  | .fence p h pl => Sys2Proof.Machine.execFence p h pl s
  | .abort p h pl => Sys2Proof.Machine.execAbort p h pl s
  | .creditsReport p h pl => Sys2Proof.Machine.execCreditsReport p h pl s
  | .creditsReclaim p h pl => Sys2Proof.Machine.execCreditsReclaim p h pl s
  | .get p h pl => Sys2Proof.Machine.execGet p h pl s
  | .set p h pl => Sys2Proof.Machine.execSet p h pl s
  | .getblk p h pl => Sys2Proof.Machine.execGetblk p h pl s
  | .setblk p h pl => Sys2Proof.Machine.execSetblk p h pl s
  | .peek p h pl => Sys2Proof.Machine.execPeek p h pl s
  | .poke p h pl => Sys2Proof.Machine.execPoke p h pl s
  | .railCfg p h pl => Sys2Proof.Machine.execRailCfg p h pl s
  | .railOn p h pl => Sys2Proof.Machine.execRailOn p h pl s
  | .railOff p h pl => Sys2Proof.Machine.execRailOff p h pl s
  | .setv p h pl => Sys2Proof.Machine.execSetv p h pl s
  | .setslew p h pl => Sys2Proof.Machine.execSetslew p h pl s
  | .loadline p h pl => Sys2Proof.Machine.execLoadline p h pl s
  | .phaseMap p h pl => Sys2Proof.Machine.execPhaseMap p h pl s
  | .shedPolicy p h pl => Sys2Proof.Machine.execShedPolicy p h pl s
  | .understudyName p h pl => Sys2Proof.Machine.execUnderstudyName p h pl s
  | .understudyWithdraw p h pl => Sys2Proof.Machine.execUnderstudyWithdraw p h pl s
  | .understudyRetire p h pl => Sys2Proof.Machine.execUnderstudyRetire p h pl s
  | .hamperCfg p h pl => Sys2Proof.Machine.execHamperCfg p h pl s
  | .gaugeRead p h pl => Sys2Proof.Machine.execGaugeRead p h pl s
  | .restGrantNow p h pl => Sys2Proof.Machine.execRestGrantNow p h pl s
  | .restGrantAtQuiet p h pl => Sys2Proof.Machine.execRestGrantAtQuiet p h pl s
  | .restDeny p h pl => Sys2Proof.Machine.execRestDeny p h pl s
  | .restCancel p h pl => Sys2Proof.Machine.execRestCancel p h pl s
  | .protCfg p h pl => Sys2Proof.Machine.execProtCfg p h pl s
  | .faultClear p h pl => Sys2Proof.Machine.execFaultClear p h pl s
  | .thermCfg p h pl => Sys2Proof.Machine.execThermCfg p h pl s
  | .captureArm p h pl => Sys2Proof.Machine.execCaptureArm p h pl s
  | .captureFire p h pl => Sys2Proof.Machine.execCaptureFire p h pl s
  | .captureCancel p h pl => Sys2Proof.Machine.execCaptureCancel p h pl s
  | .captureRead p h pl => Sys2Proof.Machine.execCaptureRead p h pl s
  | .spectrum p h pl => Sys2Proof.Machine.execSpectrum p h pl s
  | .healthRead p h pl => Sys2Proof.Machine.execHealthRead p h pl s
  | .healthBaseline p h pl => Sys2Proof.Machine.execHealthBaseline p h pl s
  | .healthEsrArm p h pl => Sys2Proof.Machine.execHealthEsrArm p h pl s
  | .healthEsrDisarm p h pl => Sys2Proof.Machine.execHealthEsrDisarm p h pl s
  | .identRun p h pl => Sys2Proof.Machine.execIdentRun p h pl s
  | .identRead p h pl => Sys2Proof.Machine.execIdentRead p h pl s
  | .retune p h pl => Sys2Proof.Machine.execRetune p h pl s
  | .logOpen p h pl => Sys2Proof.Machine.execLogOpen p h pl s
  | .logRead p h pl => Sys2Proof.Machine.execLogRead p h pl s
  | .logClose p h pl => Sys2Proof.Machine.execLogClose p h pl s
  | .logClear p h pl => Sys2Proof.Machine.execLogClear p h pl s
  | .logPolicy p h pl => Sys2Proof.Machine.execLogPolicy p h pl s
  | .mode p h pl => Sys2Proof.Machine.execMode p h pl s
  | .reset p h pl => Sys2Proof.Machine.execReset p h pl s
  | .identify p h pl => Sys2Proof.Machine.execIdentify p h pl s
  | .status p h pl => Sys2Proof.Machine.execStatus p h pl s
  | .calAdc p h pl => Sys2Proof.Machine.execCalAdc p h pl s
  | .bist p h pl => Sys2Proof.Machine.execBist p h pl s
  | .characterise p h pl => Sys2Proof.Machine.execCharacterise p h pl s
  | .updateBegin p h pl => Sys2Proof.Machine.execUpdateBegin p h pl s
  | .updateData p h pl => Sys2Proof.Machine.execUpdateData p h pl s
  | .updateCommit p h pl => Sys2Proof.Machine.execUpdateCommit p h pl s
  | .referenceRecovery => Sys2Proof.Machine.execReferenceRecovery s
  | .fltRelease ch => Sys2Proof.Machine.execFltRelease ch s

end Sys2Proof.Machine
end

