-- ==== Sys2Proof/Safety.lean ====
section
/-!
DEFINITION. What counts as a safe run, in the terms that statements use: commands that complete, what a running block answers with, a host command that may execute, and the invariant of the interrupt controller's inputs.
-/

namespace Sys2Proof

open Machine

/-- The outcome is a next state. -/
def Completes (o : Host.Outcome State Fault Refusal) : Prop := ∃ t, o = .next t

/-- The command answers a next state, which has the property. -/
def Answers (c : Instr) (s : State) (P : State → Prop) : Prop := ∃ t, exec c s = .next t ∧ P t

/-- The rows without operands that act on a block without supply or held in reset. -/
def heldRows : List Instr := [.powerOn, .supplyLoss, .resetNAssert, .resetRelease, .tapReset]

namespace Machine.State

/-- What a running block answers with when a command has had the effect `u`: the interrupt controller and the capture channels take notice (R337, R436, R441), unless the effect was a reset. -/
def after (u : State) : State := if u.power = .running then u.settle else u

/-- What executing a command gave is answered: its reply is finished, unless it follows later or the session has closed (R366, R520). -/
def answered (r : State × Nat × List Byte) (p : Port) (c : Cmd) : State :=
  if (r.1.sess p).isOpen ∧ r.2.1 ≠ stLater then r.1.reply p true c r.2.1 r.2.2 else r.1

/-- The session of a port without its waiting commands. -/
def taken (s : State) (p : Port) : State := s.updSess p (fun x => { x with queue := [] })

/-- The block runs, its SC admits and executes, and `c` is the one admitted command of an open session, with nothing it must wait for; the operands of a row with opcode `op` name it. -/
def Waiting (s : State) (p : Port) (h : Hdr) (pl : List Byte) (op : Nat) (c : Cmd) : Prop :=
  s.power = .running ∧ s.scStopped = false ∧ (s.sess p).isOpen = true ∧ (s.sess p).queue = [c] ∧ s.retuning = none ∧ s.draining = none ∧
    c.opcode = op ∧ c.tag = h.tag.toNat ∧ c.obj = h.objId.toNat ∧ c.payload = pl

/-- Every input of the interrupt controller that follows a flag of the block shows that flag's level (R435, R436). -/
def InputsFollow (s : State) : Prop := ∀ x ∈ s.icuInputs, s.icu.input.getLsbD x.1 = x.2

/-- The register fields of every key outside `keys` read alike in both states. -/
def SameRegs (s t : State) (keys : List Nat) : Prop := ∀ (f : Fld) (i : Nat), f.key i ∉ keys → t.rd f i = s.rd f i

/-- The register fields that what follows a command may change: RATECHG of the capture channels, WAKEREQ of the cores. -/
def afterKeys : List Nat := (List.range 16).map Reg.CAP_RATECHG.key ++ (List.range 2).map Reg.ICU_CORE_WAKEREQ.key

/-- Every byte of memory reads alike in both states. -/
def SameMemory (s t : State) : Prop := ∀ a, t.byteAt a = s.byteAt a

end Machine.State

/-- The CRC of the packet that a row with opcode `op` stands for. -/
def rowCrc (h : Hdr) (op : Nat) (pl : List Byte) : Nat :=
  leNat ((packet h.verFlags.toNat op h.tag.toNat h.objId.toNat h.seq.toNat pl).drop (8 + pl.length))

namespace Machine.State

/-- The command that the SC admits from a row's packet. -/
def rowCmd (s : State) (p : Port) (h : Hdr) (op : Nat) (pl : List Byte) : Cmd :=
  ⟨op, bits h.verFlags.toNat 7 4, h.tag.toNat, h.objId.toNat, h.seq.toNat, pl, s.ownerNow p, s.on Reg.EXPERT_CTL_XON, false⟩

/-- The SC admits the packet of a row: it runs, no lease is over, the receive buffers are empty, the packet is well formed and no retransmission, and checks 2 to 7 pass (R355, R364, R379). -/
def Admits (s : State) (p : Port) (h : Hdr) (op : Nat) (pl : List Byte) : Prop :=
  s.power = .running ∧ s.scStopped = false ∧ s.leaseOver = false ∧ (s.sess p).rx = [] ∧ op < 256 ∧ pl.length ≤ 248 ∧ bits h.verFlags.toNat 3 0 = 0 ∧
    ((s.sess p).isOpen = true → (s.sess p).lastPkt ≠ some (h.seq.toNat, op, h.tag.toNat, rowCrc h op pl)) ∧
    s.admitCheck p h.verFlags.toNat op h.objId.toNat pl = none

/-- What admission itself does: the pointer of a two-wire port returns to 0, the session's clock and an owner's lease restart, a gap in SEQ counts, and the packet's SEQ and its credit are taken (R356, R363, R364, R369, R374, R409). -/
def entered (s : State) (p : Port) (h : Hdr) (op : Nat) (pl : List Byte) : State :=
  let s := if p = .hsp then s else s.wr Reg.TWI_PSTAT_PTR p.idx 0
  let s := s.updSess p (fun x => { x with lastGood := s.now })
  let s := if s.isOwner p then s.renewLease else s
  let x := s.sess p
  let s := if x.isOpen = true ∧ op ≠ 0x01 ∧ h.seq.toNat ≠ (x.lastSeq + 1) % 65536 then s.updSess p (fun x => { x with seqGap := min (x.seqGap + 1) 255 }) else s
  s.updSess p (fun x => { x with
    lastSeq := if x.isOpen then h.seq.toNat else x.lastSeq,
    lastPkt := if x.isOpen then some (h.seq.toNat, op, h.tag.toNat, rowCrc h op pl) else x.lastPkt,
    outst := if credited op then x.outst ++ [h.tag.toNat] else x.outst })

end Machine.State

/-- Wherever its command is the one that waits, the row executes it: the effect and the answer that `e` gives, then the reply (R364, R520). -/
def Runs (i : Instr) (s : State) (p : Port) (h : Hdr) (pl : List Byte) (op : Nat) (e : State → Cmd → State.Result) : Prop :=
  ∀ c, s.Waiting p h pl op c → exec i s = .next (State.answered (e (s.taken p) c) p c).after

end Sys2Proof
end

