-- ==== Sys2Proof/Certificates/Slice0/Obligations.lean ====
section
/-!
DEFINITION. The statements for the provers: what every row of the table does, and what holds of the whole block.
-/

open Sys2Proof Sys2Proof.Machine Sys2Proof.Machine.State

/-! ### The queue and the clock of the model -/

/-- The command at the front of the queue takes effect on the rest of the state, with the rest of the queue behind it. -/
def Obligations.StepTakesFront : Prop :=
  ∀ (c : Instr) (rest : List Instr) (s : State), step { s with pending := c :: rest } = exec c { s with pending := rest }

/-- With no command waiting, one LE tick passes: the capture channels on comparator sources take their sample of it, and where none records nothing but the time changes (R329). That the idle step is a tick is the model's choice (log entry 2). -/
def Obligations.IdleTick : Prop :=
  ∀ s : State, s.pending = [] →
    step s = .next ({ s with now := s.now + 1 } : State).capSync ∧
    ((∀ c < 16, s.vOn .capNext c = false) → step s = .next { s with now := s.now + 1 })

/-- What follows every command changes RATECHG, WAKEREQ, the interrupt controller and the wake ticks, and no other register field, variable, byte of memory or session (R337, R436, R441). -/
def Obligations.AfterFrame : Prop :=
  ∀ s : State, s.SameRegs s.after afterKeys ∧ s.SameMemory s.after ∧ (∀ p, s.after.sess p = s.sess p) ∧
    (∀ (x : Var) (i : Nat), x ≠ .wakeAt → i < 1024 → s.after.v x i = s.v x i) ∧ s.after.staged = s.staged ∧ s.after.owner = s.owner ∧
    s.after.events = s.events ∧ s.after.ring = s.ring ∧ s.after.slots = s.slots ∧ s.after.boot = s.boot ∧ s.after.pending = s.pending ∧ s.after.now = s.now

/-- The rows that change a few fields change only those: no other register field but those of the recorder's books and what follows every command, no byte of memory, no session, no owner, and nothing of the boot record. -/
def Obligations.RowsKeepTheRest : Prop :=
  ∀ (k : CoreId) (w : Word) (bp : Fin 24) (ch : Chan) (carrier : BitVec 13) (cref : BitVec 13) (n k1 : Nat) (m : List Byte) (raw : BitVec 12) (req freed cleared : Bool) (r : Rail)
    (q : BitVec 4) (r2 : BitVec 2) (code : BitVec 12) (slew : BitVec 10) (a b : Byte) (how : TwxEnd) (src : Fin 128) (ir : BitVec 5) (s t : State), s.power = .running →
    let book := [Reg.EVR_BOOK_RAISED.key 0, Reg.EVR_STAT_LOST.key 0, Reg.EVR_BOOK_LOSTT.key 0]
    let cue := [Reg.CUE_ERR_SEQERR.key 0, Reg.CUE_ERR_FMTERR.key 0, Reg.CUE_ERR_TYPEERR.key 0]
    let twx := [Reg.TWX_HXFR_STAT.key 0, Reg.TWX_STAT_DISC.key 0, Reg.TWX_STAT_CLEARS.key 0, Reg.TWX_STAT_BUSSTUCK.key 0] ++ (List.range 34).map Reg.STAGE_FAILCNT.key
    let rows : List (Instr × List Nat) :=
      [(.watchdogKick k w, [(State.prefFld k).key 0, (State.tmoFld k).key 0]), (.icuEoi k a, [Reg.ICU_CORE_EOIERRF.key k.idx, Reg.ICU_CORE_EOIERRCNT.key k.idx]),
        (.wakeFallback src, [Reg.ICU_CORE_FBCNT.key 0, Reg.ICU_CORE_FBCNT.key 1]),
        (.breakpointHit bp, [Reg.DBGBP_HITS.key bp, (State.haltedFld (State.bpCore bp)).key 0, (State.causeFld (State.bpCore bp)).key 0]),
        (.dbgLeHaltreq req, [Reg.DBG_STAT_LEHREJ.key 0, Reg.DBG_LE_HALTREQ.key 0, Reg.LE_CTL_HALTED.key 0]), (.tapUpdateIr ir, [Reg.DBG_STAT_BSREJ.key 0]),
        (.pwmPeakReload ch, [Reg.PWM_WACT.key ch]), (.syncEvent ch carrier, [Reg.PWM_SLEWING.key ch]),
        (.synciEdge cref n, [Reg.PWM_SYNCST_MEAS.key 0, Reg.PWM_SYNCST_LOCK.key 0, Reg.PWM_SYNCST_LOSTF.key 0, Reg.PWM_SYNCST_RANGEF.key 0, Reg.PWM_SYNCST_SLEWING.key 0]),
        (.synciLoss, [Reg.PWM_SYNCST_LOCK.key 0, Reg.PWM_SYNCST_LOSTF.key 0]), (.fineDelayMeasure ch m, [Reg.PWM_FDSTALE.key ch]),
        (.csaSlopeSample ch false raw n k1, [Reg.CSA_SLOPESKIP.key ch, Reg.CSA_MISSCNT.key ch, Reg.CSA_SATF.key ch, Reg.CSA_S1.key ch])] ++
      [(.endlyExpiry r, []), (.forecastRampStart r, []), (.shedDwellExpiry r, Reg.PHM_LEDG_SHEDDING.key r :: (List.range 32).map Reg.PHM_DEPART.key), (.phaseTableSaveTimer, [Reg.PHM_TAB_SAVEPEND.key 0]),
        (.staleCheck, [Reg.PHM_TAB_HITPCT.key 0, Reg.PHM_TAB_STALE.key 0]), (.throttleRepeat, []), (.cuePing q a, cue), (.cueSlew q r2 slew, Reg.LE_CMDREJ.key r2.toNat :: cue),
        (.cueVcmd q r2 code a, [Reg.LE_CMDREJ.key r2.toNat, Reg.LE_CLAMPF.key r2.toNat, Reg.LE_TGTNOW.key r2.toNat] ++ cue)] ++
      [(.restGrantLapse, [Reg.GAU_REST_LAPSF.key 0, Reg.GAU_REST_NDENY.key 0, Reg.GAU_REST_REQ.key 0, Reg.GAU_STATE_LSUSP.key 0, Reg.GAU_REST_GRANTED.key 0, Reg.GAU_REST_QONLY.key 0]),
        (.brownoutRelease, [Reg.NVS_STAT_BOWARN.key 0, Reg.NVS_STAT_INHIBIT.key 0]), (.bucketRefill (a ++ b), []),
        (.twxTransactionEnd how cleared w, Reg.TWX_HXFR_RD.key 0 :: twx), (.twxArbLost, [Reg.TWX_STAT_ARBLOST.key 0, Reg.TWX_STAT_ARBFAIL.key 0] ++ twx),
        (.twxLowTimeout freed, Reg.TWX_STAT_LOWTOF.key 0 :: twx), (.twxBusyTimeout, Reg.TWX_STAT_BUSYF.key 0 :: twx)]
    ∀ y ∈ rows, exec y.1 s = .next t →
      s.SameRegs t (afterKeys ++ book ++ y.2) ∧ s.SameMemory t ∧ (∀ p, t.sess p = s.sess p) ∧ t.owner = s.owner ∧ t.boot = s.boot ∧ t.ring = s.ring ∧ t.pending = s.pending

/-! ### Supply and reset -/

/-- A block that does not run takes no command: it answers with the state as it was, or turns an ill-formed operand list away, unless the command is a supply, reset or TAP row (R48). -/
def Obligations.HeldBlockTakesNothing : Prop :=
  ∀ (c : Instr) (s : State), s.power ≠ .running → c ∉ heldRows → (∀ ir, c ≠ .tapUpdateIr ir) → exec c s = .next s ∨ exec c s = .refused .illFormed

/-- Supply and reset pin: POWER_ON leaves the part held in reset, SUPPLY_LOSS without supply, RESET_N resets it, and its release starts the boot ROM with every protective output in its starting state (R42, R48, R50, R71, R491). -/
def Obligations.SupplyRowsAct : Prop :=
  ∀ s : State,
    (s.power = .off → exec .powerOn s = .next { s with power := .held }) ∧
    (s.power ≠ .off → Answers .supplyLoss s (fun t => t.power = .off ∧ t.slots = s.slots ∧ t.boot = s.boot)) ∧
    (s.power ≠ .off → exec .resetNAssert s = .next (s.devReset rstPin)) ∧
    (s.power = .held → Answers .resetRelease s (fun t => t.power = .running ∧ t.now = 0 ∧ ∀ i < 48, t.v .cmpStart i = 1))

/-- RESET_N resets every register field but FAILCNT, closes every session, names itself in RSTCAUSE, and keeps the MRAM, the data store, the boot record and the serial number of the records (R10, R26, R48, R49). -/
def Obligations.ResetPinKeepsStore : Prop :=
  ∀ s : State, s.power ≠ .off → Answers .resetNAssert s (fun t =>
    t.power = .held ∧ t.rd Reg.SYS_BOOT_RSTCAUSE = 1 ∧ t.rd Reg.CLK_STATUS_FAILCNT = s.rd Reg.CLK_STATUS_FAILCNT % 2 ^ Reg.CLK_STATUS_FAILCNT.width ∧
    (∀ (f : Fld) (i : Nat), f.key i ∉ [Reg.SYS_BOOT_RSTCAUSE.key 0, Reg.CLK_STATUS_FAILCNT.key 0] → t.rd f i = fldReset f i) ∧
    (∀ p, t.sess p = Session.none) ∧ t.owner = none ∧ t.slots = s.slots ∧ t.boot = s.boot ∧ t.recSeq = s.recSeq ∧
    (∀ a, 0x40000000 ≤ a → a < 0x40240000 → t.byteAt a = s.byteAt a))

/-- Failed starts, called resets, clock failures and MRAM errors. The boot timer, the debug reset, and the delay after a CURTAIN that a reset cause started each reset the device with their cause (R42, R50, R484). No PLL lock in time: the start is counted, a start that the marker shows unfinished adds to the streak and its reason to the failure log, and below three failures the boot ROM resets itself (R24, R52, R53). A clock failure in BOOT counts and resets the part; later it latches cause 0 of SAFESTOP on the RC oscillator; the reference's return shows in REFOK and LOCK and changes nothing else (R25). An uncorrectable MRAM read outside the boot ROM's own reads of a bank raises RDERRF with its address, source 115 and a record, and a store slot that holds the word is no longer valid; one that the error code corrects counts in CORRCNT alone (R450, R453). -/
def Obligations.FailureRowsAct : Prop :=
  (∀ s : State, s.power = .running →
      (s.mode = mBoot → exec .bootTimerExpiry s = .next (s.devReset rstBootTimer)) ∧
      exec .dbgDrst s = .next (s.devReset rstDebug) ∧
      (s.vn .tReset ≠ 0 → s.vn .curReset ≠ 0 → exec .deferredReset s = .next (s.devReset (s.vn .curReset - 1)))) ∧
  (∀ s : State, s.power = .running → s.mode = mBoot → s.vOn .pllSeen = false → s.boot.marker = true → s.boot.streak < 2 →
      s.rd Reg.SYS_BOOT_RSTCAUSE ≠ rstPowerOn → s.rd Reg.SYS_BOOT_RSTCAUSE ≠ rstBrownOut →
      Answers .pllLockTimeout s (fun t => t.power = .held ∧ t.rd Reg.SYS_BOOT_RSTCAUSE = 9 ∧ t.boot.bootn = (s.boot.bootn + 1) % 65536 ∧
        t.boot.streak = s.boot.streak + 1 ∧ t.boot.marker = true ∧ t.boot.pendingReason = 0 ∧ t.boot.reason1 = s.boot.reason0 ∧ t.boot.reason2 = s.boot.reason1 ∧
        (s.boot.pendingReason ≠ 0 → t.boot.reason0 = s.boot.pendingReason))) ∧
  (∀ s : State, s.power = .running → s.vOn .pllSeen = true →
      (∀ why, s.mode = mBoot → Answers (.clockFailure why) s (fun t => t.power = .held ∧ t.rd Reg.SYS_BOOT_RSTCAUSE = 9 ∧
        t.rd Reg.CLK_STATUS_FAILCNT = min (s.rd Reg.CLK_STATUS_FAILCNT + 1) (2 ^ Reg.CLK_STATUS_FAILCNT.width - 1))) ∧
      (s.mode ≠ mBoot → s.mode ≠ mSafestop → exec (.clockFailure .noEdge) s =
        .next (((((((s.wr Reg.CLK_STATUS_CLKFAIL 0 1).bump Reg.CLK_STATUS_FAILCNT 0).irq 0).wr Reg.CLK_STATUS_REFOK 0 0).wr Reg.CLK_STATUS_ONRC 0 1).setV .pinAct 0 0).safestop 0 none).after) ∧
      exec .referenceRecovery s = .next ((s.wr Reg.CLK_STATUS_REFOK 0 1).wr Reg.CLK_STATUS_LOCK 0 1).after) ∧
  (∀ (a : Word) (s : State), s.power = .running → s.mode ≠ mBoot →
      exec (.mramReadError ⟨a, true⟩) s = .next (s.bump Reg.NVS_STAT_CORRCNT 0).after ∧
      exec (.mramReadError ⟨a, false⟩) s = .next ({ (((s.wr Reg.NVS_STAT_RDERRF 0 1).wr Reg.NVS_STAT_ERRADDR 0 a.toNat).irq 115).event 0x9003 2 (leBytes 4 a.toNat) with
        slots := if 0x40220000 ≤ a.toNat ∧ a.toNat < 0x40233DA0 then kvErase ((a.toNat - 0x40220000) / 0x210) s.slots else s.slots } : State).after ∧
      Answers (.mramReadError ⟨a, false⟩) s (fun t => t.rd Reg.NVS_STAT_RDERRF = 1 ∧ t.rd Reg.NVS_STAT_ERRADDR = a.toNat ∧ SameRegs s t
        (afterKeys ++ [Reg.NVS_STAT_RDERRF.key 0, Reg.NVS_STAT_ERRADDR.key 0, Reg.EVR_BOOK_RAISED.key 0, Reg.EVR_STAT_LOST.key 0, Reg.EVR_BOOK_LOSTT.key 0])))

/-- From PLL lock to STANDBY. PLL lock: the boot ROM latches the straps and accounts for the start; the third failed start ends in MINIMAL, else the bank that the headers choose runs, or MINIMAL with no bank (R24, R50, R53, R60). A started image that has nothing latched reaches STANDBY, where the boot record is cleared; a latched cause sends it to SAFESTOP (R50, R52, R518). -/
def Obligations.StartRowsAct : Prop :=
  (∀ (a0 a1 sv : BitVec 16) (s : State), s.power = .running → s.mode = mBoot → s.vOn .pllSeen = false →
      let locked := (((s.wr Reg.CLK_STATUS_LOCK 0 1).wr Reg.CLK_STATUS_REFOK 0 1).wr Reg.CLK_STATUS_ONRC 0 0).setV .pllSeen 0 1
      let u := (locked.latchStraps a0.toNat a1.toNat sv.toNat).accounting
      (u.boot.streak = 3 → exec (.pllLock a0 a1 sv) s = .next (u.enterMinimal 0x10).after) ∧
      (u.boot.streak ≠ 3 → u.selectBank.2 = none → exec (.pllLock a0 a1 sv) s = .next (u.selectBank.1.enterMinimal 0x20).after) ∧
      (∀ b, u.boot.streak ≠ 3 → u.selectBank.2 = some b → exec (.pllLock a0 a1 sv) s = .next (u.selectBank.1.runImage b).after) ∧
      ((locked.latchStraps a0.toNat a1.toNat sv.toNat).rd Reg.TWI_PSTAT_ADDR 0 = 0x60 + strapBin a0.toNat ∧
        (locked.latchStraps a0.toNat a1.toNat sv.toNat).rd Reg.TWI_PSTAT_ADDR 1 = 0x68 + strapBin a1.toNat)) ∧
  (∀ s : State, s.power = .running → s.mode = mBoot → s.vOn .bootRun = true → s.on Reg.TWX_STAT_DISC = false →
      (s.vOn .bootLatch = false → exec .bootComplete s = .next (s.startDone.enterMode mStandby 0x00).after) ∧
      (s.vOn .bootLatch = true → exec .bootComplete s = .next (s.bootSafestop false).after) ∧
      s.startDone.boot.streak = 0 ∧ s.startDone.boot.marker = false)

/-! ### Cores, watchdogs, interrupts, debug -/

/-- The watchdogs. A write of a core's SYS_WDT word: bit 13 clears PREF, a legal TMO is stored and waits, and only the key restarts the count, with the TMO then in force (R432, R447). Half of the timeout raises PREF and the other core's source; the full timeout, and a fatal fault, reset the part with their causes when no rail is live, and start a CURTAIN when one is (R42, R432, R433). -/
def Obligations.WatchdogRowsAct : Prop :=
  (∀ (c : CoreId) (w : Word) (s : State), s.power = .running → Answers (.watchdogKick c w) s (fun t =>
      (bit w.toNat 13 = true → t.rd (State.prefFld c) = 0) ∧
      (1 ≤ bits w.toNat 9 0 → bits w.toNat 9 0 ≤ 1000 → t.rd (State.tmoFld c) = bits w.toNat 9 0) ∧
      (bits w.toNat 31 16 = 0x5A3C → t.v .wdtAt c.idx = s.now + 1 ∧ t.v .wdtTmo c.idx = t.rd (State.tmoFld c)) ∧
      (bits w.toNat 31 16 ≠ 0x5A3C → t.v .wdtAt c.idx = s.v .wdtAt c.idx ∧ t.v .wdtTmo c.idx = s.v .wdtTmo c.idx))) ∧
  (∀ (c : CoreId) (s : State), s.power = .running →
      (s.wdtRuns c = true → s.vOn .wdtPre c.idx = false → exec (.watchdogPrewarning c) s =
        .next ((((s.upTo (s.vn .wdtAt c.idx - 1 + s.vn .wdtTmo c.idx * 200000)).wr (State.prefFld c) 0 1).setV .wdtPre c.idx 1).irq (if c = .sc then 124 else 125)).after) ∧
      (s.wdtRuns c = true → s.anyLive = false → Answers (.watchdogExpiry c) s (fun t => t.power = .held ∧ t.rd Reg.SYS_BOOT_RSTCAUSE = (if c = .sc then 3 else 4))) ∧
      (s.wdtRuns c = true → s.anyLive = true → exec (.watchdogExpiry c) s =
        .next (((s.upTo (s.vn .wdtAt c.idx - 1 + s.vn .wdtTmo c.idx * 400000)).setV .wdtAt c.idx 0).enterCurtain 0x08 (if c = .sc then 4 else 5)).after) ∧
      (s.coreRuns c = true → s.anyLive = false → Answers (.fatalCoreFault c) s (fun t => t.power = .held ∧ t.rd Reg.SYS_BOOT_RSTCAUSE = 7 ∧ t.rd Reg.ICU_CORE_FATAL c.idx = 1)) ∧
      (s.coreRuns c = true → s.anyLive = true → exec (.fatalCoreFault c) s = .next ((s.wr Reg.ICU_CORE_FATAL c.idx 1).enterCurtain 0x08 8).after))

/-- The cores and their interrupts. A core's wait instruction, its interrupt entry and its return: the winner is pushed, or the spurious vector counts; a winner at the return tail-chains (R434, R438, R439). A sleeping target that has not woken 2 µs after its wake request: the source is offered to the other core too, and the fallback counts (R441). -/
def Obligations.CoreRowsAct : Prop :=
  (∀ (c : CoreId) (s : State), s.power = .running → s.coreRuns c = true →
      exec (.coreSleep c) s = .next (s.wr Reg.ICU_CORE_SLEEP c.idx 1).after ∧
      (let u := ((s.wr Reg.ICU_CORE_SLEEP c.idx 0).wr Reg.ICU_CORE_WAKEREQ c.idx 0).setV .wakeAt c.idx 0;
        (∀ n, u.icuWinner c = some n → exec (.interruptEntry c) s = .next (u.icuPush c n).after) ∧
        (u.icuWinner c = none → exec (.interruptEntry c) s = .next (u.bump Reg.ICU_CORE_SPURCNT c.idx).after)) ∧
      (∀ n, s.icuWinner c = some n → exec (.interruptReturn c) s = .next (s.icuPush c n).after) ∧
      (s.icuWinner c = none → exec (.interruptReturn c) s = .next s.after) ∧
      (∀ n, (s.icuPush c n).stack c = (n, s.rd Reg.ICU_PRIO n) :: s.stack c)) ∧
  (∀ (n : Fin 128) (s : State), s.power = .running →
      let c := s.icuTarget n
      s.on Reg.ICU_CTL_FBEN = true → n.val ≠ 124 → n.val ≠ 125 → s.on Reg.ICU_CORE_SLEEP c.idx = true → s.on Reg.ICU_CORE_WAKEREQ c.idx = true → s.coreRuns c = true →
        s.icuWinner c = some n.val → s.vOn .fbSrc n = false →
      Answers (.wakeFallback n) s (fun t => t.v .fbSrc n = 1 ∧ t.rd Reg.ICU_CORE_FBCNT c.idx = min (s.rd Reg.ICU_CORE_FBCNT c.idx + 1) (2 ^ Reg.ICU_CORE_FBCNT.width - 1)))

/-- The winner of the arbitration is pending, enabled, offered to the core, on no stack and above the running priority, and every other such source has a lower priority, or the same and a higher number (R437). -/
def Obligations.WinnerIsHighest : Prop :=
  ∀ (c : CoreId) (s : State) (n : Nat),
    let eligible := fun m => s.icu.pend.getLsbD m && s.icu.en.getLsbD m && s.icuOffered c m && !(s.icu.stackSc ++ s.icu.stackAc).any (fun x => x.1 == m) &&
      (s.stack c).head?.all (fun x => decide (x.2 < s.rd Reg.ICU_PRIO m))
    s.icuWinner c = some n → n < 128 ∧ eligible n = true ∧
      ∀ m < 128, eligible m = true → s.rd Reg.ICU_PRIO m < s.rd Reg.ICU_PRIO n ∨ (s.rd Reg.ICU_PRIO m = s.rd Reg.ICU_PRIO n ∧ n ≤ m)

/-- EOI and the registers of the interrupt controller. EOI: the top entry's number pops it; any other number, or an empty stack, leaves the stack and sets EOIERRF (R439, R440). Software sets and clears PEND and EN of a source; a level source whose input is high keeps PEND, and a reserved source takes neither (R435, R436, R446, R447). -/
def Obligations.IcuRegisterRowsAct : Prop :=
  (∀ (c : CoreId) (n : Byte) (s : State), s.power = .running →
      (∀ q rest, s.stack c = (n.toNat, q) :: rest → exec (.icuEoi c n) s = .next (s.setStack c rest).after) ∧
      ((s.stack c).head?.all (fun x => x.1 != n.toNat) = true → Answers (.icuEoi c n) s (fun t =>
        t.stack c = s.stack c ∧ t.rd Reg.ICU_CORE_EOIERRF c.idx = 1 ∧ t.rd Reg.ICU_CORE_EOIERRCNT c.idx = min (s.rd Reg.ICU_CORE_EOIERRCNT c.idx + 1) 255))) ∧
  (∀ (n : Fin 128) (s : State), s.power = .running →
      (n.val ∉ icuReserved →
        exec (.icuSetpend n) s = .next ({ s with icu := { s.icu with pend := s.icu.pend ||| BitVec.twoPow 128 n } } : State).after ∧
        exec (.icuEnset n) s = .next ({ s with icu := { s.icu with en := s.icu.en ||| BitVec.twoPow 128 n } } : State).after ∧
        exec (.icuEnclr n) s = .next ({ s with icu := { s.icu with en := s.icu.en &&& ~~~ BitVec.twoPow 128 n } } : State).after ∧
        (s.rd Reg.ICU_SENSE n ≠ 0 ∨ s.icu.input.getLsbD n = false →
          exec (.icuClrpend n) s = .next ({ s with icu := { s.icu with pend := s.icu.pend &&& ~~~ BitVec.twoPow 128 n } } : State).after) ∧
        (s.rd Reg.ICU_SENSE n = 0 → s.icu.input.getLsbD n = true → exec (.icuClrpend n) s = .next s.after)) ∧
      (n.val ∈ icuReserved → exec (.icuSetpend n) s = .next s.after ∧ exec (.icuEnset n) s = .next s.after) ∧
      (∀ c, exec (.softwareInterrupt c) s = .next ({ s with icu := s.icu.hit (if c = .ac then 120 else 121) } : State).after) ∧
      exec .systemTick s = .next ((s.upTo ((s.now / 400000 + 1) * 400000)).irq 122).after)

/-- The debugger on the cores and on the loop engine. Halting, stepping and breakpoints of the cores; a halt requested of a core under its logic test waits, and a breakpoint at the end of a step changes the cause shown (R483, R486, R488). HALTREQ stops the loop engine only in REHEARSAL with every stage off, and is rejected elsewhere; a step runs one word on every lane of a halted engine (R21, R485). -/
def Obligations.DebugRowsAct : Prop :=
  (∀ (c : CoreId) (s : State), s.power = .running →
      (s.underTest .sc = false → s.underTest .ac = false →
        Answers (.dbgHalt true true) s (fun t => t.coreHalted .sc = true ∧ t.coreHalted .ac = true ∧ (s.coreHalted c = false → t.rd (State.causeFld c) = 1))) ∧
      (s.underTest c = true → s.coreHalted c = false → Answers (.dbgHalt true true) s (fun t => t.coreHalted c = false ∧ t.rd Reg.DBG_CTL_HALTSC = 1 ∧ t.rd Reg.DBG_CTL_HALTAC = 1)) ∧
      (s.coreHalted .sc = false → s.coreHalted .ac = false → exec (.dbgHalt false false) s = .next ((s.wr Reg.DBG_CTL_HALTSC 0 0).wr Reg.DBG_CTL_HALTAC 0 0).after) ∧
      (s.coreHalted c = true → s.on Reg.DBG_CTL_STEPIRQ = false → exec (.dbgStep c) s = .next (s.wr (State.causeFld c) 0 2).after) ∧
      (∀ bp : Fin 24, s.on Reg.DBGBP_EN bp = true → s.coreRuns (State.bpCore bp) = true →
        Answers (.breakpointHit bp) s (fun t => t.rd Reg.DBGBP_HITS bp = min (s.rd Reg.DBGBP_HITS bp + 1) (2 ^ Reg.DBGBP_HITS.width - 1) ∧
          (s.on Reg.DBGBP_ACT bp = false → t.coreHalted (State.bpCore bp) = true))) ∧
      (∀ bp : Fin 24, s.on Reg.DBGBP_EN bp = true → s.on Reg.DBGBP_ACT bp = false → State.bpCore bp = c → s.coreHalted c = true → s.rd (State.causeFld c) = 2 →
        Answers (.breakpointHit bp) s (fun t => t.coreHalted c = true ∧ t.rd (State.causeFld c) = (if bp.val < 16 then 3 else 4)))) ∧
  (∀ s : State, s.power = .running →
      ((s.mode ≠ mRehearsal ∨ s.stagesOff = false) → exec (.dbgLeHaltreq true) s = .next (s.wr Reg.DBG_STAT_LEHREJ 0 1).after) ∧
      (s.mode = mRehearsal → s.stagesOff = true → Answers (.dbgLeHaltreq true) s (fun t => t.rd Reg.DBG_LE_HALTREQ = 1 ∧ t.rd Reg.LE_CTL_HALTED = 1)) ∧
      (s.on Reg.LE_CTL_HALTED = true → exec .dbgLeStep s = .next ((List.range 5).foldl (fun s c => s.laneStep c) s).after) ∧
      (s.on Reg.LE_CTL_HALTED = false → exec .dbgLeStep s = .next s.after))

/-- The TAP: a reset selects IDCODE and gives the pins back; a pin instruction drives pins only in REHEARSAL with BSEN and is rejected with a record elsewhere; any other instruction is selected (R481, R482). -/
def Obligations.TapActs : Prop :=
  ∀ (ir : BitVec 5) (s : State),
    (s.power ≠ .off → exec .tapReset s = .next ((s.setV .tapIr 0 0).setV .pinAct 0 0)) ∧
    (s.power ≠ .off → State.pinInstr ir.toNat = false → exec (.tapUpdateIr ir) s = .next ((s.setV .tapIr 0 (ir.toNat + 1)).setV .pinAct 0 0)) ∧
    (s.power = .running → State.pinInstr ir.toNat = true → s.mode = mRehearsal → s.on Reg.DBG_CTL_BSEN = true →
      exec (.tapUpdateIr ir) s = .next (((s.setV .tapIr 0 (ir.toNat + 1)).setV .pinAct 0 0).setV .pinAct 0 1)) ∧
    (s.power = .running → State.pinInstr ir.toNat = true → (s.mode ≠ mRehearsal ∨ s.on Reg.DBG_CTL_BSEN = false) →
      Answers (.tapUpdateIr ir) s (fun t => t.rd Reg.DBG_STAT_BSREJ = 1 ∧ t.v .pinAct = 0))

/-! ### The PWM array -/

/-- A reload of a running carrier: a trip level that has stood to the end of the blanking has tripped the period that ends; then the boundary of what the channel leads comes first, then the channel's own reload. A peak reload gives the falling half of a pulse the width written to the shadow since the reload, and leaves its rising edge; without a new width, and on a stopped carrier, it does nothing (R113 to R115, R117). -/
def Obligations.ReloadsAct : Prop :=
  ∀ (c : Chan) (s : State), s.power = .running →
    let u := s.tripDue c (2 * s.half c)
    (s.on Reg.PWM_CEN c = true → c.val = 32 → exec (.pwmReload c) s = .next (u.h0Reload.channelReload 32).after) ∧
    (∀ r, s.on Reg.PWM_CEN c = true → c.val < 32 → u.railOf c = some r → r < 4 → u.lead r = some c.val → exec (.pwmReload c) s = .next ((u.railBoundary r).channelReload c).after) ∧
    (s.on Reg.PWM_CEN c = true → c.val ≠ 32 → (∀ r, u.railOf c = some r → u.lead r ≠ some c.val ∨ 4 ≤ r) → exec (.pwmReload c) s = .next (u.channelReload c).after) ∧
    (s.on Reg.PWM_CEN c = false → exec (.pwmReload c) s = .next s.after ∧ exec (.pwmPeakReload c) s = .next s.after) ∧
    (s.vOn .shadowNew c = false → exec (.pwmPeakReload c) s = .next s.after) ∧
    (s.on Reg.PWM_CEN c = true → s.on Reg.PWM_RLDM c = true → s.vOn .shadowNew c = true → s.rd Reg.PWM_WACT c ≠ 0 → s.vOn .tripLatch c = false →
      s.v .edgeEr c + 16 * (s.dt Reg.PWM_DT_DTR c : Int) ≤ 256 * ((s.half c : Int) - 2) →
      let wr := s.vn .pulseWr c
      let wf := min (max (s.rd Reg.PWM_WSH c - wr) (s.floorW c - wr)) (s.maxW c - wr)
      Answers (.pwmPeakReload c) s (fun t => t.rd Reg.PWM_WACT c = (wr + wf) % 2 ^ Reg.PWM_WACT.width ∧ t.v .edgeEf c = 256 * (s.half c : Int) + wf ∧
        t.v .riseAt c = s.v .riseAt c ∧ t.v .shadowNew c = 0))

/-- The pulse-floor policy of a live channel whose width, with what DEFER carried over, is under the floor and within the maximum: dropped under DROP, stretched to the floor under STRETCH, carried to the next period under DEFER; a width from the floor on passes (R110). -/
def Obligations.PulseFloorPolicy : Prop :=
  ∀ (c : Chan) (s : State), s.on Reg.PWM_CEN c = true → s.rd Reg.PWM_OST c = ostLive →
    let p := s.policy c
    let w := s.rd Reg.PWM_WSH c + (if p = 2 then s.rd Reg.PWM_ACC c else 0)
    0 < w → w ≤ s.maxW c → w < 2 ^ 21 → s.floorW c < 2 ^ 21 →
      (s.floorW c ≤ w → (s.reloadWidth c).rd Reg.PWM_WACT c = w) ∧
      (w < s.floorW c → p = 1 → (s.reloadWidth c).rd Reg.PWM_WACT c = s.floorW c) ∧
      (w < s.floorW c → p = 0 → (s.reloadWidth c).rd Reg.PWM_WACT c = 0 ∧ (s.reloadWidth c).rd Reg.PWM_ACC c = s.rd Reg.PWM_ACC c) ∧
      (w < s.floorW c → p = 2 → (s.reloadWidth c).rd Reg.PWM_WACT c = 0 ∧ (s.reloadWidth c).rd Reg.PWM_ACC c = w)

/-- Trips and stage faults. A trip that is enabled and not blanked, the first of its period, ends the pulse under way, suppresses one that has not begun, sets TRIPF, counts, clears ACC, and on a rail's phase marks the rail's period; the fault pin's trip does the same without the rail's count, and a trip of a Hamper phase counts once in a period of H0. A level asserted inside the blanking waits for its end; a trip path that is not admitted, or whose level does not stand, does nothing (R116 to R119, R305, R306). A stage fault of an assigned phase sets FLTF and FLTLIVE, trips the present period when FLTTRIP admits it, and declares the phase failed with cause 3; of a channel that is not assigned or whose pin is borrowed it is ignored; its release clears FLTLIVE (R112, R119, R193). -/
def Obligations.TripRowsAct : Prop :=
  (∀ (c : Chan) (path : TripPath) (t : Nat) (s : State), s.power = .running → s.vOn .tripWait c = false → (path = .asynchronous ∨ s.tripLevel c path = true) →
      (s.tripOpen c = true → s.tripEnabled c path = true → s.blanked c t = false → c.val < 32 → Answers (.pwmTrip c path t) s (fun u =>
        u.rd Reg.PWM_TRIPF c = 1 ∧ u.rd Reg.PWM_ACC c = 0 ∧ u.rd Reg.PWM_TRIPCNT c = min (s.rd Reg.PWM_TRIPCNT c + 1) (2 ^ Reg.PWM_TRIPCNT.width - 1) ∧
        u.v .tripLatch c = 1 ∧ u.v .csaTrip c = 1 ∧
        (s.v .riseAt c ≤ 16 * t → 16 * t < s.v .fallAt c → u.v .fallAt c = 16 * t ∧ u.v .riseAt c = s.v .riseAt c) ∧
        (16 * t < s.v .riseAt c → s.v .riseAt c < s.v .fallAt c → u.v .riseAt c = 0 ∧ u.v .fallAt c = 0) ∧
        (∀ r, s.railOf c = some r → path ≠ .faultPin → r < 4 → u.v .railTripped r = 1) ∧
        s.SameRegs u (afterKeys ++ [Reg.PWM_TRIPF.key c, Reg.PWM_ACC.key c, Reg.PWM_TRIPCNT.key c]) ∧ s.SameMemory u)) ∧
      (s.tripOpen c = true → s.tripEnabled c path = true → s.blanked c t = false → 32 ≤ c.val → path ≠ .faultPin → s.vOn .hamTripped = false →
        s.v .hamTrips + 1 < s.rd Reg.PROT_CTL_HTRIPN → Answers (.pwmTrip c path t) s (fun u =>
          u.rd Reg.PWM_TRIPF c = 1 ∧ u.rd Reg.PWM_ACC c = 0 ∧ u.v .hamTripped = 1 ∧ u.v .hamTrips = s.v .hamTrips + 1)) ∧
      (s.tripOpen c = true → s.tripEnabled c path = true → s.blanked c t = true → s.tripLevel c path = true →
        Answers (.pwmTrip c path t) s (fun u => u.v .tripWait c = 1 ∧ s.SameRegs u afterKeys)) ∧
      ((s.tripOpen c = false ∨ s.tripEnabled c path = false) → exec (.pwmTrip c path t) s = .next s.after)) ∧
  (∀ (c : Fin 32) (t : Nat) (s : State), s.power = .running →
      (s.on Reg.PHM_ASSIGN c = true → s.borrowed c = false →
        let u := (s.wr Reg.PWM_FLTF c 1).wr Reg.PWM_FLTLIVE c 1
        exec (.fltRegistered ⟨c, t⟩) s = .next ((u.tripAt c .faultPin t).declareFailed c 3).after ∧
        (s.on Reg.PWM_FLTTRIP c = false → s.vOn .tripWait c = false → exec (.fltRegistered ⟨c, t⟩) s = .next (u.declareFailed c 3).after)) ∧
      ((s.on Reg.PHM_ASSIGN c = false ∨ s.borrowed c = true) → exec (.fltRegistered ⟨c, t⟩) s = .next s.after) ∧
      Answers (.fltRelease ⟨c, t⟩) s (fun u => u.rd Reg.PWM_FLTLIVE c = 0))

/-- Synchronisation and the fine-delay lines. A sync event of a running, synchronised channel: a carrier within two ticks of PHSV is in step, any other slews toward it by at most a sixteenth of the period (R121). SYNCI under tracking: the first edge is remembered, a second gives the measured period; from the eighth valid period on PREF takes it, corrected by at most a sixteenth of the period while its phase lies more than two ticks off; a period out of range or that jumps is a loss with a record, and the loss of the edges clears LOCK (R121, R123, R124). A measurement of the fine-delay line keeps the new map for the reload and clears FDSTALE; without one for 1 ms FDSTALE rises with source 12; a map that is not one tap per code is no command (R108). -/
def Obligations.SyncRowsAct : Prop :=
  (∀ (c : Chan) (carrier : BitVec 13) (s : State), s.power = .running → s.on Reg.PWM_CEN c = true → s.rd Reg.PWM_SYNCSEL c ≠ 0 → 0 < s.half c →
      let n : Int := 2 * s.half c
      let d0 : Int := ((carrier.toNat : Int) - s.rd Reg.PWM_PHSV c) % n
      let d := if n < 2 * d0 then d0 - n else d0
      (d.natAbs ≤ 2 → exec (.syncEvent c carrier) s = .next ((s.setV .slewAdj c 0).wr Reg.PWM_SLEWING c 0).after) ∧
      (2 < d.natAbs → Answers (.syncEvent c carrier) s (fun t => t.rd Reg.PWM_SLEWING c = 1 ∧ (t.v .slewAdj c).natAbs ≤ n.toNat / 16 ∧ (t.v .slewAdj c).natAbs ≤ d.natAbs ∧
        t.v .slewAdj c % 2 = 0 ∧
        (0 < t.v .slewAdj c → 0 < d) ∧ (t.v .slewAdj c < 0 → d < 0)))) ∧
  (∀ (carrier : BitVec 13) (t : Nat) (s : State), s.power = .running → s.rd Reg.PWM_REF_SYNCIM = 1 →
      let m := t + 1 - s.vn .synciLast
      (s.vn .synciLast = 0 → exec (.synciEdge carrier t) s = .next (s.setV .synciLast 0 (t + 1)).after) ∧
      (s.vn .synciLast ≠ 0 → 266 ≤ m → m ≤ 5334 → s.vn .synciM = 0 → s.vn .synciValid < 7 →
        Answers (.synciEdge carrier t) s (fun u => u.rd Reg.PWM_SYNCST_MEAS = m ∧ u.v .synciValid = s.vn .synciValid + 1 ∧ u.v .synciLast = t + 1)) ∧
      (s.vn .synciLast ≠ 0 → 266 ≤ m → m ≤ 5334 → m % 2 = 0 → 7 ≤ s.vn .synciValid → 100 * ((m : Int) - s.vn .synciM).natAbs ≤ s.vn .synciM →
        Answers (.synciEdge carrier t) s (fun u => u.rd Reg.PWM_SYNCST_MEAS = m ∧ u.v .prefBase = m / 2 ∧
          ((s.synciError m carrier.toNat).natAbs ≤ 2 → u.v .prefHalf = m / 2 ∧ u.rd Reg.PWM_SYNCST_SLEWING = 0) ∧
          (2 < (s.synciError m carrier.toNat).natAbs → u.rd Reg.PWM_SYNCST_SLEWING = 1 ∧ 2 * (u.v .prefHalf - m / 2).natAbs ≤ m / 16))) ∧
      (s.vn .synciLast ≠ 0 → (m < 266 ∨ 5334 < m) →
        Answers (.synciEdge carrier t) s (fun u => u.rd Reg.PWM_SYNCST_LOCK = 0 ∧ u.rd Reg.PWM_SYNCST_LOSTF = 1 ∧ u.rd Reg.PWM_SYNCST_RANGEF = 1 ∧ u.v .synciValid = 0 ∧
          u.v .prefHalf = s.v .prefBase)) ∧
      (s.vn .synciLast ≠ 0 → Answers .synciLoss s (fun u => u.rd Reg.PWM_SYNCST_LOCK = 0 ∧ u.rd Reg.PWM_SYNCST_LOSTF = 1 ∧ u.v .synciLast = 0 ∧ u.v .prefHalf = s.v .prefBase))) ∧
  (∀ (c : Chan) (m : List Byte) (s : State),
      (s.power = .running → m.length = 16 → s.on Reg.PWM_CEN c = true → Answers (.fineDelayMeasure c m) s (fun t =>
        t.v .fdHave c = 1 ∧ t.rd Reg.PWM_FDSTALE c = 0 ∧ ∀ k < 16, t.v .fdNew (c * 16 + k) = ((m.getD k 0).toNat : Int))) ∧
      (m.length ≠ 16 → exec (.fineDelayMeasure c m) s = .refused .illFormed) ∧
      (s.power = .running → s.on Reg.PWM_CEN c = true → s.on Reg.PWM_FDSTALE c = false → exec (.fdstaleTimeout c) s = .next ((s.wr Reg.PWM_FDSTALE c 1).irq 12).after))

/-! ### Converters and temperatures -/

/-- The current converters. A main current sample, one in a period: while a conversion runs that is no slope sample it counts a miss; it drops a slope sample under way, whose field keeps its old value; otherwise CUR is the scaled code, the flags say whether it saturated, had no pulse or was cut by a trip, AVG is the running mean, and the capture channels and the phase manager take it. A channel that is off, borrowed, in calibration or sampled already in this period takes none (R74, R77 to R81, R99). Slope samples: an off-time under 400 ns counts a skip on the first, a conversion that runs a miss, and the two samples go to S1 and S2; a channel that is off, borrowed, without SLOPE or in calibration takes none (R76, R77, R99). -/
def Obligations.CurrentRowsAct : Prop :=
  (∀ (c : Chan) (raw : BitVec 12) (t : Nat) (s : State), s.power = .running →
      ((s.on Reg.CSA_EN c = false ∨ s.borrowed c = true ∨ s.on Reg.CAL_STAT_BUSY = true ∨ (s.on Reg.PWM_CEN c = true ∧ s.vOn .sampDone c = true)) →
        exec (.csaSample c raw t) s = .next s.after) ∧
      (s.on Reg.CSA_EN c = true → s.borrowed c = false → s.on Reg.CAL_STAT_BUSY = false → (s.on Reg.PWM_CEN c = true → s.vOn .sampDone c = false) → s.vOn .tripWait c = false →
        let u := s.setV .sampDone c 1
        let taken := fun (x : State) => (x.setV .convEnd c (t + 80)).setV .convSlope c 0
        (s.converting c t = true → s.vOn .convSlope c = false → exec (.csaSample c raw t) s = .next (u.bump Reg.CSA_MISSCNT c).after) ∧
        (s.converting c t = true → s.vOn .convSlope c = true → exec (.csaSample c raw t) s = .next ((taken (u.dropSlope c t)).mainResult c raw.toInt).after ∧
          (u.dropSlope c t).rd Reg.CSA_MISSCNT c = min (s.rd Reg.CSA_MISSCNT c + 1) (2 ^ Reg.CSA_MISSCNT.width - 1) ∧
          (u.dropSlope c t).rd (if s.v .convSlope c = 1 then Reg.CSA_S1 else Reg.CSA_S2) c = s.vn .slopeWas c % 2 ^ 16) ∧
        (s.converting c t = false → -2048 < raw.toInt → raw.toInt < 2047 → s.on Reg.PWM_CEN c = true → s.rd Reg.PWM_OST c = ostLive → s.rd Reg.PWM_WACT c ≠ 0 → s.vOn .csaTrip c = false →
          let cur := s.csaCurrent c raw.toInt
          let a := (((taken u).wr Reg.CSA_RAW c (code 12 raw.toInt)).wrS Reg.CSA_CUR c cur).wr Reg.CSA_SEQ c (s.vn .perCount c)
          let b := ((a.wr Reg.CSA_SAT c 0).wr Reg.CSA_NOPULSE c 0).wr Reg.CSA_TRIP c 0
          let d : State := { b with csaHist := kvPut c ((cur :: (kvFind c s.csaHist).getD []).take 128) s.csaHist }
          exec (.csaSample c raw t) s = .next (((d.wrS Reg.CSA_AVG c (d.csaAvg c)).capFeed (0x10 + c) (code 16 cur)).phaseSample c).after))) ∧
  (∀ (c : Chan) (raw : BitVec 12) (toff t : Nat) (s : State), s.power = .running →
      ((s.on Reg.CSA_EN c = false ∨ s.on Reg.CSA_SLOPE c = false ∨ s.borrowed c = true ∨ s.on Reg.CAL_STAT_BUSY = true) → ∀ second, exec (.csaSlopeSample c second raw toff t) s = .next s.after) ∧
      (s.on Reg.CSA_EN c = true → s.on Reg.CSA_SLOPE c = true → s.borrowed c = false → s.on Reg.CAL_STAT_BUSY = false →
        (toff < 320 → exec (.csaSlopeSample c false raw toff t) s = .next (s.bump Reg.CSA_SLOPESKIP c).after ∧ exec (.csaSlopeSample c true raw toff t) s = .next s.after) ∧
        (320 ≤ toff → s.converting c t = true → ∀ second, exec (.csaSlopeSample c second raw toff t) s = .next (s.bump Reg.CSA_MISSCNT c).after) ∧
        (320 ≤ toff → s.converting c t = false → Answers (.csaSlopeSample c false raw toff t) s (fun u =>
          u.rd Reg.CSA_S1 c = code 16 (s.csaCurrent c raw.toInt) ∧ u.v .slopeHave c = s.v .perCount c + 1 ∧ u.v .convEnd c = t + 80)) ∧
        (320 ≤ toff → s.converting c t = false → Answers (.csaSlopeSample c true raw toff t) s (fun u => u.rd Reg.CSA_S2 c = code 16 (s.csaCurrent c raw.toInt) ∧ u.v .convEnd c = t + 80))))

/-- The voltage converters. Conversions of the voltage converters: a slot's source takes the scaled result, slot 14 is the self-check, slot 15 of the check tap the cross-check, and VB's ends the cycle, whose end puts the solo schedule, published schedules and the band's factors in force; a converter alone makes no cross-check, a bad one nothing, and a calibration takes no results; the check source rotates (R82 to R88, R99, R101). Judgement from eight readings of the check tap: both converters near, it stays unresolved and MIS restarts; neither near, both are bad and a latching cause arises; a list of another length is no command (R87, R309). -/
def Obligations.VoltageRowsAct : Prop :=
  (∀ (vb : Bool) (raw : BitVec 14) (s : State), s.power = .running →
      let x := s.vscValue vb raw.toNat
      (s.on (if vb then Reg.VSC_STATUS_VBBAD else Reg.VSC_STATUS_VABAD) = true → ∀ slot, exec (.vscConversion vb slot raw) s = .next s.after) ∧
      (s.on (if vb then Reg.VSC_STATUS_VBBAD else Reg.VSC_STATUS_VABAD) = false →
        (s.on Reg.CAL_STAT_BUSY = false → ∀ (slot : Fin 16) (f : Fld), schedSlots[slot.val]? = some f →
          let k := (if s.vOn .soloNow then 2 else 0) + b2n vb
          1 ≤ s.rd f k → s.rd f k < srcIib → exec (.vscConversion vb slot raw) s = .next (s.vscResult vb (s.rd f k) x).after) ∧
        (s.on Reg.CAL_STAT_BUSY = false → exec (.vscConversion vb 14 raw) s = .next (s.selfCheck vb x).after) ∧
        (s.on Reg.CAL_STAT_BUSY = false → s.on Reg.VSC_STATUS_SOLO = false →
          exec (.vscConversion vb 15 raw) s = .next (if vb then (s.crossCheck vb x).cycleEnd else s.crossCheck vb x).after) ∧
        (s.on Reg.VSC_STATUS_SOLO = true → exec (.vscConversion vb 15 raw) s = .next s.cycleEnd.after) ∧
        (s.on Reg.CAL_STAT_BUSY = true → ∀ slot : Fin 16, slot.val < 15 → exec (.vscConversion vb slot raw) s = .next s.after)) ∧
      (s.rd Reg.VSC_CHECK_CHKSRC = 0 → exec .checkSourceRotate s = .next (s.setV .chkRot 0 ((s.v .chkRot + 1) % 6)).after) ∧
      s.cycleEnd.v .vscCycle = s.v .vscCycle + 1 ∧ s.cycleEnd.v .soloNow = b2n (s.on Reg.VSC_STATUS_SOLO)) ∧
  (∀ (l : List (BitVec 16)) (s : State),
      let h := l.foldl (fun (a : Int) x => a + x.toInt) 0
      let near := fun (x : Var) => ((List.range 8).foldl (fun a i => a + s.v x i) 0 * 8000 - h * 65536).natAbs ≤ 96 * 65536
      (l.length ≠ 8 → exec (.judgementVerdict l) s = .refused .illFormed) ∧
      (s.power = .running → l.length = 8 → s.on Reg.VSC_STATUS_JUDGE = true →
        (near .chkVa → near .chkVb → exec (.judgementVerdict l) s = .next (((s.wr Reg.VSC_STATUS_UNRES 0 1).wr Reg.VSC_STATUS_MIS 0 0).wr Reg.VSC_STATUS_JUDGE 0 0).after) ∧
        (near .chkVa → ¬ near .chkVb → exec (.judgementVerdict l) s = .next (s.handOver true).after) ∧
        (¬ near .chkVa → near .chkVb → exec (.judgementVerdict l) s = .next (s.handOver false).after) ∧
        (¬ near .chkVa → ¬ near .chkVb → exec (.judgementVerdict l) s =
          .next (((((s.wr Reg.VSC_STATUS_VABAD 0 1).wr Reg.VSC_STATUS_VBBAD 0 1).wr Reg.VSC_STATUS_JUDGE 0 0).wr Reg.VSC_STATUS_SOLO 0 0).safestop 5 none).after)))

/-- The housekeeping converter, the coulomb counter and the temperature thresholds. A housekeeping conversion outside the sensors enters its result, ground reading 0, and counts toward the round; a sample of the coulomb counter, with the factors of the band, enters its 48-bit accumulator and counts; an input with weight 0 and the steps of a calibration that hold the converters take neither (R92 to R95, R99, R101). A temperature between the warning threshold and the throttle and shutdown thresholds asserts the sensor's warning alone, and latches nothing (R314, R316). -/
def Obligations.SlowConvertersAct : Prop :=
  (∀ s : State, s.power = .running →
      (∀ (i : Fin 40) (x : Int), 11 ≤ i.val → s.rd Reg.HKA_WEIGHT i ≠ 0 → s.calStep 1200000 1520000 = false →
        exec (.hkaConversion i x) s = .next (s.hkaResult i (if i.val = 39 then 0 else x)).hkaCount.after) ∧
      (∀ (i : Fin 40) (x : Int), (s.rd Reg.HKA_WEIGHT i = 0 ∨ s.calStep 1200000 1520000 = true) → exec (.hkaConversion i x) s = .next s.after) ∧
      (∀ raw : BitVec 16, s.on Reg.CCT_CTL_EN = true → s.calStep 1520000 1680000 = false →
        let x := s.cctValue raw.toInt
        let a := ((s.setV .cctAcc 0 (sgn 48 (code 48 (s.v .cctAcc + x)))).setV .cctN 0 ((s.v .cctN + 1) % 2 ^ 32)).setV .cctLast 0 x
        let b := a.setV .irvMa 0 (rdiv (x * 50000000) (32768 * (s.rd Reg.HAM_SHUNT_RRV : Int)))
        exec (.cctSample raw) s = .next ((((b.dcrStep (s.v .irvMa)).tailCheck).relaxCheck.capFeed 0x90 (code 16 x)).irq 64).after) ∧
      (∀ raw : BitVec 16, (s.on Reg.CCT_CTL_EN = false ∨ s.calStep 1520000 1680000 = true) → exec (.cctSample raw) s = .next s.after)) ∧
  (∀ (i : Nat) (t : Int) (s : State), i < 9 → s.on Reg.THM_WARNA i = false → s.on Reg.THM_THRA i = false → s.on Reg.THM_SDA i = false →
      degOf (s.rd Reg.THM_WARN i) ≤ t → t < degOf (s.rd Reg.THM_THR i) → t < degOf (s.rd Reg.THM_SD i) →
        (s.thresholds i t).rd Reg.THM_WARNA i = 1 ∧ (s.thresholds i t).rd Reg.THM_WARNF i = 1 ∧ (s.thresholds i t).rd Reg.THM_THRA i = 0 ∧
          (s.thresholds i t).rd Reg.THM_SDA i = 0 ∧ (s.thresholds i t).rd Reg.PROT_LATCH_CAUSE = s.rd Reg.PROT_LATCH_CAUSE)

/-- The ends of a calibration, a self-test and a commit. A calibration ends: BUSY clears; one that was aborted ends with its step, with FAILED and no set stored; a list of another length than the converters is no command (R99, R100, R373). A self-test run of the tests that SEL names ends: DONE, no longer RUN, source 126, and its completion; a list that is not one result per test is no command (R479). A commit of an update that fails its check leaves the bank as it is, completes with the status, and returns the part to the mode it came from; without a commit nothing happens (R65, R66). -/
def Obligations.ProcedureEndsAct : Prop :=
  (∀ (l : List CalFactor) (s : State),
      (l.length ≠ 38 → exec (.calAdcDone l) s = .refused .illFormed) ∧
      (s.power = .running → l.length = 38 → s.on Reg.CAL_STAT_BUSY = true → Answers (.calAdcDone l) s (fun t => t.rd Reg.CAL_STAT_BUSY = 0 ∧ t.v .calPort = 0)) ∧
      (s.power = .running → l.length = 38 → s.on Reg.CAL_STAT_BUSY = true → s.vOn .calStop = true →
        exec (.calAdcDone l) s = .next ((s.upTo (s.vn .calAt - 1 + s.vn .calStop)).calEnd stFailed 0x01).after) ∧
      (s.power = .running → l.length = 38 → s.on Reg.CAL_STAT_BUSY = false → exec (.calAdcDone l) s = .next s.after)) ∧
  (∀ (l : List BistResult) (s : State),
      (l.length ≠ 8 → exec (.bistDone l) s = .refused .illFormed) ∧
      (s.power = .running → l.length = 8 → s.on Reg.BIST_STAT_RUN = true → Answers (.bistDone l) s (fun t => t.rd Reg.BIST_STAT_RUN = 0 ∧ t.rd Reg.BIST_STAT_DONE = 1 ∧ t.v .bistPort = 0))) ∧
  (∀ s : State, s.power = .running →
      (∀ u, s.update = some u → u.committing = true → s.commitStatus u ≠ stOk → u.source ≠ mMinimal →
        exec .updateCommitDone s = .next ((((({ s with update := none } : State).complete u.port u.tag 0x7E (s.commitStatus u) 0x06).irq 116).enterMode u.source 0x0C)).after) ∧
      (∀ u, s.update = some u → u.committing = true → s.commitStatus u = stOk → u.source ≠ mMinimal →
        exec .updateCommitDone s = .next ((((({ ((s.copyBody u 1).copyBody u 2).writeHeaders u with update := none } : State).complete u.port u.tag 0x7E stOk 0x06).irq 116).enterMode u.source 0x0C)).after) ∧
      (s.update = none → exec .updateCommitDone s = .next s.after))

/-! ### Rails, the loop engine and the comparators -/

/-- The loop engine. An update of a waiting context runs its law; a halted engine and a context without a result do nothing; the copy of a swapped bank ends the swap (R21, R131, R148). The basic law's duty reaches DOUT within 24 bits, and every active phase gets its share of it in its shadow width (R133, R184). -/
def Obligations.LoopRowsAct : Prop :=
  (∀ s : State, s.power = .running →
      (∀ (c : Fin 5) (t : Nat), s.on Reg.LE_CTL_HALTED = false → s.vOn .inWait c = true → c.val < 4 → exec (.leUpdate c t) s = .next ((s.upTo t).railUpdate c).after) ∧
      (∀ t : Nat, s.on Reg.LE_CTL_HALTED = false → s.vOn .inWait 4 = true → s.rd Reg.HAM_CTL_AMODE ≠ 0 → exec (.leUpdate 4 t) s = .next (s.upTo t).hamUpdate.after) ∧
      (∀ (c : Fin 5) (t : Nat), (s.on Reg.LE_CTL_HALTED = true ∨ s.vOn .inWait c = false) → exec (.leUpdate c t) s = .next s.after) ∧
      (s.vOn .swapCopy = true → Answers .swapCopyDone s (fun t => t.rd Reg.LE_CTL_SWPEND = 0 ∧ t.v .swapCopy = 0 ∧ t.v .bankTouched = 0))) ∧
  (∀ (r : Rail) (d : Int) (s : State),
      (s.deliverDuty r d).rd Reg.LE_DOUT r = (clamp 0 (2 ^ 24 - 1) (d / 16)).toNat ∧
      ∀ c ∈ s.active r, (s.deliverDuty r d).rd Reg.PWM_WSH c = s.phaseWidth r c (clamp 0 (2 ^ 24 - 1) (d / 16)).toNat % 2 ^ Reg.PWM_WSH.width)

/-- The ports of a rail's context: NLIVE is the number of the rail's active phases, a departing one included, and ITOT the sum of the latest CUR of exactly those phases, in Q4.28 kA (R133, R180). -/
def Obligations.PortsCountLivePhases : Prop :=
  ∀ (r : Rail) (s : State),
    let live := (List.range 32).filter (fun c => s.on Reg.PHM_ASSIGN c && s.rd Reg.PHM_RAIL c == r.val && s.rd Reg.PHM_ROLE c == 1)
    (s.railPorts r)[7]? = some (live.length : Int) ∧
    (s.railPorts r)[2]? = some (satS 32 (rdiv (((live.map (fun c => s.rdS Reg.CSA_CUR c)).sum) * 2 ^ 28) (128 * 1000)))

/-- The timers of a rail. The timers of a rail: the wake time aims the reference, PGOOD's qualification ends the ramp in REGULATE and completes RAIL_ON, 1 ms after the reference is at 0 V the phases go off, a second without a hiccup clears the retries (R143 to R145, R308). The off time of a hiccup: while a retry is left the count rises and the retry waits for the boundary, after the last the rail goes to FAULTOFF (R307, R308). -/
def Obligations.RailRowsAct : Prop :=
  (∀ (r : Rail) (s : State), s.power = .running →
      (s.vn .tEndly r ≠ 0 → Answers (.endlyExpiry r) s (fun t => t.v .tEndly r = 0 ∧ t.v .starting r = 0 ∧ t.v .refTgt r = codeVolts (s.rd Reg.LE_TGTNOW r) ∧ t.v .refSlew r = s.rd Reg.LE_SSSLEW r)) ∧
      (s.vn .tPgdly r ≠ 0 → s.railState r = railRamp → s.vOn .intEntry = false → Answers (.pgdlyExpiry r) s (fun t =>
        t.railState r = railRegulate ∧ t.rd Reg.LE_PG r = 1 ∧ t.v .tPgdly r = 0 ∧ t.v .tRetry r = (max s.now (s.vn .tPgdly r - 1) : Nat) + 400000001)) ∧
      (s.vn .tPgdly r ≠ 0 → s.railState r = railRegulate → Answers (.pgdlyExpiry r) s (fun t => t.rd Reg.LE_PG r = 1 - s.rd Reg.LE_PG r ∧ t.railState r = railRegulate)) ∧
      (s.rampingDown r = true → s.vOn .stopping r = false → s.v .refTgt r = 0 → exec (.rampdownTimeout r) s = .next ((s.upTo (s.zeroAt r + 400000)).sendOff r).after) ∧
      (s.vn .tRetry r ≠ 0 → exec (.retryClearTimer r) s = .next (((s.upTo (s.vn .tRetry r - 1)).setV .tRetry r 0).wr Reg.PROT_RETRYCNT r 0).after)) ∧
  (∀ (r : Rail) (c : Nat) (s : State), s.power = .running → s.vn .tHoff r ≠ 0 → s.lead r = some c → s.on Reg.PWM_CEN c = true →
      let u := (s.upTo (s.vn .tHoff r - 1)).setV .tHoff r 0
      (s.rd Reg.PROT_HRETRY r = 0 ∨ s.rd Reg.PROT_RETRYCNT r < s.rd Reg.PROT_HRETRY r → exec (.hiccupOffExpiry r) s = .next ((u.bump Reg.PROT_RETRYCNT r).setV .hicRetry r 1).after) ∧
      (s.rd Reg.PROT_HRETRY r ≠ 0 → s.rd Reg.PROT_HRETRY r ≤ s.rd Reg.PROT_RETRYCNT r → exec (.hiccupOffExpiry r) s = .next (u.faultOff r 1).after))

/-- A comparator: a first assertion sets RAW, LAT and OUT, counts, trips the channel it belongs to, and acts; one whose OUT already stands trips and does nothing else; its release drops OUT under LMODE 0 and keeps it for the period under LMODE 1; a raw edge of a privileged instance is counted, and recorded when the filter stops it (R71, R118, R295 to R298). -/
def Obligations.ComparatorActs : Prop :=
  ∀ (i : Fin 48) (t : Nat) (s : State), s.power = .running → s.on Reg.CMP_EN i = true →
    let up := (((((((s.setV .cmpFilt i 1).setV .cmpStart i 0).wr Reg.CMP_RAW i 1).wr Reg.CMP_LAT i 1).bump Reg.CMP_ASSERTCNT i).wr Reg.CMP_OUT i 1)).cmpTrip i t
    let down := (s.setV .cmpFilt i 0).wr Reg.CMP_RAW i 0
    (s.vOn .cmpFilt i = false → s.on Reg.CMP_OUT i = false → exec (.comparatorAssert ⟨i, t⟩) s = .next (up.outAsserted i).after) ∧
    (s.vOn .cmpFilt i = false → s.on Reg.CMP_OUT i = true → s.vOn .cmpStart i = false → exec (.comparatorAssert ⟨i, t⟩) s = .next up.after) ∧
    (s.vOn .cmpFilt i = true → exec (.comparatorAssert ⟨i, t⟩) s = .next s.after) ∧
    ((∀ c, tripChannel i = some c → s.vOn .tripWait c = false) → s.vOn .cmpFilt i = true → s.vOn .cmpStart i = false →
      (s.rd Reg.CMP_LMODE i = 0 → exec (.comparatorRelease ⟨i, t⟩) s = .next ((down.dropOut i).cmpTripEnd i).after) ∧
      (s.rd Reg.CMP_LMODE i = 1 → exec (.comparatorRelease ⟨i, t⟩) s = .next (down.cmpTripEnd i).after)) ∧
    ((34 ≤ i.val ∧ i.val ≤ 37) ∨ i.val = 42 ∨ i.val = 43 →
      exec (.comparatorRawEdge i true) s = .next (((s.wr Reg.CMP_EDGEF i 1).bump Reg.CMP_EDGECNT i).wr Reg.CMP_RAW i 1).after ∧
      exec (.comparatorRawEdge i false) s = .next (((s.wr Reg.CMP_EDGEF i 1).bump Reg.CMP_EDGECNT i).event 0x3009 1 (leBytes 1 i)).after)

/-! ### The phase manager -/

/-- Shedding and the charge balance. The dwell of a shed condition that still holds starts a shed step: the phase that the shed order chooses departs; the hold-off after a reversal ends, and the dwell is looked at again (R187 to R190). A charge-balance window without a mismatch clears CBF; a mismatch with no phase at its trim limit sets CBF and CBFL; with the check off the sums restart (R196). -/
def Obligations.PhaseTimersAct : Prop :=
  (∀ (r : Rail) (s : State), s.power = .running →
      (let u := (s.upTo (s.vn .tDwell r - 1)).setV .tDwell r 0;
        ∀ c < 32, s.vn .tDwell r ≠ 0 → u.shedCond r = true → u.shedFrozen r = false → s.throttled r = false → u.departing r = none → u.on Reg.PHM_LEDG_HOLDING r = false →
          u.shedChoice r = some c → Answers (.shedDwellExpiry r) s (fun t => t.rd Reg.PHM_DEPART c = 1 ∧ t.rd Reg.PHM_LEDG_SHEDDING r = 1 ∧ t.v .shedJ r = 1 ∧ t.v .tDwell r = 0)) ∧
      (s.vn .tHold r ≠ 0 → exec (.holdExpiry r) s = .next ((((s.upTo (s.vn .tHold r - 1)).setV .tHold r 0).wr Reg.PHM_LEDG_HOLDING r 0).dwellCheck r).after)) ∧
  (∀ (q : Int) (s : State), s.power = .running →
      (s.on Reg.PHM_CTL_CBEN = true → s.mismatch q = false → s.on Reg.PHM_CTL_CBFL = false →
        Answers (.chargeBalanceWindow q) s (fun t => t.rd Reg.PHM_CTL_CBF = 0 ∧ t.rd Reg.PHM_CTL_CBFL = 0 ∧ t.v .cbRun = 0)) ∧
      (s.on Reg.PHM_CTL_CBEN = true → s.mismatch q = true → s.allActive.filter s.trimAtLimit = [] →
        Answers (.chargeBalanceWindow q) s (fun t => t.rd Reg.PHM_CTL_CBF = 1 ∧ t.rd Reg.PHM_CTL_CBFL = 1 ∧ t.v .cbRun = 0)) ∧
      (s.on Reg.PHM_CTL_CBEN = false → Answers (.chargeBalanceWindow q) s (fun t => t.v .cbRun = 0 ∧ s.SameRegs t afterKeys)))

/-- The characterisation table and the procedure that fills it. The characterisation table's timers: the save queues every segment when an entry has changed, and the hourly look gives the hit rate and STALE under 75 % (R200, R202). A point that a running characterisation takes counts and marks its band, and one outside the procedure's rail, range and reach does nothing; the end of the procedure sets DONE, clears STALE and completes the command (R199, R203, R204). -/
def Obligations.TableRowsAct : Prop :=
  (∀ s : State, s.power = .running →
      (s.vOn .tableDirty = true → Answers .phaseTableSaveTimer s (fun t => t.v .tableDirty = 0 ∧ t.rd Reg.PHM_TAB_SAVEPEND = 0)) ∧
      (s.vOn .tableDirty = false → exec .phaseTableSaveTimer s = .next s.after) ∧
      (0 < s.vn .lookups → s.vn .goodLookups ≤ s.vn .lookups → Answers .staleCheck s (fun t => t.rd Reg.PHM_TAB_HITPCT = 100 * s.vn .goodLookups / s.vn .lookups ∧
        (100 * s.vn .goodLookups < 75 * s.vn .lookups → t.rd Reg.PHM_TAB_STALE = 1) ∧ t.v .lookups = 0 ∧ t.v .goodLookups = 0))) ∧
  (∀ s : State, s.power = .running → s.on Reg.PHM_CHAR_RUN = true → s.band < 8 →
      (∀ (c bin : Fin 32) (t : Int), s.charTakes (s.rd Reg.PHM_RAIL c) c bin = true → Answers (.characterisePoint c bin t) s (fun u =>
        u.rd Reg.PHM_CHAR_POINTS = min (s.rd Reg.PHM_CHAR_POINTS + 1) (2 ^ Reg.PHM_CHAR_POINTS.width - 1) ∧ bit (u.rd Reg.PHM_CHAR_BANDS) s.band = true)) ∧
      (∀ (c bin : Fin 32) (t : Int), s.charTakes (s.rd Reg.PHM_RAIL c) c bin = false → exec (.characterisePoint c bin t) s = .next s.after) ∧
      (let a := (((s.charFree.wr Reg.PHM_CHAR_RUN 0 0).wr Reg.PHM_CHAR_DONE 0 1).wr Reg.PHM_TAB_STALE 0 0).saveTable
        let b := ((a.setV .lookups 0 0).setV .goodLookups 0 0).complete (a.vn .charPort) (a.vn .charTag) 0x7A stOk
        exec .characteriseDone s = .next ((b.setV .charPort 0 0).charExit 0x0C).after))

/-! ### The Cue link -/

/-- The Cue link's training and its commands. The link trains: a qualified clock starts the deskew, its end the negotiation; a TRAIN whose versions overlap agrees on the highest, whose versions do not ends in NOVER with a record (R220, R221). Forward packets in UP of an agreed version: a voltage command sets the clamped target in force and keeps its VID, a slew command its slew, a PING asks for an ECHO; each moves the sequence base (R138, R139, R224, R225, R227). -/
def Obligations.CueTrainingAndCommandsAct : Prop :=
  (∀ s : State, s.power = .running →
      (s.link = linkWait → exec .cueClockQualified s = .next (s.wr Reg.CUE_LINK_STATE 0 linkDeskew).after) ∧
      (s.link = linkDeskew → exec .cueDeskewDone s = .next (s.wr Reg.CUE_LINK_STATE 0 linkNegot).after) ∧
      (∀ vmax vmin rails : Byte, s.link = linkNegot → vmax ≠ 0#8 → vmax.toNat ≤ 15 → vmin ≠ 0#8 → vmin.toNat ≤ vmax.toNat → rails.toNat ≤ 15 →
        let m := min vmax.toNat (s.rd Reg.CUE_CTL_CUEVMAX)
        (vmin.toNat ≤ m → s.rd Reg.CUE_CTL_CUEVMIN ≤ m → m < 4 → Answers (.cueTrain vmax vmin rails) s (fun t =>
          t.rd Reg.CUE_LINK_AV = m ∧ t.rd Reg.CUE_LINK_LDMAX = vmax.toNat ∧ t.rd Reg.CUE_LINK_LDMIN = vmin.toNat ∧ t.v .trainDue = 1 ∧ t.link = linkNegot)) ∧
        (m < vmin.toNat → Answers (.cueTrain vmax vmin rails) s (fun t => t.rd Reg.CUE_LINK_AV = 0 ∧ t.link = linkNover ∧ t.rd Reg.CUE_LINK_NOVERF = 1 ∧ t.v .trainDue = 1)))) ∧
  (∀ (q : BitVec 4) (r : BitVec 2) (s : State), s.power = .running → s.link = linkUp → 1 ≤ s.rd Reg.CUE_LINK_AV →
      (∀ (code : BitVec 12) (vid : Byte), s.rd Reg.LE_VSRC r.toNat ≠ 0 → (s.railState r.toNat = railRamp ∨ s.railState r.toNat = railRegulate) → code.toNat ≤ 3200 →
        s.rd Reg.LE_VMIN r.toNat ≤ s.rd Reg.LE_VMAX r.toNat → s.rd Reg.LE_VMAX r.toNat < 4096 →
        Answers (.cueVcmd q r code vid) s (fun t => t.rd Reg.LE_TGTNOW r.toNat = max (s.rd Reg.LE_VMIN r.toNat) (min (s.rd Reg.LE_VMAX r.toNat) code.toNat) ∧
          t.v .lastVid r.toNat = vid.toNat ∧ t.v .lastCueSeq = q.toNat)) ∧
      (∀ (code : BitVec 12) (vid : Byte), s.rd Reg.LE_VSRC r.toNat = 0 →
        Answers (.cueVcmd q r code vid) s (fun t => t.rd Reg.LE_CMDREJ r.toNat = min (s.rd Reg.LE_CMDREJ r.toNat + 1) (2 ^ Reg.LE_CMDREJ.width - 1) ∧
          t.rd Reg.LE_TGTNOW r.toNat = s.rd Reg.LE_TGTNOW r.toNat)) ∧
      (∀ slew : BitVec 10, slew ≠ 0#10 → slew.toNat ≤ 1000 → s.rd Reg.LE_VSRC r.toNat ≠ 0 →
        Answers (.cueSlew q r slew) s (fun t => t.v .cueSlew r.toNat = slew.toNat ∧ t.v .lastCueSeq = q.toNat)) ∧
      (∀ tok : Byte, Answers (.cuePing q tok) s (fun t => t.v .echoDue = 1 ∧ t.v .echoVal = tok.toNat ∧ t.v .lastCueSeq = q.toNat)))

/-- Forecast packets in UP: a forecast for a rail outside REGULATE is reported as discarded, one for a rail in REGULATE goes through the window of the rail; a CANCEL of the open window before its arrival closes it as cancelled; STATE with LP starts the entry into INTERMISSION where INTREQ allows it in ACTIVE, outside ACTIVE it is turned away with a record, without LP it changes nothing; QUIET is stored; the timers of a window act (R226, R228 to R230, R237). -/
def Obligations.CueForecastsAct : Prop :=
  ∀ (q : BitVec 4) (r : BitVec 2) (fid : BitVec 4) (t : Nat) (s : State), s.power = .running → s.link = linkUp → 3 ≤ s.rd Reg.CUE_LINK_AV →
    (∀ (di lead : BitVec 16) (lc dur : Byte), di ≠ 0#16 → lead.toNat ≤ 40000 →
      exec (.cueFcst q r fid di lead lc dur t) s = .next ((s.cueSeq q.toNat).fcstIn r.toNat fid.toNat di.toInt lead.toNat lc.toNat dur.toNat t).after) ∧
    (s.on Reg.CUE_OPEN r.toNat = true → s.rd Reg.CUE_FID r.toNat = fid.toNat → max s.now t < s.vn .fcTa r.toNat →
      exec (.cueCancel q r fid t) s = .next (((s.cueSeq q.toNat).upTo t).closeWindow r.toNat outCancelled).after) ∧
    ((s.on Reg.CUE_OPEN r.toNat = false ∨ s.rd Reg.CUE_FID r.toNat ≠ fid.toNat) → exec (.cueCancel q r fid t) s = .next ((s.cueSeq q.toNat).upTo t).after) ∧
    exec (.cueState q false) s = .next (s.cueSeq q.toNat).after ∧
    (s.on Reg.CUE_CTL_INTREQ = true → s.mode = mActive → s.on Reg.SYS_MODE_TRANS = false → exec (.cueState q true) s = .next (((s.cueSeq q.toNat).irq 53).startInter 0 0).after) ∧
    (s.mode ≠ mActive → exec (.cueState q true) s = .next ((((s.cueSeq q.toNat).irq 53).bump Reg.CUE_ERR_STREJ 0).event 0x5009 0 []).after) ∧
    (∀ (start : Byte) (qdur : BitVec 16), qdur ≠ 0#16 → s.on Reg.GAU_REST_QONLY = false → Answers (.cueQuiet q start qdur) s (fun u =>
      u.rd Reg.CUE_QUIET_QDUR = qdur.toNat ∧ u.rd Reg.CUE_QUIET_START = start.toNat ∧ u.rd Reg.CUE_QUIET_VALID = 1)) ∧
    (∀ k : Rail, s.vn .tFcRamp k ≠ 0 → s.on Reg.CUE_OPEN k = true →
      Answers (.forecastRampStart k) s (fun u => u.v .tFcRamp k = 0 ∧ u.v .liftV1 k = s.v .fcLift k ∧ u.v .liftT1 k = s.vn .fcTa k)) ∧
    (∀ k : Rail, s.on Reg.CUE_OPEN k = true → (s.upTo (s.vn .fcClose k - 1)).arrived k false = false →
      exec (.forecastWindowClose k) s = .next ((s.upTo (s.vn .fcClose k - 1)).closeWindow k outMiss).after)

/-- Errors of the Cue link, its loss, and its return lane. A packet that fails a check in UP counts in its own counter, asks for a NAK, raises source 51 and is recorded; a code violation counts; a lost link falls back to waiting with LOSSF and a record (R223, R224). The return lane and its timers: the highest-ranked packet due starts, a queued TRAIN reply, with the versions its TRAIN found, before everything but THROTTLE; telemetry that waits for a disabled rail is dropped; STATUS falls due at the end of each interval and the interval runs again; telemetry goes round the rails that are not disabled, each interval TELPER over their number; THROTTLE is repeated for the rails with a capacity in force (R219, R221, R233, R236). -/
def Obligations.CueReturnRowsAct : Prop :=
  (∀ s : State, s.power = .running → s.link = linkUp →
      (∀ e : CueErr,
        let f := match e with | .crc => Reg.CUE_ERR_CRCERR | .framing => Reg.CUE_ERR_FRMERR | .type => Reg.CUE_ERR_TYPEERR | .format => Reg.CUE_ERR_FMTERR
        let n := match e with | .crc => 1 | .framing => 2 | .type => 3 | .format => 4
        exec (.cueBadPacket e) s = .next ((((((s.setV .nakDue 0 1).setV .nakVal 0 (n * 16 + s.vn .lastCueSeq : Nat)).bump f 0).irq 51).event 0x5004 1 (leBytes 1 n))).after) ∧
      exec .cueCodeViolation s = .next (s.bump Reg.CUE_ERR_CVERR 0).after ∧
      (∀ why, Answers (.cueLinkLoss why) s (fun t => t.link = linkWait ∧ t.rd Reg.CUE_LINK_LOSSF = 1))) ∧
  (∀ s : State, s.power = .running →
      (let u := (List.range 4).foldl (fun s r => if s.railState r = railDisabled then s.setV .telemDue r 0 else s) s;
        (s.link = linkUp → s.rd Reg.CUE_LINK_AV = 1 → s.vOn .trainDue = true →
          exec .returnPacketStart s = .next ((u.setV .trainDue 0 0).sendCue 0xF (leBytes 1 (u.vn .trainVal / 16) ++ leBytes 1 (u.vn .trainVal % 16) ++ [0#8])).after) ∧
        (s.link = linkUp → s.rd Reg.CUE_LINK_AV = 1 → s.vOn .trainDue = false → s.vn .statusDue = 2 →
          exec .returnPacketStart s = .next ((u.setV .statusDue 0 0).sendCue 3 u.statusBody).after)) ∧
      (let u := s.upTo (s.vn .tStatus - 1);
        s.link = linkUp → exec .statusTimer s = .next ((u.setV .statusDue 0 (max 1 (u.v .statusDue))).setV .tStatus 0 (u.now + u.rd Reg.CUE_CTL_STATPER * 40000 + 1)).after) ∧
      (s.link ≠ linkUp → exec .statusTimer s = .next s.after) ∧
      (∀ r : Rail, s.link = linkUp → s.rd Reg.CUE_CTL_TELPER ≠ 0 → s.vn .telemNext = r → s.railState r ≠ railDisabled →
        let u := s.upTo (s.vn .tTelem - 1)
        let n := ((List.range 4).filter (fun k => s.railState k != railDisabled)).length
        exec .telemTimer s = .next (((u.setV .telemDue r 1).setV .telemNext 0 (((r.val + 1) % 4 : Nat))).setV .tTelem 0 (u.now + u.rd Reg.CUE_CTL_TELPER * 400 / n + 1)).after) ∧
      (s.vn .tThr ≠ 0 → 2 ≤ s.rd Reg.CUE_LINK_AV → Answers .throttleRepeat s (fun t => ∀ r < 4, s.rd Reg.CUE_CAP r ≠ capNone → t.v .throttleDue r = 1)) ∧
      (s.vn .tThr ≠ 0 → s.rd Reg.CUE_LINK_AV < 2 → exec .throttleRepeat s = .next (((s.upTo (s.vn .tThr - 1)).setV .tThr 0 0).throttleTimer).after) ∧
      (s.vn .tThr = 0 → exec .throttleRepeat s = .next s.after))

/-! ### The Hamper and the reservoir -/

/-- The intermediate bus and the Hamper's timers: a qualified bus that was not lost is noted, one that was lost ends a HOLDUP, the longest hold-up exhausts, a gap of a CURTAIN lets the next rails go down, the headroom limit is withdrawn (R254, R257 to R259). -/
def Obligations.HamperTimersAct : Prop :=
  ∀ s : State, s.power = .running →
    (s.vn .tQual ≠ 0 → s.vOn .ibLost = false → s.mode ≠ mMinimal → s.mode ≠ mHoldup → s.on Reg.PWM_CEN 32 = true → Answers .ibQualified s (fun t => t.v .ibQual = 1 ∧ t.v .tQual = 0 ∧ t.v .ibLost = 0 ∧ s.SameRegs t afterKeys)) ∧
    (let u := ((s.upTo (s.vn .tQual - 1)).setV .tQual 0 0).setV .ibQual 0 1
      let w := ((List.range 4).foldl (fun s r => s.dropCap r 3) (((((u.setV .ibLost 0 0).holdEnd).setV .tHoldmax 0 0).wr Reg.HAM_STAT_RESTF 0 1))).event 0x6002 0 [];
      s.vn .tQual ≠ 0 → s.vOn .ibLost = true → s.mode = mHoldup → (s.vn .tHoldmax = 0 ∨ u.now + 1 < s.vn .tHoldmax) →
        exec .ibQualified s = .next (w.enterMode (if (List.range 4).all (fun r => w.railState r == railDisabled) then mStandby else mActive) 0x05).hamAtOnce.safeStart.after) ∧
    (s.vn .tHoldmax ≠ 0 → s.mode = mHoldup → exec .holdmaxExpiry s =
      .next (((((s.upTo (s.vn .tHoldmax - 1)).setV .tHoldmax 0 0).wr Reg.HAM_STAT_EXHF 0 1).event 0x6003 2 (leBytes 1 2)).enterCurtain 0x06 0).after) ∧
    (s.vn .tGap ≠ 0 → exec .curtainGapExpiry s = .next ((((s.upTo (s.vn .tGap - 1)).setV .tGap 0 0).curtainTurn 4).curtainEnd).after) ∧
    (s.vn .tHdr ≠ 0 → exec .headroomWithdraw s = .next ((s.upTo (s.vn .tHdr - 1)).setV .tHdr 0 0).headroomEnd.after)

/-- The estimator. The estimator's update: inactive it does nothing, with the AC halted it is missed and counted, and else a look at the counter enters the ledger before anchors, warnings and requests (R20, R268). The start-up reconciliation with no record makes an insertion estimate at the mean it is given and says so in INSF, and there is one only before the Hamper first leaves ISOLATE; the timer of the state record looks at the movement since the timer before, and the record is written when the charge has moved by a thousandth of the capacity (R274, R282). The reservoir's rest: the relaxed flag, the anchor at the rest reading, which a full or an empty one precedes where its uncertainty, doubled, is smaller, a reading that takes none, the start of a scheduled window, its end after its reading, the lapse of a grant that waits for quiet, and the ends that find no window do nothing (R271, R272, R279, R280). -/
def Obligations.GaugeRowsAct : Prop :=
  (∀ s : State, s.power = .running →
      (s.on Reg.GAU_STATE_ACTIVE = false → exec .gaugeUpdate s = .next s.after) ∧
      (s.on Reg.GAU_STATE_ACTIVE = true → s.on Reg.DBG_STAT_ACHALTED = true → exec .gaugeUpdate s = .next (s.setV .gMissed 0 (s.v .gMissed + 1)).after) ∧
      (s.on Reg.GAU_STATE_ACTIVE = true → s.on Reg.DBG_STAT_ACHALTED = false →
        let a := ((s.cctSnapshot.count (s.v .gMissed + 1)).setV .gMissed 0 0).showGauge
        let b := if a.ureq < a.v .gU then a.wr Reg.GAU_STATE_LSUSP 0 1 else a
        exec .gaugeUpdate s = .next ((((b.anchors.relaxCheck).showGauge).healthWarns).requestCheck).after)) ∧
  (∀ s : State, s.power = .running →
      (∀ mv : Nat, s.on Reg.GAU_STATE_GAPF = true → s.on Reg.GAU_STATE_ACTIVE = true → s.vOn .hamLeft = false → s.newestSlot 75 = none → s.rd Reg.SYS_BOOT_RSTCAUSE = 0 →
        let uv := (mv : Int) * 1000
        let a := (s.wr Reg.GAU_HLTH_CAP 0 (s.rd Reg.GAU_CFG_CAPR)).wr Reg.GAU_STATE_CAPV 0 0
        let b := ((a.insertion uv (1 * a.anchorU uv)).wr Reg.GAU_STATE_INSF 0 1).event 0x601A 1 []
        exec (.startupReconcile mv) s = .next (((b.wr Reg.GAU_STATE_GAPF 0 0).setV .recStored 0 (b.v .gStored / mC)).showGauge).after) ∧
      ((s.on Reg.GAU_STATE_GAPF = false ∨ s.on Reg.GAU_STATE_ACTIVE = false ∨ s.vOn .hamLeft = true) → ∀ mv : Nat, exec (.startupReconcile mv) s = .next s.after) ∧
      (s.on Reg.GAU_STATE_ACTIVE = true → s.vn .tFinal = 0 → s.capMc ≤ 1000 * ((s.v .gStored / mC - s.v .recStored).natAbs : Int) →
        exec .stateRecordTimer s = .next ((s.queueSlot 75 s.gaugeBody).setV .recStored 0 (s.v .gStored / mC)).after) ∧
      (1000 * ((s.v .gStored / mC - s.v .recStored).natAbs : Int) < s.capMc → exec .stateRecordTimer s = .next (s.setV .recStored 0 (s.v .gStored / mC)).after)) ∧
  (∀ s : State, s.power = .running →
      (s.vn .tRelax ≠ 0 → exec .relaxExpiry s = .next (((s.upTo (s.vn .tRelax - 1)).setV .tRelax 0 0).setV .relaxDone 0 1).after) ∧
      (∀ mv : Nat, s.vn .relaxDone ≠ 0 → s.rd Reg.HAM_CTL_AMODE = 0 →
        let uv := s.vocUv ((mv : Int) * 1000)
        (s.vOn .restTaken = false → s.on Reg.GAU_STATE_ACTIVE = true →
          (s.fullEmpty = none → exec (.restAnchorReading mv) s = .next (((s.anchor 3 uv).setV .relaxDone 0 2).showGauge).after) ∧
          (∀ k x, s.fullEmpty = some (k, x) → exec (.restAnchorReading mv) s =
            .next (((if 2 * s.anchorU x < s.anchorU uv then s.anchor k x else s.anchor 3 uv).setV .relaxDone 0 2).showGauge).after)) ∧
        ((s.vOn .restTaken = true ∨ s.on Reg.GAU_STATE_ACTIVE = false) → exec (.restAnchorReading mv) s = .next ((s.setV .relaxDone 0 2).showGauge).after)) ∧
      (s.rd Reg.GAU_REST_PH = 1 → s.on Reg.GAU_REST_QONLY = false → s.mode = mActive →
        let a := (((s.setRestPh 2).setV .smodeSave 0 (s.rd Reg.HAM_CTL_SMODE + 1)).wr Reg.HAM_CTL_SMODE 0 0).hamAtOnce
        let b := ((a.setV .tRestStart 0 0).setV .tGrant 0 0).setV .tRest 0 (a.now + a.restLen * 4000000 + 1)
        exec .restWindowStart s = .next (((b.setV .relaxDone 0 0).setV .tRelax 0 0).event 0x6012 0 []).relaxCheck.after) ∧
      (s.rd Reg.GAU_REST_PH = 2 → (s.vn .relaxDone = 2 ∨ s.on Reg.GAU_STATE_ACTIVE = false) →
        let a := ((s.wr Reg.HAM_CTL_SMODE 0 (s.vn .smodeSave - 1)).hamAtOnce.setV .smodeSave 0 0).setV .tRest 0 0
        exec .restWindowEnd s = .next (((((a.setRestPh 0).dropRestGrant.wr Reg.GAU_REST_REQ 0 0).bump Reg.GAU_REST_NREST 0).event 0x6013 0 []).gaugeRecord).after) ∧
      ((s.rd Reg.GAU_REST_PH ≠ 2 ∨ (s.vn .relaxDone ≠ 2 ∧ s.on Reg.GAU_STATE_ACTIVE = true)) → exec .restWindowEnd s = .next s.after) ∧
      (s.on Reg.GAU_REST_QONLY = true → s.rd Reg.GAU_REST_PH = 0 → Answers .restGrantLapse s (fun t => t.rd Reg.GAU_REST_LAPSF = 1 ∧ t.rd Reg.GAU_REST_REQ = 0 ∧
        t.rd Reg.GAU_STATE_LSUSP = 1 ∧ t.rd Reg.GAU_REST_GRANTED = 0 ∧ t.rd Reg.GAU_REST_QONLY = 0 ∧ t.v .tGrant = 0)))

/-! ### The store and the recorder -/

/-- A slot write that ends is the newest valid write of its entry, with the next SEQ, and the write that was the newest before still stands in the other slot (R454, R455). -/
def Obligations.SlotWriteKeepsTwo : Prop :=
  ∀ (w : SlotWrite) (s : State), (∀ x, s.newestSlot w.dir = some x → x.2.seq < 2 ^ 32) →
    let u := (s.startSlotWrite w).endSlotWrite w
    u.newestSlot w.dir = some (s.targetSlot w.dir, ⟨s.nextSlotSeq w.dir, w.body⟩) ∧
      ∀ x, s.newestSlot w.dir = some x → x.1 ≠ s.targetSlot w.dir ∧ kvFind (2 * w.dir + x.1) u.slots = some x.2

/-- The store, the recorder and brown-out. Brown-out: the warning sets its flags and counts, the inhibit stops writes, the release clears both with a record (R457, R458). The recorder and the store: the running slot write ends with source 113 and the next begins; an event is written only while no slot write runs or waits and the supply holds; a refill adds a token up to the depth (R454, R456, R461, R464). The queue of events never grows past 64: an event that finds it full is lost, any other joins its end with the time in microseconds, the boot number and the mode of now (R461, R465). -/
def Obligations.StoreRowsAct : Prop :=
  (∀ s : State, s.power = .running →
      (s.update = none → Answers .brownoutWarning s (fun t => t.rd Reg.NVS_STAT_BOWARN = 1 ∧ t.rd Reg.NVS_STAT_BOF = 1 ∧
        t.rd Reg.NVS_STAT_BOCNT = min (s.rd Reg.NVS_STAT_BOCNT + 1) (2 ^ Reg.NVS_STAT_BOCNT.width - 1))) ∧
      exec .writeInhibit s = .next (s.wr Reg.NVS_STAT_INHIBIT 0 1).after ∧
      (s.on Reg.NVS_STAT_BOWARN = false → exec .brownoutRelease s = .next s.after) ∧
      (s.on Reg.NVS_STAT_BOWARN = true → Answers .brownoutRelease s (fun t => t.rd Reg.NVS_STAT_BOWARN = 0 ∧ t.rd Reg.NVS_STAT_INHIBIT = 0))) ∧
  (∀ s : State, s.power = .running →
      (∀ w, s.nvsRun = some w → exec .slotWriteDone s = .next ((s.endSlotWrite w).irq 113).kickNvs.after) ∧
      (s.nvsRun = none → exec .slotWriteDone s = .next s.after) ∧
      (s.acRuns = true → s.on Reg.NVS_STAT_BOWARN = false → s.on Reg.NVS_STAT_INHIBIT = false → s.nvsRun = none → s.nvsq = [] →
        exec .eventRecordWrite s = .next s.writeEvent.after) ∧
      (s.nvsq ≠ [] → exec .eventRecordWrite s = .next s.after) ∧
      (∀ code : BitVec 16, Answers (.bucketRefill code) s (fun t => (t.bucket code.toNat).tokens = min ((s.bucket code.toNat).tokens + 1) (s.bucketPair (s.bucket code.toNat)).2))) ∧
  (∀ (code sev : Nat) (d : List Byte) (s : State), d.length ≤ 12 →
      (s.events.length < 64 → (s.event code sev d).events = s.events ++ [⟨code, sev, s.now / 400, s.boot.bootn, s.mode, d ++ List.replicate (12 - d.length) 0⟩]) ∧
      (64 ≤ s.events.length → (s.event code sev d).events = s.events ∧ (s.event code sev d).rd Reg.EVR_BOOK_LOSTT = (s.rd Reg.EVR_BOOK_LOSTT + 1) % 2 ^ Reg.EVR_BOOK_LOSTT.width) ∧
      (s.event code sev d).rd Reg.EVR_BOOK_RAISED = (s.rd Reg.EVR_BOOK_RAISED + 1) % 2 ^ Reg.EVR_BOOK_RAISED.width)

/-- A lost event counts in LOST, up to its maximum, and in LOSTT, whatever its code, and the next record written carries the losses and restarts the count (R463). An event that finds the queue full is lost; raising an event and writing the oldest one keep the balance of RAISED with WRITTEN, SUPPR, LOSTT and the queue. -/
def Obligations.LostEventsCount : Prop :=
  ∀ s : State, s.loseEvent.rd Reg.EVR_STAT_LOST = min (s.rd Reg.EVR_STAT_LOST + 1) (2 ^ Reg.EVR_STAT_LOST.width - 1) ∧
    s.loseEvent.rd Reg.EVR_BOOK_LOSTT = (s.rd Reg.EVR_BOOK_LOSTT + 1) % 2 ^ Reg.EVR_BOOK_LOSTT.width ∧ s.loseEvent.recLost = min (s.recLost + 1) 65535 ∧
    (∀ (code sev : Nat) (d : List Byte), 64 ≤ s.events.length → s.event code sev d = (s.wr Reg.EVR_BOOK_RAISED 0 (s.rd Reg.EVR_BOOK_RAISED + 1)).loseEvent) ∧
    (∀ (e : Event) (x : Nat × Bool) (n : Nat), ∃ r, kvFind x.1 (s.putRecord e x n).ring = some r ∧ r.lost = s.recLost ∧ r.code = e.code ∧ r.supp = min n 255 ∧ (s.putRecord e x n).recLost = 0) ∧
    (let balanced := fun t : State => t.rd Reg.EVR_BOOK_RAISED = (t.rd Reg.EVR_BOOK_WRITTEN + t.rd Reg.EVR_BOOK_SUPPR + t.rd Reg.EVR_BOOK_LOSTT + t.events.length) % 2 ^ 32;
      balanced s → (∀ (code sev : Nat) (d : List Byte), balanced (s.event code sev d)) ∧ balanced s.writeEvent)

/-! ### Capture, spectra, identification, self-test -/

/-- Transforms and stalls: a stalled channel of a job is marked and its job looked at; a host's transform ends with source 74 and its completion entry; an identification's joins the sums; the AC halted, neither ends; the health period goes over every phase (R337, R339, R340, R352). -/
def Obligations.AnalysisRowsAct : Prop :=
  ∀ s : State, s.power = .running →
    (∀ c : Fin 16, s.rd Reg.CAP_HOLD c = holdJob → s.recording c = true → s.vn .capNext c = 0 →
      exec (.captureStall c) s = .next ((((s.upTo (s.vn .capAt c - 1 + 4000000)).wr Reg.CAP_STALL c 1).irq 75).jobProgress (s.rd Reg.CAP_JOB c)).after) ∧
    (s.on Reg.DBG_STAT_ACHALTED = true → exec .spectrumDone s = .next s.after ∧ exec .fftDone s = .next s.after ∧ exec .healthPeriod s = .next s.after) ∧
    (s.on Reg.DBG_STAT_ACHALTED = false →
      (∀ x rest, s.spectra = x :: rest → x.job < 16 →
        let a : State := { s with spectra := rest, freeCtr := s.freeCtr + 4096 }
        let b := (a.putBytes (0x91000000 + 4096 * (s.vn .specTok x.ch - 1)) (s.specBytesOf x)).setV .specBytes x.ch (s.specBytesOf x).length
        exec .spectrumDone s = .next ((b.irq 74).complete x.port x.tag 0x52 stOk).after) ∧
      (∀ x rest, s.spectra = x :: rest → 16 ≤ x.job → exec .fftDone s = .next ((({ s with spectra := rest } : State).addSums x).irq 74).after) ∧
      exec .healthPeriod s = .next ((List.range 32).foldl (fun u c => u.phaseHealth s.fitGains c) s).after)

/-- An identification run. The chips of an identification run: the generator shifts by its two taps, and the perturbation of the rail takes the sign of the output bit and the amplitude; chips count; a stopped run's perturbation ends at the next chip (R161 to R163). The records and the results of a run: a record that no event has spoiled counts in GOOD and waits for its transform; a published run is DONE and no longer RUN; a deferred retune is applied at its retry when nothing is swapped, given up when AUTO is off, and neither acts when it does not wait (R163, R165, R166, R173). Identification: IDENT_RUN starts a run on four capture channels, IDENT_READ returns results, RETUNE stages the proposal and publishes it, with its reply at the end of the swap (R160 to R163, R173, R177, R400). -/
def Obligations.IdentRowsAct : Prop :=
  (∀ s : State, s.power = .running →
      (s.vn .identRunning = 1 → s.vn .identChips = 0 → s.vn .identChipAt = 0 → s.rd Reg.IDENT_CFG_RAIL < 4 → Answers .identChip s (fun t =>
        t.v .pert (s.rd Reg.IDENT_CFG_RAIL) = (if bit (s.vn .lfsr) 14 then 1 else -1) * rdiv ((s.rd Reg.IDENT_CFG_AMP : Int) * 2 ^ 28) 4000 ∧
        t.vn .lfsr = s.vn .lfsr * 2 % 32768 + b2n (bit (s.vn .lfsr) 14 != bit (s.vn .lfsr) 13) ∧ t.v .identChips = 1)) ∧
      (s.vn .identRunning ≠ 1 → s.vn .identChipAt ≠ 0 → Answers .identChip s (fun t => (∀ r < 4, t.v .pert r = 0) ∧ t.v .identChipAt = 0))) ∧
  (∀ s : State, s.power = .running →
      (s.vn .identRunning = 1 → s.recordFull true = true → s.vn .identBad = 0 → (s.chipLook (s.rd Reg.IDENT_CFG_RAIL)).vn .identBad = 0 →
        let a := (s.chipLook (s.rd Reg.IDENT_CFG_RAIL)).setV .identRecH 0 (s.vn .identRecH + 1)
        let b := ((a.setV .identBad 0 0).dropRecord true (s.vn .identRecH + 1)).bump Reg.IDENT_STAT_GOODH 0
        let d := b.holdSums true (s.vn .identRecH)
        exec (.identRecordEnd true) s = .next ({ d with spectra := d.spectra ++ [⟨0, 0, fftH, s.vn .identRecH % 2, 12, 1, 1, 1⟩] } : State).after) ∧
      (∀ h, (s.vn .identRunning ≠ 1 ∨ s.recordFull h = false) → exec (.identRecordEnd h) s = .next s.after) ∧
      (s.vn .identRunning = 2 → s.on Reg.DBG_STAT_ACHALTED = false → Answers .identPublish s (fun t =>
        t.rd Reg.IDENT_STAT_RUN = 0 ∧ t.rd Reg.IDENT_STAT_DONE = 1 ∧ t.v .identRunning = 0 ∧ t.v .identPort = 0)) ∧
      (s.vn .identRunning ≠ 2 → exec .identPublish s = .next s.after) ∧
      ((s.vn .tAuto = 0 ∨ s.on Reg.DBG_STAT_ACHALTED = true) → exec .autoRetuneRetry s = .next s.after) ∧
      (s.vn .tAuto ≠ 0 → s.on Reg.DBG_STAT_ACHALTED = false → s.on Reg.IDENT_STAT_PROPV = true → s.on Reg.IDENT_STAT_OOE = false →
        let r := s.rd Reg.IDENT_CFG_RAIL
        let u := (((s.upTo (s.vn .tAuto - 1)).wr Reg.IDENT_STAT_DEFER 0 0).setV .tAuto 0 0).setV .autoUntil 0 0
        (s.on Reg.LE_AUTO r = false → exec .autoRetuneRetry s = .next u.after) ∧
        (s.on Reg.LE_AUTO r = true → s.rd Reg.LE_LAW r = 0 → s.on Reg.LE_CTL_SWPEND = false → s.vOn .bankTouched = false →
          exec .autoRetuneRetry s = .next ((u.stageRetune r).publishSwap).after))) ∧
  (∀ (p : Port) (h : Hdr) (pl : List Byte) (s : State), h.objId = 0xFFFF#16 →
      let t := s.taken p
      (∀ (r : Rail) (amp navg coh : Byte) (u : State) (chans : List Nat), pl = [BitVec.ofNat 8 r, amp, navg, coh] → (s.mode = mActive ∨ s.mode = mCharacterise) → 1 ≤ amp.toNat → amp.toNat ≤ 8 → 1 ≤ navg.toNat →
        navg.toNat ≤ 64 → s.railState r = railRegulate → s.rampingDown r = false → s.on Reg.IDENT_STAT_RUN = false → s.on Reg.LE_CTL_SWPEND = false → s.on Reg.DBG_STAT_ACHALTED = false →
        s.on Reg.ICU_CORE_FATAL 1 = false → t.allocateAll holdIdent [8, 8, 8, 8] = some (u, chans) → amp.toNat ≤ min (s.rd Reg.LE_PGLO r) (s.rd Reg.LE_PGHI r) →
        Runs (.identRun p h pl) s p h pl 0x58 (fun t c => (t.identStart (p.idx + 1) c.tag r amp.toNat navg.toNat coh.toNat chans (chans.map (fun ch => u.rd Reg.CAP_TOK0 ch)), stAccepted, []))) ∧
      (∀ (a : BitVec 16) (n : Byte), pl = leBytes 2 a.toNat ++ [n] → modesSes.contains s.mode = true → 1 ≤ n.toNat → n.toNat ≤ 240 → a.toNat + n.toNat ≤ 0x220 →
        Runs (.identRead p h pl) s p h pl 0x59 (fun t _ => (t, stOk, (List.range n.toNat).map (fun i => t.resByte (a.toNat + i))))) ∧
      (∀ r : Rail, pl = [BitVec.ofNat 8 r] → modesCfg.contains s.mode = true → s.on Reg.IDENT_STAT_PROPV = true → s.rd Reg.IDENT_CFG_RAIL = r → s.rd Reg.LE_LAW r = 0 → s.on Reg.LE_CTL_SWPEND = false →
        (s.on Reg.IDENT_STAT_OOE = true → Runs (.retune p h pl) s p h pl 0x5A (fun t _ => (t, stEnvelope, []))) ∧
        (s.on Reg.IDENT_STAT_OOE = false → Runs (.retune p h pl) s p h pl 0x5A (fun t c =>
          let a := (t.stageRetune r).publish
          if a.on Reg.LE_CTL_SWPEND = true then ({ a with retuning := some (p, c) }, stLater, []) else (a, stOk, [])))))

/-! ### The stage bus -/

/-- The stage bus. A running transaction of the stage bus ends, loses arbitration, or times out: the host sees its outcome in STAT, and the bus's flags and counters say what happened (R412, R414 to R416). Discovery ends with DISC clear and the count of refused stages, and a polling round that came late sets TLATE; lists that are not one entry per stage are no commands (R421, R422). -/
def Obligations.StageRowsAct : Prop :=
  (∀ s : State, s.power = .running → s.rd Reg.TWX_HXFR_STAT = hxRunning →
      (∀ data : Word, s.rd Reg.TWX_HXFR_NRD = 0 → Answers (.twxTransactionEnd .ok false data) s (fun t => t.rd Reg.TWX_HXFR_STAT = hxDone)) ∧
      (∀ data : Word, Answers (.twxTransactionEnd .nack false data) s (fun t => t.rd Reg.TWX_HXFR_STAT = hxNack)) ∧
      (∀ data : Word, Answers (.twxTransactionEnd .stuck true data) s (fun t => t.rd Reg.TWX_HXFR_STAT = hxStuck ∧ t.rd Reg.TWX_STAT_BUSSTUCK = 1 ∧
        t.rd Reg.TWX_STAT_CLEARS = min (s.rd Reg.TWX_STAT_CLEARS + 1) (2 ^ Reg.TWX_STAT_CLEARS.width - 1))) ∧
      (s.vn .twxRestarts < s.rd Reg.TWX_CTL_ARBN → exec .twxArbLost s = .next ((s.bump Reg.TWX_STAT_ARBLOST 0).setV .twxRestarts 0 (s.v .twxRestarts + 1)).after) ∧
      (s.rd Reg.TWX_CTL_ARBN ≤ s.vn .twxRestarts → Answers .twxArbLost s (fun t => t.rd Reg.TWX_HXFR_STAT = hxArb ∧ t.rd Reg.TWX_STAT_ARBFAIL = 1)) ∧
      (∀ freed, Answers (.twxLowTimeout freed) s (fun t => t.rd Reg.TWX_HXFR_STAT = hxTimeout ∧ t.rd Reg.TWX_STAT_LOWTOF = 1 ∧
        (freed = false → t.rd Reg.TWX_STAT_BUSSTUCK = 1))) ∧
      Answers .twxBusyTimeout s (fun t => t.rd Reg.TWX_STAT_BUSYF = 1)) ∧
  (∀ (ps : List StageProbe) (xs : List TelemReading) (s : State),
      (ps.length ≠ 34 → exec (.discoveryDone ps) s = .refused .illFormed) ∧
      (xs.length ≠ 34 → ∀ late, exec (.telemetryPoll xs late) s = .refused .illFormed) ∧
      (s.power = .running → s.vOn .bootRun = true → s.coreRuns .sc = true →
        (ps.length = 34 → s.on Reg.TWX_STAT_DISC = true → Answers (.discoveryDone ps) s (fun t => t.rd Reg.TWX_STAT_DISC = 0 ∧
          t.rd Reg.TWX_STAT_NREFUSED = (((ps.zipIdx).map (fun x => judgeStage x.2 x.1)).filter (fun g => g.out == stRefused)).length)) ∧
        (xs.length = 34 → s.rd Reg.TWX_CTL_TPOLL ≠ 0 → s.on Reg.TWX_STAT_DISC = false → Answers (.telemetryPoll xs true) s (fun t => t.rd Reg.TWX_STAT_TLATE = 1))))

/-! ### Packets, ports and sessions -/

/-- A packet's bytes say what it was built from: each header field stands in its place, the payload behind them, and the last two bytes are the CRC of all before them (R353). -/
def Obligations.PacketReadsBack : Prop :=
  ∀ (b0 op tag obj seq : Nat) (pl : List Byte), b0 < 256 → op < 256 → tag < 256 → obj < 65536 → seq < 65536 → pl.length ≤ 248 →
    let bs := packet b0 op tag obj seq pl
    let at' := fun i k => leNat ((bs.drop i).take k)
    bs.length = pl.length + 10 ∧ at' 0 1 = b0 ∧ at' 1 1 = op ∧ at' 2 1 = tag ∧ at' 3 1 = pl.length ∧ at' 4 2 = obj ∧ at' 6 2 = seq ∧
      (bs.drop 8).take (bs.length - 10) = pl ∧ at' (bs.length - 2) 2 = crc16 (bs.take (bs.length - 2))

/-- A packet that passes every check and whose opcode executes later is admitted, whichever port brings it: its command joins the end of its session's queue with the ownership and the expert level of this moment (R356, R358, R359, R364). -/
def Obligations.PacketsAreAdmitted : Prop :=
  ∀ (p : Port) (h : Hdr) (op : Nat) (pl : List Byte) (s : State), s.Admits p h op pl → actsAtAdmission op = false → State.unknownAct op pl = false →
    let bs := packet h.verFlags.toNat op h.tag.toNat h.objId.toNat h.seq.toNat pl
    (p ≠ .hsp → exec (.twPacketWrite p bs) s = .next ((s.entered p h op pl).updSess p (fun x => { x with queue := x.queue ++ [s.rowCmd p h op pl] })).after) ∧
    (p = .hsp →
      let u : State := { s with busOut := (s.summary .hsp).take 1 ++ List.replicate bs.length 0xFF#8 }
      exec (.hspPacketWrite bs) s = .next ((u.entered p h op pl).updSess p (fun x => { x with queue := x.queue ++ [s.rowCmd p h op pl] })).after)

/-- HELLO closes a session that is open and opens it anew with the highest version both sides know, the alert mask, and its SEQ as the first; the reply names the versions, the interface level, the credits and the port; version 0 only closes (R361, R389). -/
def Obligations.HelloOpensSession : Prop :=
  ∀ (p : Port) (h : Hdr) (vmax m0 m1 : Byte) (s : State), s.Admits p h 0x01 [vmax, m0, m1] → h.objId = 0xFFFF#16 → vmax.toNat ≤ 15 → m1.toNat < 2 →
    (vmax ≠ 0#8 → Answers (.hello p h [vmax, m0, m1]) s (fun t => (t.sess p).isOpen = true ∧ (t.sess p).almask = m0.toNat + 256 * m1.toNat ∧ (t.sess p).lastSeq = h.seq.toNat ∧
      ((s.sess p).isOpen = false →
        let vpart := if s.mode = mMinimal then 1 else 3
        (t.sess p).av = min vmax.toNat vpart ∧ ((t.sess p).uncredited.getLast?).map Reply.bytes = some (packet 0x11 0x01 h.tag.toNat 0xFFFF h.seq.toNat
          (leBytes 1 stOk ++ leBytes 1 (min vmax.toNat vpart) ++ leBytes 1 vpart ++ leBytes 1 (s.rd Reg.SYS_IMAGE_EFFIL) ++ leBytes 1 (8 - (s.sess p).outst.length) ++ leBytes 1 p.idx))))) ∧
    (vmax = 0#8 → Answers (.hello p h [vmax, m0, m1]) s (fun t => (t.sess p).isOpen = false))

/-- The session opcodes that act at admission: HEARTBEAT, CREDITS, CLAIM, YIELD, GRANT and ABORT, each with its reply (R369, R373 to R375, R389). -/
def Obligations.SessionRowsAct : Prop :=
  ∀ (p : Port) (h : Hdr) (s : State), h.objId = 0xFFFF#16 →
    (s.Admits p h 0x05 [] →
      let u := s.entered p h 0x05 []
      exec (.heartbeat p h []) s = .next (u.reply p false (s.rowCmd p h 0x05 []) stOk (leBytes 2 (if u.isOwner p then u.leaseMs else 0))).after) ∧
    (s.Admits p h 0x08 [0#8] →
      let u := s.entered p h 0x08 [0#8]
      let x := u.sess p
      exec (.creditsReport p h []) s = .next (u.reply p false (s.rowCmd p h 0x08 [0#8]) stOk (leBytes 1 x.cred ++ leBytes 1 x.outst.length ++ x.outst.flatMap (leBytes 1))).after) ∧
    (s.Admits p h 0x08 [1#8] →
      let u := (s.entered p h 0x08 [1#8]).updSess p Session.reclaim
      let x := u.sess p
      exec (.creditsReclaim p h []) s = .next (u.reply p false (s.rowCmd p h 0x08 [1#8]) stOk (leBytes 1 x.cred ++ leBytes 1 x.outst.length ++ x.outst.flatMap (leBytes 1))).after) ∧
    (∀ pl : List Byte, pl.length = 5 → s.Admits p h 0x02 pl →
      let c := s.rowCmd p h 0x02 pl
      let prio := leNat (pl.take 1)
      let nonce := leNat (pl.drop 1)
      let w := (s.entered p h 0x02 pl).updSess p (fun x => { x with prio := prio, nonce := nonce })
      (s.owner = none → exec (.claim p h pl) s = .next ((w.passOwner (some p) meansClaim).reply p true c stOk []).after) ∧
      (s.owner = some p → exec (.claim p h pl) s = .next (w.renewLease.reply p true c stOk []).after) ∧
      (∀ q, s.owner = some q → q ≠ p → (s.sess p).claim = none →
        exec (.claim p h pl) s = .next ((w.updSess p (fun x => { x with claim := some ⟨prio, nonce, h.tag.toNat, s.now⟩ })).reply p true c stAccepted []).after)) ∧
    (∀ n : Byte, s.Admits p h 0x03 [n] →
      let c := s.rowCmd p h 0x03 [n]
      let u := s.entered p h 0x03 [n]
      (s.owner = some p → n = 0xFF#8 → exec (.yield p h [n]) s = .next ((u.passOwner (u.bestClaim (fun _ => true)) meansYield).reply p true c stOk []).after) ∧
      (s.owner = some p → n.toNat ≤ 2 → (s.sess (Port.ofIdx n.toNat)).claim.isSome = true →
        exec (.yield p h [n]) s = .next ((u.passOwner (some (Port.ofIdx n.toNat)) meansYield).reply p true c stOk []).after) ∧
      (s.owner ≠ some p → (n.toNat ≤ 2 ∨ n = 0xFF#8) → exec (.yield p h [n]) s = .next ((u.endClaim p stFailed 0x09).reply p true c stOk []).checkGrant.after)) ∧
    (∀ (pl : List Byte) (q : Port), pl.length = 4 → s.Admits p h 0x04 pl → s.bestClaim (fun d => d.nonce == leNat pl) = some q →
      let u := s.entered p h 0x04 pl
      exec (.grant p h pl) s = .next ({ u.setV .leaseLeft 0 (u.vn .tLease - 1 - s.now) with granting := some (q, s.rowCmd p h 0x04 pl) } : State).after) ∧
    (∀ n : Byte, s.Admits p h 0x07 [n] →
      let c := s.rowCmd p h 0x07 [n]
      let u := s.entered p h 0x07 [n]
      (∀ d, (s.sess p).queue.find? (fun d => d.tag == n.toNat) = some d →
        exec (.abort p h [n]) s = .next (((u.updSess p (fun x => { x with queue := x.queue.erase d })).reply p true d stFailed [0x01#8]).reply p true c stOk []).after) ∧
      (∀ t : State, (s.sess p).queue.find? (fun d => d.tag == n.toNat) = none → (s.sess p).claim = none → s.granting = none → u.abortLong p n.toNat = some (t, 0) →
        exec (.abort p h [n]) s = .next (t.reply p true c stOk []).after))

/-- The reads of the ports. The reads of the two-wire ports: a busy port turns the read away; the stored pointer selects the oldest reply, which is released with its last byte, the summary, or the reply released before; past the end every byte reads 0xFF (R356, R357, R360, R408). The reads of HSP: behind the two bytes of the summary, the oldest reply, the summary, or the reply released before (R358, R360). -/
def Obligations.PortReadsAct : Prop :=
  (∀ (p : Port) (n : Nat) (s : State), s.power = .running → p ≠ .hsp →
      (s.portBusy p = true → ∀ row ∈ [Instr.twReplyRead p n, .twSummaryRead p n, .twReplyReread p n], exec row s = .next (s.bump Reg.TWI_PSTAT_NACKCNT p.idx).after) ∧
      (s.portBusy p = false → s.rd Reg.TWI_PSTAT_PTR p.idx = 0xF0 →
        ((s.sess p).oldestReply = none → exec (.twReplyRead p n) s = .next ({ s with busOut := List.replicate n 0xFF#8 } : State).after) ∧
        (∀ r k, (s.sess p).oldestReply = some (r, k) → n < r.bytes.length → exec (.twReplyRead p n) s = .next ({ s with busOut := r.bytes.take n } : State).after) ∧
        (∀ r k, (s.sess p).oldestReply = some (r, k) → 0 < r.bytes.length → r.bytes.length ≤ n →
          exec (.twReplyRead p n) s = .next ((({ s with busOut := r.bytes ++ List.replicate (n - r.bytes.length) 0xFF#8 } : State).updSess p Session.release).irq (if p = .twa then 82 else 83)).after)) ∧
      (s.portBusy p = false → s.rd Reg.TWI_PSTAT_PTR p.idx = 0xF1 → exec (.twSummaryRead p n) s = .next ({ s with busOut := (s.summary p ++ List.replicate n 0xFF#8).take n } : State).after) ∧
      (s.portBusy p = false → s.rd Reg.TWI_PSTAT_PTR p.idx = 0xF3 → exec (.twReplyReread p n) s = .next ({ s with busOut := ((s.sess p).released ++ List.replicate n 0xFF#8).take n } : State).after)) ∧
  (∀ (n : Nat) (s : State), s.power = .running →
      (∀ r k, (s.sess .hsp).oldestReply = some (r, k) → 0 < r.bytes.length → r.bytes.length ≤ n → exec (.hspReplyRead n) s =
        .next ((({ s with busOut := (s.summary .hsp).take 2 ++ (r.bytes ++ List.replicate (n - r.bytes.length) 0xFF#8) } : State).updSess .hsp Session.release).irq 89).after) ∧
      ((s.sess .hsp).oldestReply = none → exec (.hspReplyRead n) s = .next ({ s with busOut := (s.summary .hsp).take 2 ++ List.replicate n 0xFF#8 } : State).after) ∧
      exec (.hspSummaryRead n) s = .next ({ s with busOut := (s.summary .hsp).take 2 ++ (s.summary .hsp ++ List.replicate n 0xFF#8).take n } : State).after ∧
      exec (.hspReplyReread n) s = .next ({ s with busOut := (s.summary .hsp).take 2 ++ ((s.sess .hsp).released ++ List.replicate n 0xFF#8).take n } : State).after)

/-- Writes of the two-wire ports that carry no admitted packet: a pointer is stored, an unknown pointer is ignored, a busy port turns the write away, a packet too short or too long counts in CRCCNT; a bus error and an enabled SMBus timeout count with a record and source 84 (R356, R408 to R411). -/
def Obligations.PortWritesAct : Prop :=
  ∀ (p : Port) (s : State), s.power = .running → p ≠ .hsp →
    (∀ ptr : Byte, s.portBusy p = false → exec (.twPointerWrite p ptr []) s =
      .next (if ptr.toNat ∈ [0x00, 0xF0, 0xF1, 0xF3] then s.wr Reg.TWI_PSTAT_PTR p.idx ptr.toNat else s).after) ∧
    (∀ ptr : Byte, s.portBusy p = true → exec (.twPointerWrite p ptr []) s = .next (s.bump Reg.TWI_PSTAT_NACKCNT p.idx).after) ∧
    (∀ bs : List Byte, s.portBusy p = false → ((1 ≤ bs.length ∧ bs.length < 10) ∨ 258 < bs.length) → exec (.twPacketWrite p bs) s =
      .next (((s.wr Reg.TWI_PSTAT_PTR p.idx 0).updSess p (fun x => { x with crcCnt := min (x.crcCnt + 1) 255 })).event 0x7005 1 (leBytes 1 p.idx)).after) ∧
    exec (.twBusError p) s = .next (((s.bump Reg.TWI_PSTAT_PROTERR p.idx).event 0x7006 1 (leBytes 1 p.idx)).irq 84).after ∧
    (s.smbOn p = true → exec (.twSmbusTimeout p) s = .next (((s.bump Reg.TWI_PSTAT_TOUT p.idx).event 0x7006 1 (leBytes 1 p.idx)).irq 84).after) ∧
    (s.smbOn p = false → exec (.twSmbusTimeout p) s = .next s.after)

/-- The timers of sessions and ownership: 60 s of silence close a session, a lapse alerts the owner and passes ownership to the best claim, a waiting GRANT hands over once the owner's commands are done, and the end of a drain discards what was staged (R363, R374 to R376). -/
def Obligations.OwnershipTimersAct : Prop :=
  ∀ s : State, s.power = .running →
    (∀ p, (s.sess p).isOpen = true → s.scStopped = false → exec (.sessionTimeout p) s = .next ((s.upTo ((s.sess p).lastGood + 24000000000)).closeSession p 1).after) ∧
    (∀ p, (s.sess p).isOpen = false → exec (.sessionTimeout p) s = .next s.after) ∧
    (∀ p, s.owner = some p → s.granting = none → s.on Reg.DBG_STAT_SCHALTED = false → s.update = none →
      Answers .leaseLapse s (fun t => t.owner = s.bestClaim (fun _ => true) ∧ t.on Reg.EXPERT_CTL_XON = false ∧ t.granting = none ∧
        t.rd Reg.SYS_OWNER_OWNCHG = min (s.rd Reg.SYS_OWNER_OWNCHG + 1) (2 ^ Reg.SYS_OWNER_OWNCHG.width - 1))) ∧
    (∀ p q c, s.granting = some (q, c) → s.owner = some p → s.scStopped = false → (s.sess p).queue = [] → s.retuning = none → (s.sess q).claim.isSome = true →
      exec .handoverComplete s = .next ((s.passOwner (some q) meansGrant).reply p true c stOk []).after) ∧
    (s.draining.isSome = true → s.drained = true → s.scStopped = false → exec .drainEnd s = .next ({ s.discardStaged with draining := none } : State).after) ∧
    (s.draining = none → exec .drainEnd s = .next s.after)

/-! ### Registers and memories -/

/-- Writes and debug accesses on the buses. Writes on the peripheral bus: a word that no object has, and an object of DBG written by a core, take nothing; any other word is written by its access codes; a staged field of TWX_CTL takes the value as staged and keeps its value in force (R6, R8, R29 to R31, R485). Debug accesses: with another TAP instruction nothing happens; a size or an address that does not fit is an error; a read returns the bytes, or an error where there are none; an aligned word of SRAM is written; a write to MRAM is discarded with DISCF and an error, one to the phase table with an error (R27, R28, R484). -/
def Obligations.BusWritesAct : Prop :=
  (∀ (dbg : Bool) (obj : BitVec 16) (inst : Byte) (word : BitVec 4) (w : Word) (s : State), s.power = .running → (dbg = true ∨ s.coreRuns .sc = true ∨ s.coreRuns .ac = true) →
      (findObj obj.toNat = none → exec (.registerWrite dbg obj inst word w) s = .next s.after) ∧
      (∀ o, findObj obj.toNat = some o → (o.fam.obj / 256 = 0x14 ∧ dbg = false ∨ (o.arrayed = false ∧ o.words ≤ word.toNat) ∨ (o.arrayed = true ∧ (o.fam.count ≤ inst.toNat ∨ word ≠ 0#4))) →
        exec (.registerWrite dbg obj inst word w) s = .next s.after) ∧
      (∀ o, findObj obj.toNat = some o → o.fam.obj / 256 ≠ 0x14 → o.arrayed = false → word.toNat < o.words →
        exec (.registerWrite dbg obj inst word w) s = .next (s.writeWord dbg o.fam o.base word.toNat w.toNat).after) ∧
      (∀ o, findObj obj.toNat = some o → o.fam.obj / 256 ≠ 0x14 → o.arrayed = true → word = 0#4 → inst.toNat < o.fam.count →
        exec (.registerWrite dbg obj inst word w) s = .next (s.writeWord dbg o.fam inst.toNat o.word w.toNat).after) ∧
      (obj = 0x0D10#16 → word = 0#4 → Answers (.registerWrite dbg obj inst word w) s (fun t => t.stg Reg.TWX_CTL_TPOLL = bits w.toNat 15 8 ∧
        t.rd Reg.TWX_CTL_TPOLL = s.rd Reg.TWX_CTL_TPOLL))) ∧
  (∀ (a d : Word) (sz : BitVec 2) (wr : Bool) (s : State), s.power = .running →
      (s.tapInstr ≠ 8 → exec (.tapDbgacc a d sz wr) s = .next s.after) ∧
      (s.tapInstr = 8 → (sz = 3#2 ∨ a.toNat % 2 ^ sz.toNat ≠ 0) → Answers (.tapDbgacc a d sz wr) s (fun t => t.rd Reg.DBG_STAT_ACCERR = 1 ∧ t.busOut = [0#8, 0#8, 0#8, 0#8])) ∧
      (∀ b, s.tapInstr = 8 → sz ≠ 3#2 → a.toNat % 2 ^ sz.toNat = 0 → s.busBytes a.toNat (2 ^ sz.toNat) = some b → exec (.tapDbgacc a d sz false) s = .next ({ s with busOut := b } : State).after) ∧
      (s.tapInstr = 8 → sz ≠ 3#2 → a.toNat % 2 ^ sz.toNat = 0 → s.busBytes a.toNat (2 ^ sz.toNat) = none → Answers (.tapDbgacc a d sz false) s (fun t => t.rd Reg.DBG_STAT_ACCERR = 1)) ∧
      (s.tapInstr = 8 → a.toNat % 4 = 0 → 0x20000000 ≤ a.toNat → a.toNat < 0x20080000 → exec (.tapDbgacc a d 2#2 true) s = .next (s.putWord a.toNat d.toNat).after) ∧
      (s.tapInstr = 8 → sz ≠ 3#2 → a.toNat % 2 ^ sz.toNat = 0 → 0x40000000 ≤ a.toNat → a.toNat < 0x40240000 →
        Answers (.tapDbgacc a d sz true) s (fun t => t.rd Reg.NVS_STAT_DISCF = 1 ∧ t.rd Reg.DBG_STAT_ACCERR = 1 ∧ s.SameMemory t)) ∧
      (s.tapInstr = 8 → sz ≠ 3#2 → a.toNat % 2 ^ sz.toNat = 0 → 0x90020000 ≤ a.toNat → a.toNat < 0x90028000 → exec (.tapDbgacc a d sz true) s = .next s.accError.after))

/-- The register and memory opcodes: GET and GETBLK return what is read, comparator samples up to this moment included, SET writes the words it carries when its checks pass and none when one fails, SETBLK a staged coefficient or, whole, any window, PEEK and POKE the bus, and FENCE publishes for an owner (R371, R372, R390 to R392, R520). -/
def Obligations.RegisterOpcodesRun : Prop :=
  ∀ (p : Port) (h : Hdr) (pl : List Byte) (s : State),
    (∀ o, findObj h.objId.toNat = some o → objIl h.objId.toNat ≤ s.servedIl →
      (o.arrayed = false → pl = [] → Runs (.get p h pl) s p h pl 0x10 (fun t _ => (t.capSync, stOk, wordBytes (t.capSync.readObj o o.base)))) ∧
      (∀ i : Byte, o.arrayed = true → pl = [i] → i.toNat < o.fam.count → Runs (.get p h pl) s p h pl 0x10 (fun t _ => (t.capSync, stOk, wordBytes (t.capSync.readObj o i.toNat))))) ∧
    (∀ o i ws, State.setData h.objId.toNat pl = some (o, i, ws) → (s.taken p).setStatus h.objId.toNat o i ws = stOk →
      Runs (.set p h pl) s p h pl 0x11 (fun t c => ((t.writeObj o i ws).fireJob p c.obj (ws.headD 0), stOk, []))) ∧
    (∀ o i ws, State.setData h.objId.toNat pl = some (o, i, ws) → (s.taken p).setStatus h.objId.toNat o i ws ≠ stOk →
      Runs (.set p h pl) s p h pl 0x11 (fun t _ => (t, t.setStatus h.objId.toNat o i ws, []))) ∧
    (∀ b, h.objId.toNat ∈ [0x0602, 0x0702, 0x0622, 0x0B03, 0x0B04] → pl.length = 5 → leNat (pl.drop 4) ≠ 0 → objIl h.objId.toNat ≤ s.servedIl →
      (s.taken p).capSync.blockBytes h.objId.toNat (leNat (pl.take 4)) (leNat (pl.drop 4)) = some b → Runs (.getblk p h pl) s p h pl 0x12 (fun t _ => (t.capSync, stOk, b))) ∧
    (h.objId = 0x0602#16 → pl.length = 8 → 0x1800 ≤ leNat (pl.take 4) → leNat (pl.take 4) < 0x1A00 → modesCfg.contains s.mode = true → s.on Reg.BIST_STAT_RUN = false →
      s.on Reg.LE_CTL_SWPEND = false → Runs (.setblk p h pl) s p h pl 0x13 (fun t _ =>
        ((t.putWord (bankA + bankSize + 4 * (leNat (pl.take 4) - 0x1800)) (leNat (pl.drop 4))).setV .bankTouched 0 1, stOk, []))) ∧
    (∀ u, h.objId = 0x0702#16 → 5 ≤ pl.length → (s.taken p).setPhmMem (leNat (pl.take 4)) (pl.drop 4) = (u, stOk) → Runs (.setblk p h pl) s p h pl 0x13 (fun _ _ => (u, stOk, []))) ∧
    (∀ b, h.objId = 0xFFFF#16 → pl.length = 5 → leNat (pl.take 4) % 4 = 0 → leNat (pl.drop 4) ≠ 0 → leNat (pl.drop 4) ≤ 60 →
      (s.taken p).capSync.busBytes (leNat (pl.take 4)) (4 * leNat (pl.drop 4)) = some b → Runs (.peek p h pl) s p h pl 0x18 (fun t _ => (t.capSync, stOk, b))) ∧
    (h.objId = 0xFFFF#16 → pl.length = 8 → leNat (pl.take 4) % 4 = 0 → 0x20000000 ≤ leNat (pl.take 4) → leNat (pl.take 4) < 0x20080000 →
      s.mode ∈ [mStandby, mRehearsal, mCharacterise] → Runs (.poke p h pl) s p h pl 0x19 (fun t _ => (t.putWord (leNat (pl.take 4)) (leNat (pl.drop 4)), stOk, []))) ∧
    (h.objId = 0xFFFF#16 → Runs (.fence p h []) s p h [] 0x06 (fun t c => (if c.asOwner = true ∨ s.owner = some p then t.publish else t, stOk, [])))

/-- The writes of single fields that have rows of their own: expert key, GO, SWAP, HALT, SNAP, EN, FIRE, REDISC and a host transaction on the stage bus, in the modes that allow them (R21, R35, R97, R156, R348, R380, R421, R428). -/
def Obligations.FieldWriteRowsRun : Prop :=
  ∀ (p : Port) (h : Hdr) (s : State),
    let hd := fun id : Nat => { h with objId := BitVec.ofNat 16 id }
    1 ≤ s.servedIl →
    (s.mode ≠ mBoot → s.mode ≠ mMinimal →
      Runs (.expertUnlock p h) s p (hd 0x1510) (leBytes 4 0x3296) 0x11 (fun t _ => (t.wr Reg.EXPERT_CTL_XON 0 1, stOk, [])) ∧
      Runs (.expertLock p h) s p (hd 0x1510) (leBytes 4 0) 0x11 (fun t _ => (t.wr Reg.EXPERT_CTL_XON 0 0, stOk, []))) ∧
    (modesCfg.contains s.mode = true →
      Runs (.commitGo p h) s p (hd 0x1511) (leBytes 4 1) 0x11 (fun t _ => (t.publish, stOk, [])) ∧
      (∀ k < 2, s.rd Reg.LE_CTL_HALT = k → s.on Reg.LE_CTL_SWPEND = false → Runs (.leSwapArm p h) s p (hd 0x0600) (leBytes 4 (16 * k + 128)) 0x11 (fun t _ => (t.setV .swapStaged 0 1, stOk, []))) ∧
      (∀ b : Bool, s.rd Reg.LE_CTL_HALT = b2n b → Runs (.leHalt p h b) s p (hd 0x0600) (leBytes 4 (16 * b2n b)) 0x11 (fun t _ => (t, stOk, []))) ∧
      (∀ b : Bool, s.rd Reg.LE_CTL_HALT = b2n (!b) → s.mode = mRehearsal → s.stagesOff = true →
        Runs (.leHalt p h b) s p (hd 0x0600) (leBytes 4 (16 * b2n b)) 0x11 (fun t _ => (t.leHaltWrite b, stOk, []))) ∧
      (∀ k < 2, s.rd Reg.CCT_CTL_EN = k → Runs (.cctSnap p h) s p (hd 0x0A00) (leBytes 4 (k + 2)) 0x11 (fun t _ => (t.cctSnapshot, stOk, []))) ∧
      (∀ b : Bool, Runs (.cctEnable p h b) s p (hd 0x0A00) (leBytes 4 (b2n b)) 0x11 (fun t _ => (t.cctEnableTo b, stOk, []))) ∧
      (∀ j : Fin 8, s.rd Reg.CAP_JOB_PORT j = p.idx → s.rd Reg.CAP_JOB_TRIG j = 1 →
        Runs (.capJobFire p h j) s p (hd (0x0B10 + j)) (leBytes 4 1 ++ List.replicate 12 0#8) 0x11 (fun t _ => (t.triggerJob j, stOk, [])))) ∧
    (s.mode = mStandby → ∀ o c, findObj 0x0D10 = some o → fieldsOk 0x0D10 o 0 [s.idleWord 0x0D10 + 1] = true →
      s.Waiting p (hd 0x0D10) (wordBytes [s.idleWord 0x0D10 + 1]) 0x11 c → s.rd Reg.TWX_HXFR_STAT ≠ hxRunning → Answers (.twxRedisc p h) s (fun t => t.rd Reg.TWX_STAT_DISC = 1)) ∧
    (s.mode ∈ [mStandby, mRehearsal, mCharacterise] → ∀ (a b d e : Word) (o : Obj) (c : Cmd), findObj 0x0D12 = some o →
      let ws := [a.toNat % 2 ^ 31 + 2 ^ 31, b.toNat, d.toNat, e.toNat]
      fieldsOk 0x0D12 o 0 ws = true → s.Waiting p (hd 0x0D12) (wordBytes ws) 0x11 c → s.hxFree = true →
        Answers (.twxHxfrGo p h [a, b, d, e]) s (fun t => t.rd Reg.TWX_HXFR_STAT = hxRunning ∧ t.rd Reg.TWX_HXFR_TADDR = bits a.toNat 6 0 ∧
          t.rd Reg.TWX_HXFR_NWR = bits a.toNat 19 16 ∧ t.rd Reg.TWX_HXFR_NRD = bits a.toNat 22 20 ∧ t.rd Reg.TWX_HXFR_WD0 = b.toNat ∧ t.rd Reg.TWX_HXFR_WD1 = d.toNat)) ∧
    (∀ words : List Word, words.length ≠ 4 → exec (.twxHxfrGo p h words) s = .refused .illFormed)

/-! ### Host opcodes of the rails, the services, capture and the system -/

/-- The opcodes of the rails and their phases. The rail opcodes: RAIL_ON and RAIL_OFF stage the change and wait, RAIL_OFF of a rail that is off or ramping down answers at once, one of a rail whose RAIL_ON is staged takes it back, one of a rail in FAULTOFF is refused, SETV and SETSLEW stage their field, LOADLINE its coefficients, RAIL_CFG the phases, the schedule, the frame and the law (R84, R138, R139, R159, R393 to R395). The phase opcodes: PHASE_MAP stages a set, SHED_POLICY its words, UNDERSTUDY names a phase that is not live on a rail, within a staged map if there is one, withdraws and retires (R181, R183, R194, R208, R396). -/
def Obligations.RailOpcodesRun : Prop :=
  (∀ (p : Port) (h : Hdr) (pl : List Byte) (s : State), h.objId = 0xFFFF#16 →
      let f := fun o n => fieldAt pl o n
      let r := fieldAt pl 0 1
      r < 4 →
      (pl.length = 1 → s.rd Reg.SYS_BOOT_LOOPSTAT < 2 → railOnModes.contains s.mode = true → s.railLive r = false → s.railState r ≠ railFaultOff → s.slotCount (r + 1) ≠ 0 →
        Runs (.railOn p h pl) s p h pl 0x21 (fun t c =>
          ({ t.interTrigger.setV .onStaged r 1 with railWaits := t.interTrigger.railWaits ++ [⟨r, true, p.idx + 1, c.tag⟩] }, stAccepted, []))) ∧
      (pl.length = 1 → modesCfg.contains s.mode = true → s.railState r ≠ railFaultOff → s.railState r ≠ railDisabled → s.rampingDown r = false →
        Runs (.railOff p h pl) s p h pl 0x22 (fun t c => ({ t.setV .onStaged r 2 with railWaits := t.railWaits ++ [⟨r, false, p.idx + 1, c.tag⟩] }, stAccepted, []))) ∧
      (pl.length = 1 → modesCfg.contains s.mode = true → s.railState r = railDisabled → s.vn .onStaged r ≠ 1 → Runs (.railOff p h pl) s p h pl 0x22 (fun t _ => (t, stOk, []))) ∧
      (pl.length = 1 → modesCfg.contains s.mode = true → s.railState r = railDisabled → s.vn .onStaged r = 1 → Runs (.railOff p h pl) s p h pl 0x22 (fun t _ => (t.unstageOn r 0x0E, stOk, []))) ∧
      (pl.length = 1 → modesCfg.contains s.mode = true → s.railState r ≠ railFaultOff → s.railState r ≠ railDisabled → s.rampingDown r = true → Runs (.railOff p h pl) s p h pl 0x22 (fun t _ => (t, stOk, []))) ∧
      (pl.length = 1 → modesCfg.contains s.mode = true → s.railState r = railFaultOff → Runs (.railOff p h pl) s p h pl 0x22 (fun t _ => (t, stWrongMode, []))) ∧
      (pl.length = 3 → modesCfg.contains s.mode = true → f 1 2 ≤ 3200 → s.published Reg.LE_VSRC r ≠ 1 → s.stg Reg.LE_VMIN r ≤ f 1 2 → f 1 2 ≤ s.stg Reg.LE_VMAX r →
        Runs (.setv p h pl) s p h pl 0x23 (fun t _ => (t.stage Reg.LE_VTGT r (f 1 2), stOk, []))) ∧
      (pl.length = 3 → modesCfg.contains s.mode = true → f 1 2 ≤ 3200 → s.published Reg.LE_VSRC r = 1 → Runs (.setv p h pl) s p h pl 0x23 (fun t _ => (t, stConflict, []))) ∧
      (pl.length = 3 → modesCfg.contains s.mode = true → 1 ≤ f 1 2 → f 1 2 ≤ 1000 → Runs (.setslew p h pl) s p h pl 0x24 (fun t _ => (t.stage Reg.LE_SLEW r (f 1 2), stOk, []))) ∧
      (pl.length = 3 → modesCfg.contains s.mode = true → f 1 2 ≤ 2000 → s.on Reg.LE_CTL_SWPEND = false →
        Runs (.loadline p h pl) s p h pl 0x25 (fun t _ => ((t.loadCoefs (coefBase r + 0x08) [rllCode (f 1 2)]).loadCoefs (coefBase r + 0x38) [rllCode (f 1 2)], stOk, []))) ∧
      (let direct := bit (f 1 1) 2
        let two := bit (f 1 1) 3
        let prd := (rdiv 400000000 (f 10 4)).toNat
        let given : Bool := f 2 4 != 0
        let t := s.taken p
        let own := if given then maskList 32 (f 2 4) else t.stgPhases r false
        let us := if given then maskList 32 (f 6 4) else t.stgPhases r true
        let codes := if direct then State.directCodes pl else designCodes (State.plantOf pl) own.length (if two then 8 else 16)
        pl.length = (if direct then 84 else 48) → State.cfgFieldsOk pl = true → modesCfg.contains s.mode = true → s.railState r = railDisabled → s.vn .onStaged r ≠ 1 → s.vn .onPub r ≠ 1 →
          s.on Reg.LE_CTL_SWPEND = false → (given = true → t.mapStatus r own us 0 0 prd = stOk) → (t.atPref prd = true ∨ layoutOk own us = true) → t.schedClash r = false →
          (∀ c ∈ own ++ us, t.prdOk c prd = true) → (direct = false → own ≠ [] ∧ fcAboveF0 (State.plantOf pl) own.length = true) → lawCodesOk codes = true → lawCodesOk (interHalf codes) = true →
            Runs (.railCfg p h pl) s p h pl 0x20 (fun t _ =>
              let a := if given then t.stageMap r own us 0 0 prd else t.stageSync r own us prd
              (((State.frameValues pl).foldl (fun u x => u.stage x.1 r x.2) (a.stageSched r two)).loadLaw r codes, stOk, [])))) ∧
  (∀ (p : Port) (h : Hdr) (pl : List Byte) (s : State), h.objId = 0xFFFF#16 → modesCfg.contains s.mode = true →
      (let f := fun o n => fieldAt pl o n
        let own := maskList 32 (f 1 4)
        let us := maskList 32 (f 5 4)
        pl.length = 15 → f 0 1 < 4 → (∀ c ∈ own, c ∉ us) → (s.taken p).mapStatus (f 0 1) own us (f 9 2) (f 11 4) (s.mapPrd own) = stOk →
          Runs (.phaseMap p h pl) s p h pl 0x30 (fun t _ => (t.stageMap (f 0 1) own us (f 9 2) (f 11 4) (t.mapPrd own), stOk, []))) ∧
      (∀ o, pl.length = 13 → fieldAt pl 0 1 < 4 → findObj (0x0714 + fieldAt pl 0 1) = some o → fieldsOk (0x0714 + fieldAt pl 0 1) o o.base (leWords (pl.drop 1)) = true →
        Runs (.shedPolicy p h pl) s p h pl 0x31 (fun t _ => (t.writeObj o o.base (leWords (pl.drop 1)), stOk, []))) ∧
      (∀ r ch : Byte, r.toNat < 4 → ch.toNat < 32 →
        let t := s.taken p
        let own := (t.stgPhases r.toNat false).filter (fun c => c != ch.toNat)
        let us := (List.range 32).filter (fun c => if c = ch.toNat then true else (t.stgPhases r.toNat true).contains c)
        ((s.rd Reg.PHM_ROLE ch.toNat = 1 ∨ s.rd Reg.PHM_ROLE ch.toNat = 2) → (∃ q, s.railOf ch.toNat = some q ∧ s.railState q ≠ railDisabled) →
          Runs (.understudyName p h [r, ch]) s p h (0#8 :: [r, ch]) 0x32 (fun t _ => (t, stConflict, []))) ∧
        ((t.stgPhases r.toNat true).contains ch.toNat = true → s.rd Reg.PHM_ROLE ch.toNat ≠ 1 → s.rd Reg.PHM_ROLE ch.toNat ≠ 2 → Runs (.understudyName p h [r, ch]) s p h (0#8 :: [r, ch]) 0x32 (fun t _ => (t, stOk, []))) ∧
        ((t.stgPhases r.toNat true).contains ch.toNat = false → s.rd Reg.PHM_ROLE ch.toNat ≠ 1 → s.rd Reg.PHM_ROLE ch.toNat ≠ 2 → t.heldElsewhere r.toNat ch.toNat = false →
          (t.atPref (t.mapPrd own) = true ∨ layoutOk own us = true) → (ch.toNat % 2 = 0 ∨ s.stg Reg.PWM_OUTM (ch.toNat - 1) ≠ 1) → own ≠ [] →
          Runs (.understudyName p h [r, ch]) s p h (0#8 :: [r, ch]) 0x32 (fun t _ =>
            let a := t.stageJoin r.toNat ch.toNat true
            (if a.vOn .mapStaged r.toNat = true then a.stageSync r.toNat own us (t.mapPrd own) else a.stageUstudy r.toNat ch.toNat own us (t.mapPrd own), stOk, []))) ∧
        (((t.stgPhases r.toNat true).contains ch.toNat = false ∨ s.rd Reg.PHM_ROLE ch.toNat = 1 ∨ s.rd Reg.PHM_ROLE ch.toNat = 2) →
          Runs (.understudyWithdraw p h [r, ch]) s p h (1#8 :: [r, ch]) 0x32 (fun t _ => (t, stOk, []))) ∧
        ((t.stgPhases r.toNat true).contains ch.toNat = true → s.rd Reg.PHM_ROLE ch.toNat ≠ 1 → s.rd Reg.PHM_ROLE ch.toNat ≠ 2 →
          let left := (List.range 32).filter (fun c => if c = ch.toNat then false else (t.stgPhases r.toNat true).contains c)
          (t.atPref (t.mapPrd own) = true ∨ layoutOk own left = true) → (own ≠ [] ∨ left = []) →
          Runs (.understudyWithdraw p h [r, ch]) s p h (1#8 :: [r, ch]) 0x32 (fun t _ =>
            let a := t.stageFree ch.toNat
            (if a.vOn .mapStaged r.toNat = true then a.stageSync r.toNat own left (t.mapPrd own) else a, stOk, []))) ∧
        (s.understudies r.toNat ≠ [] → ((s.active r.toNat).contains ch.toNat = true ∨ (s.parked r.toNat).contains ch.toNat = true) → s.railState r.toNat = railRegulate →
          Runs (.understudyRetire p h [r, ch]) s p h (2#8 :: [r, ch]) 0x32 (fun t _ => (t.declareFailed ch.toNat 6, stOk, [])))))

/-- The service opcodes: HAMPER_CFG stages the Hamper's carriers and shunts, GAUGE_READ reads the ledger and clears it on request, REST_WINDOW grants, denies and cancels, PROT_CFG of each kind and THERM_CFG of each kind stage their fields, FAULT_CLEAR clears a rail's fault and the Hamper's latch, and leaves SAFESTOP once no latched cause is active (R246, R269, R279, R294, R312, R318, R396 to R398). -/
def Obligations.ServiceOpcodesRun : Prop :=
  ∀ (p : Port) (h : Hdr) (pl : List Byte) (s : State), h.objId = 0xFFFF#16 →
    let f := fun o n => fieldAt pl o n
    (modesCfg.contains s.mode = true →
      (let prd := (rdiv 400000000 (f 0 4)).toNat;
        pl.length = 12 → 134 ≤ rdiv 400000000 (f 0 4) → rdiv 400000000 (f 0 4) ≤ 2666 → f 4 2 ≠ 0 → f 6 2 ≠ 0 → f 8 2 ≠ 0 → f 10 1 ≤ 1 → f 11 1 = 0 → s.on Reg.LE_CTL_SWPEND = false →
          s.rd Reg.HAM_CTL_AMODE = 0 → s.prdOk 32 prd = true →
          Runs (.hamperCfg p h pl) s p h pl 0x38 (fun t _ =>
            let a := [32, 33].foldl (fun u ch => ((u.stage Reg.PWM_PRD ch prd).stage Reg.PWM_CEN ch 1).stage Reg.CSA_EN ch 1) t
            let b := (a.stage Reg.PWM_SYNCSEL 33 2).stage Reg.PWM_PHSV 33 prd
            let d := ((b.stage Reg.HAM_SHUNT_RRV 0 (f 6 2)).stage Reg.HAM_SHUNT_RIIB 0 (f 8 2)).stage Reg.HAM_CTL_H1EN 0 (f 10 1);
            ((d.hamperCoefs.setV .swapStaged 0 1).setV .bankTouched 0 1, stOk, []))) ∧
      (∀ k : Byte, pl = [k] → k.toNat ≤ 1 → Runs (.gaugeRead p h pl) s p h pl 0x39 (fun t _ =>
        (if k = 1#8 then t.clearLedger else t, stOk, t.objBytes 0x0A12 0 ++ t.objBytes 0x0A13 0 ++ t.objBytes 0x0A14 0 ++ (if 2 ≤ s.servedIl then t.objBytes 0x0A15 0 else List.replicate 8 0)))) ∧
      (∀ (i flags : Byte) (hys dac : BitVec 16) (o : Obj), pl = [0#8, i, flags] ++ leBytes 2 hys.toNat ++ leBytes 2 dac.toNat → i.toNat < 48 → bits flags.toNat 4 3 ≠ 3 → findObj 0x05C0 = some o →
        let gain := match gainChan i.toNat with | some k => s.stg Reg.CSA_SGAIN k | none => 0
        let y := dacCode i.toNat hys.toNat gain
        let d := if i.toNat = 42 then s.stg Reg.CMP_DAC 42 else dacCode i.toNat dac.toNat gain
        let w := cmpWord flags.toNat y d
        y ≤ 63 → d ≤ 1023 → fieldsOk 0x05C0 o i.toNat [w] = true → Runs (.protCfg p h pl) s p h pl 0x40 (fun t _ => (t.writeObj o i.toNat [w], stOk, []))) ∧
      (∀ pol n pct : Byte, pl = [2#8, pol, n, pct] → pol.toNat < 16 → bits pol.toNat 1 0 ≠ 3 → 1 ≤ n.toNat → 10 ≤ pct.toNat → pct.toNat ≤ 100 →
        Runs (.protCfg p h pl) s p h pl 0x40 (fun t _ => (((((t.stage Reg.PROT_CTL_IBOVPOL 0 (bits pol.toNat 1 0)).stage Reg.PROT_CTL_FNRAIL 0 (bits pol.toNat 2 2)).stage Reg.PROT_CTL_FNHAM 0 (bits pol.toNat 3 3)).stage
          Reg.PROT_CTL_HTRIPN 0 n.toNat).stage Reg.PROT_CTL_THRPCT 0 pct.toNat, stOk, []))) ∧
      (∀ (pol hn hr : Byte) (off : BitVec 16) (r : Rail), pl = [1#8, BitVec.ofNat 8 r, pol, hn, hr] ++ leBytes 2 off.toNat → pol.toNat < 6 → 1 ≤ hn.toNat → 1 ≤ off.toNat → off.toNat ≤ 2000 →
        Runs (.protCfg p h pl) s p h pl 0x40 (fun t _ => (((((t.stage Reg.PROT_OVPOL r (pol.toNat % 2)).stage Reg.PROT_UVPOL r (pol.toNat / 2)).stage Reg.PROT_HN r hn.toNat).stage Reg.PROT_HRETRY r hr.toNat).stage
          Reg.PROT_HOFF r off.toNat, stOk, []))) ∧
      (∀ (i ty mask hys nf : Byte) (w u d rnom beta rpu : BitVec 16),
        pl = [0#8, i, ty, mask] ++ leBytes 2 w.toNat ++ leBytes 2 u.toNat ++ leBytes 2 d.toNat ++ [hys, nf] ++ leBytes 2 rnom.toNat ++ leBytes 2 beta.toNat ++ leBytes 2 rpu.toNat →
        1 ≤ i.toNat → i.toNat ≤ 8 → ty.toNat ≤ 2 → mask.toNat < 16 → -64 ≤ w.toInt → w.toInt < u.toInt → u.toInt < d.toInt → d.toInt ≤ 191 → 1 ≤ hys.toNat → hys.toNat ≤ 15 →
        Runs (.thermCfg p h pl) s p h pl 0x48 (fun t _ =>
          (([(Reg.THM_WARN, (w.toInt + 64).toNat), (Reg.THM_THR, (u.toInt + 64).toNat), (Reg.THM_SD, (d.toInt + 64).toNat), (Reg.THM_HYS, hys.toNat), (Reg.HKA_TYPE, ty.toNat), (Reg.THM_RAILMASK, mask.toNat), (Reg.THM_NF, nf.toNat)] ++
            [(Reg.THM_RNOM, rnom.toNat), (Reg.THM_BETA, beta.toNat), (Reg.THM_RPU, rpu.toNat)]).foldl (fun v x => v.stage x.1 i.toNat x.2) t, stOk, []))) ∧
      (∀ (hys : Byte) (w u d : BitVec 16), pl = [0#8, 0#8, 0#8, 0#8] ++ leBytes 2 w.toNat ++ leBytes 2 u.toNat ++ leBytes 2 d.toNat ++ [hys] ++ List.replicate 7 0#8 →
        -64 ≤ w.toInt → w.toInt < u.toInt → u.toInt < d.toInt → d.toInt ≤ 191 → 1 ≤ hys.toNat → hys.toNat ≤ 15 →
        Runs (.thermCfg p h pl) s p h pl 0x48 (fun t _ =>
          (([(Reg.THM_WARN, (w.toInt + 64).toNat), (Reg.THM_THR, (u.toInt + 64).toNat), (Reg.THM_SD, (d.toInt + 64).toNat), (Reg.THM_HYS, hys.toNat)]).foldl (fun v x => v.stage x.1 0 x.2) t, stOk, []))) ∧
      (∀ (bh : Byte) (b : Vector (BitVec 16) 7), pl = [1#8, bh] ++ (b.toList.flatMap (fun x => leBytes 2 x.toNat)) → 1 ≤ bh.toNat → bh.toNat ≤ 15 → (∀ x ∈ b.toList, -64 ≤ x.toInt ∧ x.toInt ≤ 191) →
        bandsOk (b.toList.map (fun x => (x.toInt + 64).toNat)) bh.toNat = true → (s.mode = mStandby ∨ s.mode = mRehearsal) →
        Runs (.thermCfg p h pl) s p h pl 0x48 (fun t _ => ((State.bandFlds.zip (b.toList.map (fun x => (x.toInt + 64).toNat))).foldl (fun u x => u.stage x.1 0 x.2) (t.stage Reg.THM_BAND_BHYS 0 bh.toNat), stOk, [])))) ∧
    (∀ r : Rail, pl = [BitVec.ofNat 8 (2 ^ (4 + r.val))] → modesCfg.contains s.mode = true → s.railState r = railFaultOff → s.on Reg.CMP_OUT (34 + r) = false →
      Runs (.faultClear p h pl) s p h pl 0x41 (fun t _ => ((t.clearFaultOff r).event 0x3008 0 (leBytes 1 (2 ^ (4 + r.val)) ++ leBytes 1 (2 ^ (4 + r.val))), stOk, leBytes 1 (2 ^ (4 + r.val))))) ∧
    (pl = [2#8] → modesCfg.contains s.mode = true → s.on Reg.PROT_LATCH_HAMLAT = true →
      (s.on Reg.CMP_OUT 46 = false → s.on Reg.CMP_OUT 47 = false →
        Runs (.faultClear p h pl) s p h pl 0x41 (fun t _ => (((t.wr Reg.PROT_LATCH_HAMLAT 0 0).hamAtOnce).event 0x3008 0 (leBytes 1 2 ++ leBytes 1 2), stOk, leBytes 1 2))) ∧
      ((s.on Reg.CMP_OUT 46 = true ∨ s.on Reg.CMP_OUT 47 = true) →
        Runs (.faultClear p h pl) s p h pl 0x41 (fun t _ => (t.event 0x3008 0 (leBytes 1 2 ++ leBytes 1 0), stFailed, [0x07#8] ++ leBytes 1 0)))) ∧
    (pl = [1#8] → s.mode = mSafestop → s.rd Reg.PROT_LATCH_CAUSE ≠ 0 →
      ((∀ b < 7, bit (s.rd Reg.PROT_LATCH_CAUSE) b = true → s.causeActive b = false) →
        Runs (.faultClear p h pl) s p h pl 0x41 (fun t _ => ((t.event 0x3008 0 (leBytes 1 1 ++ leBytes 1 1)).leaveSafestop, stOk, leBytes 1 1))) ∧
      (∀ b < 7, bit (s.rd Reg.PROT_LATCH_CAUSE) b = true → s.causeActive b = true →
        Runs (.faultClear p h pl) s p h pl 0x41 (fun t _ => (t.event 0x3008 0 (leBytes 1 1 ++ leBytes 1 0), stFailed, [0x07#8] ++ leBytes 1 0)))) ∧
    (pl = [] → s.mode ∈ [mStandby, mActive, mInter] →
      (2 ≤ s.servedIl → Runs (.restGrantNow p h pl) s p h (0#8 :: pl) 0x3A (fun t _ => (t.grantNow, stOk, [])) ∧ Runs (.restDeny p h pl) s p h (2#8 :: pl) 0x3A (fun t _ => (t.denyRest, stOk, [])) ∧
        Runs (.restCancel p h pl) s p h (3#8 :: pl) 0x3A (fun t _ => (t.cancelRest, stOk, []))) ∧
      (4 ≤ s.servedIl → Runs (.restGrantAtQuiet p h pl) s p h (1#8 :: pl) 0x3A (fun t _ => (t.grantQuiet, stOk, []))) ∧
      (s.servedIl < 2 → Runs (.restGrantNow p h pl) s p h (0#8 :: pl) 0x3A (fun t _ => (t, stVersion, []))))

/-- Capture, spectra and health: an arm takes channels, tokens and a slot, fire and cancel act on a job of the session, a read returns frame and samples, a spectrum waits for its transform, and one of the same channel that it replaces fails, and HEALTH reads, keeps baselines, arms and disarms the ESR (R330, R332 to R335, R338 to R340, R343, R344, R399). -/
def Obligations.CaptureOpcodesRun : Prop :=
  ∀ (p : Port) (h : Hdr) (pl : List Byte) (s : State), h.objId = 0xFFFF#16 → modesSes.contains s.mode = true →
    let t := s.taken p
    let f := fun o n => fieldAt pl o n
    (∀ (u : State) (chans : List Nat) (j : Nat),
      let ql := 0#8 :: pl
      let l := armChans ql
      7 ≤ ql.length → ql.length = 7 + 4 * fieldAt ql 6 1 → armFieldsOk ql = true → s.on Reg.BIST_STAT_RUN = false → t.freeSlot = some j → t.allocateAll holdJob (l.map (fun x => x.len)) = some (u, chans) →
        t.overShare p l.length (l.foldl (fun n x => n + x.len) 0) = false → t.storeRate l ≤ 200000000 * 2 ^ 15 →
        Runs (.captureArm p h pl) s p h ql 0x50 (fun _ _ =>
          let a := ((((u.wr Reg.CAP_JOB_STATE j 1).wr Reg.CAP_JOB_PORT j p.idx).wr Reg.CAP_JOB_TRIG j (fieldAt ql 1 1)).wr Reg.CAP_JOB_TARG j (fieldAt ql 2 1)).wr Reg.CAP_JOB_PRE j (fieldAt ql 3 1)
          let b := (a.wr Reg.CAP_JOB_LEVEL j (fieldAt ql 4 2)).wr Reg.CAP_JOB_CHMASK j (listMask chans)
          let d := ((chans.zip l).foldl (fun v x => v.startChan j x.1 x.2) b).jobProgress j
          let e := if fieldAt ql 1 1 = 0 then d.triggerJob j else d
          (e, stOk, leBytes 1 j ++ leBytes 2 (listMask chans) ++ leBytes 1 (e.rd Reg.CAP_TOK0 (chans.headD 0))))) ∧
    (∀ j : Byte, pl = [j] → j.toNat < 8 → s.on Reg.BIST_STAT_RUN = false → s.ownsJob p j.toNat = true →
      (s.rd Reg.CAP_JOB_TRIG j.toNat = 1 → Runs (.captureFire p h pl) s p h (1#8 :: pl) 0x50 (fun t _ => (t.triggerJob j.toNat, stOk, []))) ∧
      (s.rd Reg.CAP_JOB_TRIG j.toNat ≠ 1 → Runs (.captureFire p h pl) s p h (1#8 :: pl) 0x50 (fun t _ => (t, stOk, []))) ∧
      Runs (.captureCancel p h pl) s p h (2#8 :: pl) 0x50 (fun t _ => (t.freeJob j.toNat, stOk, []))) ∧
    (∀ j : Byte, pl = [j] → j.toNat < 8 → s.on Reg.BIST_STAT_RUN = false → s.ownsJob p j.toNat = false → Runs (.captureCancel p h pl) s p h (2#8 :: pl) 0x50 (fun t _ => (t, stBadParam, []))) ∧
    (let w := t.capSync;
      pl.length = 8 → f 0 1 < 8 → f 1 1 < 16 → f 6 1 ≤ 55 → f 7 1 < 4 → w.rd Reg.CAP_JOB_STATE (f 0 1) ≠ 0 → (w.jobChans (f 0 1)).contains (f 1 1) = true →
      (bit (f 7 1) 0 = true → w.ownsJob p (f 0 1) = true) → (bit (f 7 1) 1 = true → w.vn .specBytes (f 1 1) ≠ 0) →
      Runs (.captureRead p h pl) s p h pl 0x51 (fun t0 _ => let t := t0.capSync; (if bit (f 7 1) 0 = true then t.freeJob (f 0 1) else t, stOk,
        (List.range 4).flatMap (fun k => t.objBytes (0x0BC1 + k) (f 1 1)) ++ t.readData (f 1 1) (f 2 4) (f 6 1) (bit (f 7 1) 1)))) ∧
    (∀ k : Nat,
      let w := t.capSync
      let n := 2 ^ f 2 1
      let ntok := (16 + 4 * (n / 2 + 1) + 4095) / 4096
      pl.length = 6 → f 0 1 < 8 → f 1 1 < 16 → 6 ≤ f 2 1 → f 2 1 ≤ 12 → f 3 1 ≤ 3 → 1 ≤ f 4 1 → f 4 1 ≤ 64 → f 5 1 ≤ 1 → (f 5 1 = 0 ∨ f 4 1 = 1) → w.spectra.length < 9 → w.ownsJob p (f 0 1) = true →
        (w.jobChans (f 0 1)).contains (f 1 1) = true → w.rd Reg.CAP_JOB_STATE (f 0 1) = 4 → (f 4 1 + 1) * n / 2 ≤ w.rd Reg.CAP_NSAMP (f 1 1) → cmpSource (w.rd Reg.CAP_SRC (f 1 1)) = false →
        (w.freeSpectrum (f 1 1)).overShare p 0 ntok = false → (w.freeSpectrum (f 1 1)).fitTokens ntok = some k →
        Runs (.spectrum p h pl) s p h pl 0x52 (fun t c =>
          let z := t.capSync.freeSpectrum (f 1 1)
          let a := (z.spectra.filter (fun x => x.job == f 0 1 && x.ch == f 1 1)).foldl (fun u x => u.complete x.port x.tag 0x52 stFailed 0x0B) z
          let b : State := { a with spectra := a.spectra.filter (fun x => !(x.job == f 0 1 && x.ch == f 1 1)) ++ [⟨p.idx + 1, c.tag, f 0 1, f 1 1, f 2 1, f 3 1, f 4 1, f 5 1⟩] }
          ((b.setV .specTok (f 1 1) (k + 1)).setV .specNtok (f 1 1) ntok, stAccepted, []))) ∧
    (pl.length = 4 → (maskList 32 (leNat pl)).length ≤ 15 → Runs (.healthRead p h pl) s p h (0#8 :: pl) 0x53 (fun t _ =>
      (t, stOk, (maskList 32 (leNat pl)).flatMap (fun k => (List.range 16).map (fun i => t.hlthByte (16 * k + i)))))) ∧
    (pl = [] → s.on Reg.DBG_STAT_ACHALTED = false → Runs (.healthBaseline p h pl) s p h (1#8 :: pl) 0x53 (fun t _ => (t.setBaselines, stOk, []))) ∧
    (pl = [] → s.on Reg.DBG_STAT_ACHALTED = true → Runs (.healthBaseline p h pl) s p h (1#8 :: pl) 0x53 (fun t c => (t.updSess p (fun x => { x with queue := c :: x.queue }), stLater, []))) ∧
    (∀ r : Rail, pl = [BitVec.ofNat 8 r] → 4 ≤ s.servedIl →
      (∀ u ch, s.on Reg.CAP_ESR_ARMED r = false → t.allocate holdEsr 8 = some (u, ch) →
        Runs (.healthEsrArm p h pl) s p h (2#8 :: pl) 0x53 (fun _ _ => (((u.wr Reg.CAP_JOB ch r).wr Reg.CAP_RATE ch 3125000).wr Reg.CAP_ESR_ARMED r 1, stOk, []))) ∧
      (∀ ch, s.esrChan r = some ch → Runs (.healthEsrDisarm p h pl) s p h (3#8 :: pl) 0x53 (fun t _ => ((t.freeChan ch).wr Reg.CAP_ESR_ARMED r 0, stOk, []))))

/-- The recorder's opcodes: a window opens on the ring as it stands, a read returns records in order and moves the cursor, a close ends it, a clear empties the ring, or fails while no record may be written, and a policy sets the default or a code's own pair (R401, R464, R466, R467). -/
def Obligations.LogOpcodesRun : Prop :=
  ∀ (p : Port) (h : Hdr) (pl : List Byte) (s : State), h.objId = 0xFFFF#16 →
    (modesAny.contains s.mode = true →
      (∀ (a : Word) (sev : Byte), pl = leBytes 4 a.toNat ++ [sev] → sev.toNat ≤ 3 → Runs (.logOpen p h pl) s p h pl 0x60 (fun t _ =>
        (t.updSess p (fun x => { x with log := some ⟨if a = 0xFFFFFFFF#32 then t.oldestSeq else a.toNat, t.newestSeq, sev.toNat, t.ring.isEmpty⟩ }), stOk, leBytes 4 t.oldestSeq ++ leBytes 4 t.newestSeq))) ∧
      (∀ (n : Byte) (w : LogWindow), pl = [n] → 1 ≤ n.toNat → n.toNat ≤ 7 → (s.sess p).log = some w → Runs (.logRead p h pl) s p h pl 0x61 (fun t _ =>
        (t.updSess p (fun y => { y with log := some (t.readRecords w n.toNat).2 }), stOk, leBytes 1 (t.readRecords w n.toNat).1.length ++ (t.readRecords w n.toNat).1.flatMap State.recordBytes))) ∧
      (pl = [] → (s.sess p).log.isSome = true → Runs (.logClose p h pl) s p h pl 0x62 (fun t _ => (t.updSess p (fun x => { x with log := none }), stOk, []))) ∧
      (pl = [] → (s.sess p).log = none → Runs (.logClose p h pl) s p h pl 0x62 (fun t _ => (t, stBadParam, [])))) ∧
    (pl = leBytes 2 0x5AA5 → (s.mode = mStandby ∨ s.mode = mRehearsal) →
      (s.on Reg.NVS_STAT_BOWARN = false → s.on Reg.NVS_STAT_INHIBIT = false → Runs (.logClear p h pl) s p h pl 0x63 (fun t _ =>
        (({ t.updAll (fun x => { x with log := none }) with ring := [] } : State).clearRecord t.ring.length p, stOk, []))) ∧
      ((s.on Reg.NVS_STAT_BOWARN = true ∨ s.on Reg.NVS_STAT_INHIBIT = true) → Runs (.logClear p h pl) s p h pl 0x63 (fun t _ =>
        (t.updAll (fun x => { x with log := none }), stFailed, [0x01#8])))) ∧
    (∀ (code : BitVec 16) (rate burst : Byte), pl = leBytes 2 code.toNat ++ [rate, burst] → modesCfg.contains s.mode = true → rate ≠ 0#8 → burst ≠ 0#8 →
      (code = 0xFFFF#16 → Runs (.logPolicy p h pl) s p h pl 0x64 (fun t _ => (t.setDefaultPolicy rate.toNat burst.toNat, stOk, []))) ∧
      (code ≠ 0xFFFF#16 → s.policyFull code.toNat rate.toNat burst.toNat = false → Runs (.logPolicy p h pl) s p h pl 0x64 (fun t _ => (t.setOwnPolicy code.toNat rate.toNat burst.toNat, stOk, []))) ∧
      (code ≠ 0xFFFF#16 → s.policyFull code.toNat rate.toNat burst.toNat = true → Runs (.logPolicy p h pl) s p h pl 0x64 (fun t _ => (t, stConflict, []))))

/-- The system opcodes: MODE makes a transition that is in the table, RESET resets at once with no rail live and drives a CURTAIN before it otherwise, with the streak and the marker cleared first where it says so, IDENTIFY and STATUS report (R42, R43, R46, R378, R402). -/
def Obligations.SystemOpcodesRun : Prop :=
  ∀ (p : Port) (h : Hdr) (pl : List Byte) (s : State), h.objId = 0xFFFF#16 → modesAny.contains s.mode = true →
    (∀ m : Byte, pl = [m] → (s.mode, m.toNat) ∈ modeMoves → s.rd Reg.SYS_BOOT_LOOPSTAT < 2 → s.on Reg.SYS_MODE_TRANS = false → s.on Reg.BIST_STAT_RUN = false →
      (s.mode = mRehearsal → s.on Reg.LE_CTL_HALTED = false) →
      ((m.toNat = mRehearsal ∨ m.toNat = mCharacterise ∨ (m.toNat = mStandby ∧ s.mode = mRehearsal)) → Runs (.mode p h pl) s p h pl 0x70 (fun t _ => (t.enterMode m.toNat 0x01, stOk, []))) ∧
      (m.toNat = mInter → Runs (.mode p h pl) s p h pl 0x70 (fun t c => (t.startInter (p.idx + 1) c.tag, stAccepted, []))) ∧
      (m.toNat = mActive → Runs (.mode p h pl) s p h pl 0x70 (fun t _ => (t.interExit 0x01, stOk, []))) ∧
      (m.toNat = mCurtain → Runs (.mode p h pl) s p h pl 0x70 (fun t c => (t.commandCurtain p c.tag, stAccepted, []))) ∧
      (m.toNat = mStandby → s.mode = mCharacterise → Runs (.mode p h pl) s p h pl 0x70 (fun t c => (t.leaveCharacterise p c.tag, stAccepted, [])))) ∧
    (∀ m : Byte, pl = [m] → m.toNat ≤ 11 → (s.mode, m.toNat) ∉ modeMoves → s.rd Reg.SYS_BOOT_LOOPSTAT < 2 → s.on Reg.SYS_MODE_TRANS = false → s.on Reg.BIST_STAT_RUN = false →
      s.mode ≠ mCurtain → Runs (.mode p h pl) s p h pl 0x70 (fun t _ => (t, stWrongMode, []))) ∧
    (∀ k : Byte, pl = [k] → k.toNat ≤ 1 →
      let forced := fun t : State => if k = 1#8 then (t.writeBoot { t.boot with streak := 0, marker := false }).showBoot else t
      (s.anyLive = false → ∀ c, s.Waiting p h pl 0x71 c → exec (.reset p h pl) s = .next ((forced (s.taken p)).devReset rstCommand)) ∧
      (s.anyLive = true → Runs (.reset p h pl) s p h pl 0x71 (fun t c => ((((forced t).setV .resetPort 0 (p.idx + 1)).setV .resetTag 0 c.tag).resetOrCurtain 0x11 rstCommand, stAccepted, [])))) ∧
    (pl = [] → Runs (.identify p h pl) s p h pl 0x72 (fun t _ =>
      (t, stOk, t.objBytes 0x1500 0 ++ t.objBytes 0x1503 0 ++ t.objBytes 0x1502 0 ++ t.objBytes 0x1504 0 ++ (t.objBytes 0x1501 0).take 1 ++ leBytes 8 Config.uid.toNat))) ∧
    (∀ (act : Byte) (mask clr : BitVec 16), pl = leBytes 1 act.toNat ++ leBytes 2 mask.toNat ++ leBytes 2 clr.toNat → act.toNat < 16 → (bit act.toNat 1 = true → mask.toNat < 512) →
      Runs (.status p h pl) s p h pl 0x73 (fun t0 _ => let t := t0.capSync; (t.updSess p (State.statusActs act.toNat mask.toNat clr.toNat), stOk,
        (t.summary p).take 6 ++ leBytes 2 (t.causeWord p) ++ leBytes 2 t.evCode ++ leBytes 1 (b2n (t.on Reg.GAU_REST_REQ) + 2 * b2n (t.on Reg.PHM_TAB_STALE) + 4 * b2n (t.on Reg.CAL_STAT_BUSY)) ++
          leBytes 1 (t.sess p).entries.length ++ (t.sess p).entries.flatMap State.entryBytes)))

/-- The maintenance opcodes: CAL_ADC with every rail off, BIST in REHEARSAL, CHARACTERISE, and the three opcodes of an update, each busy or refused where its own checks say so (R65, R66, R98, R203, R403, R404, R476). -/
def Obligations.MaintenanceOpcodesRun : Prop :=
  ∀ (p : Port) (h : Hdr) (pl : List Byte) (s : State), h.objId = 0xFFFF#16 →
    (pl = [] → s.mode ∈ [mStandby, mRehearsal, mCharacterise] → s.on Reg.CAL_STAT_BUSY = false → (∀ r < 4, s.railState r = railDisabled) →
      Runs (.calAdc p h pl) s p h pl 0x78 (fun t c => (((t.setV .calPort 0 (p.idx + 1)).setV .calTag 0 c.tag).calStart, stAccepted, []))) ∧
    (pl = [] → s.mode ∈ [mStandby, mRehearsal, mCharacterise] → s.on Reg.CAL_STAT_BUSY = true → Runs (.calAdc p h pl) s p h pl 0x78 (fun t _ => (t, stBusy, []))) ∧
    (∀ sel : BitVec 16, pl = leBytes 2 sel.toNat → s.mode = mRehearsal → 1 ≤ sel.toNat → sel.toNat ≤ 255 → s.bistBusy sel.toNat = false →
      Runs (.bist p h pl) s p h pl 0x79 (fun t c =>
        let a := (((t.wr Reg.BIST_STAT_RUN 0 1).wr Reg.BIST_STAT_SEL 0 sel.toNat).wr Reg.BIST_STAT_PASS 0 0).wr Reg.BIST_STAT_FAIL 0 0
        ((a.setV .bistPort 0 (p.idx + 1)).setV .bistTag 0 c.tag, stAccepted, []))) ∧
    (∀ (rails lo hi dwell : Byte) (lim : BitVec 16), pl = [rails, lo, hi, dwell] ++ leBytes 2 lim.toNat → s.mode = mCharacterise → rails.toNat < 16 → lo.toNat ≤ hi.toNat → hi.toNat ≤ 31 → 1 ≤ dwell.toNat →
      dwell.toNat ≤ 100 → 10 ≤ lim.toNat → lim.toNat ≤ 3600 → s.on Reg.PHM_CHAR_RUN = false → (∀ r < 4, bit rails.toNat r = true → s.assigned r ≠ []) →
      Runs (.characterise p h pl) s p h pl 0x7A (fun t c =>
        let a := (((t.wr Reg.PHM_CHAR_RUN 0 1).wr Reg.PHM_CHAR_REASON 0 0).wr Reg.PHM_CHAR_BANDS 0 0).wr Reg.PHM_CHAR_POINTS 0 0
        let b := ((a.setV .charMask 0 rails.toNat).setV .charLo 0 lo.toNat).setV .charHi 0 hi.toNat
        (((b.setV .charPort 0 (p.idx + 1)).setV .charTag 0 c.tag).charNext 0, stAccepted, []))) ∧
    (let l := beginImages pl;
      pl.length = 1 + 12 * l.length → l ≠ [] → (∀ m ∈ l, imageOk m = true) → (s.mode = mStandby ∨ (s.mode = mMinimal ∧ l.length = 2)) →
        Runs (.updateBegin p h pl) s p h pl 0x7C (fun t _ =>
          let b := t.targetBank
          let a := (t.putBytes (bankBase b) [0, 0]).putBytes (loopBase b) [0, 0];
          (({ a with update := some ⟨b, l, p.idx + 1, 0, false, t.mode⟩ } : State).enterMode mUpdate 0x0F, stOk, []))) ∧
    (∀ u m, s.mode = mUpdate → s.update = some u → 6 ≤ pl.length → pl.length ≤ 245 → u.images.find? (fun x => x.type == fieldAt pl 0 1) = some m → (fieldAt pl 0 1 = 1 ∨ fieldAt pl 0 1 = 2) →
      (fieldAt pl 1 4 = m.written → m.written + (pl.length - 5) ≤ m.length →
        Runs (.updateData p h pl) s p h pl 0x7D (fun t _ =>
          ({ (t.putBytes (imageBase u.bankB (fieldAt pl 0 1) + 64 + fieldAt pl 1 4) (pl.drop 5)).irq 116 with
            update := some { u with images := u.images.map (fun x => if x.type = fieldAt pl 0 1 then { x with written := x.written + (pl.length - 5) } else x) } }, stOk, []))) ∧
      (fieldAt pl 1 4 ≠ m.written → Runs (.updateData p h pl) s p h pl 0x7D (fun t _ => (t, stBadParam, [])))) ∧
    (∀ u, pl = [] → s.mode = mUpdate → s.update = some u → u.committing = false →
      ((∀ m ∈ u.images, m.written = m.length) → Runs (.updateCommit p h pl) s p h pl 0x7E (fun t c => ({ t with update := some { u with committing := true, tag := c.tag } }, stAccepted, []))) ∧
      (∀ m ∈ u.images, m.written ≠ m.length → Runs (.updateCommit p h pl) s p h pl 0x7E (fun t _ => (t, stBadParam, []))))

/-- A host command of the wrong length, or with an OBJID where none is due, is refused with BAD_PARAM before anything else is looked at, and changes nothing but the session's reply (R384, R520). -/
def Obligations.WrongLengthRefused : Prop :=
  ∀ (p : Port) (h : Hdr) (pl : List Byte) (s : State),
    let rows : List ((Port → Hdr → List Byte → Instr) × Nat × Nat) :=
      [(.fence, 0x06, 0), (.railOn, 0x21, 1), (.railOff, 0x22, 1), (.setv, 0x23, 3), (.setslew, 0x24, 3), (.loadline, 0x25, 3), (.phaseMap, 0x30, 15), (.hamperCfg, 0x38, 12), (.gaugeRead, 0x39, 1)] ++
      [(.faultClear, 0x41, 1), (.captureRead, 0x51, 8), (.spectrum, 0x52, 6), (.identRun, 0x58, 4), (.identRead, 0x59, 3), (.retune, 0x5A, 1), (.logOpen, 0x60, 5), (.logRead, 0x61, 1), (.logClose, 0x62, 0)] ++
      [(.logClear, 0x63, 2), (.logPolicy, 0x64, 4), (.mode, 0x70, 1), (.reset, 0x71, 1), (.identify, 0x72, 0), (.status, 0x73, 5), (.calAdc, 0x78, 0), (.bist, 0x79, 2), (.characterise, 0x7A, 6), (.updateCommit, 0x7E, 0)]
    ∀ x ∈ rows, (pl.length ≠ x.2.2 ∨ h.objId ≠ 0xFFFF#16) → Runs (x.1 p h pl) s p h pl x.2.1 (fun t _ => (t, stBadParam, []))

/-- A read has no side effect: GET, GETBLK and PEEK, whatever they read and whatever they answer, leave the whole state as it was but for the reply itself and the comparator samples that capture channels have taken up to this moment, and a debug read drives its bytes out and changes nothing else but the error flag of R28 (R15). -/
def Obligations.ReadsHaveNoSideEffects : Prop :=
  ∀ (p : Port) (h : Hdr) (pl : List Byte) (s : State),
    let rows : List ((Port → Hdr → List Byte → Instr) × Nat) := [(.get, 0x10), (.getblk, 0x12), (.peek, 0x18)]
    (∀ x ∈ rows, ∃ st data, Runs (x.1 p h pl) s p h pl x.2 (fun t _ => (t.capSync, st, data))) ∧
    (∀ (a d : Word) (sz : BitVec 2) (b : List Byte), s.power = .running → s.tapInstr = 8 → sz ≠ 3#2 → a.toNat % 2 ^ sz.toNat = 0 → s.busBytes a.toNat (2 ^ sz.toNat) = some b →
      exec (.tapDbgacc a d sz false) s = .next ({ s with busOut := b } : State).after)

/-! ### The interrupt controller's inputs -/

/-- At reset every input of the interrupt controller shows the level of its flag (R435, R436). -/
def Obligations.InputsFollowAtReset : Prop := State.reset.InputsFollow

/-- Every step keeps it: while the block runs, every input of the interrupt controller that follows a flag shows that flag's level, whatever the command was (R435, R436). -/
def Obligations.InputsFollowKept : Prop :=
  ∀ s t : State, (s.power = .running → s.InputsFollow) → step s = .next t → t.power = .running → t.InputsFollow
end

