-- ==== Sys2Proof/Laws/State.lean ====
section
/-!
SUPPORT. What each named update leaves alone, one lemma per field and update, so that no proof unfolds a record update.
-/

set_option Elab.async false

namespace Sys2Proof.Machine.State

/-! ### wr -/

@[simp] theorem wr_power (s : State) (f : Fld) (i n : Nat) : (s.wr f i n).power = s.power := rfl
@[simp] theorem wr_now (s : State) (f : Fld) (i n : Nat) : (s.wr f i n).now = s.now := rfl
@[simp] theorem wr_staged (s : State) (f : Fld) (i n : Nat) : (s.wr f i n).staged = s.staged := rfl
@[simp] theorem wr_pubq (s : State) (f : Fld) (i n : Nat) : (s.wr f i n).pubq = s.pubq := rfl
@[simp] theorem wr_armed (s : State) (f : Fld) (i n : Nat) : (s.wr f i n).armed = s.armed := rfl
@[simp] theorem wr_vars (s : State) (f : Fld) (i n : Nat) : (s.wr f i n).vars = s.vars := rfl
@[simp] theorem wr_mem (s : State) (f : Fld) (i n : Nat) : (s.wr f i n).mem = s.mem := rfl
@[simp] theorem wr_icu (s : State) (f : Fld) (i n : Nat) : (s.wr f i n).icu = s.icu := rfl
@[simp] theorem wr_twa (s : State) (f : Fld) (i n : Nat) : (s.wr f i n).twa = s.twa := rfl
@[simp] theorem wr_twb (s : State) (f : Fld) (i n : Nat) : (s.wr f i n).twb = s.twb := rfl
@[simp] theorem wr_hsp (s : State) (f : Fld) (i n : Nat) : (s.wr f i n).hsp = s.hsp := rfl
@[simp] theorem wr_owner (s : State) (f : Fld) (i n : Nat) : (s.wr f i n).owner = s.owner := rfl
@[simp] theorem wr_draining (s : State) (f : Fld) (i n : Nat) : (s.wr f i n).draining = s.draining := rfl
@[simp] theorem wr_granting (s : State) (f : Fld) (i n : Nat) : (s.wr f i n).granting = s.granting := rfl
@[simp] theorem wr_retuning (s : State) (f : Fld) (i n : Nat) : (s.wr f i n).retuning = s.retuning := rfl
@[simp] theorem wr_finCtr (s : State) (f : Fld) (i n : Nat) : (s.wr f i n).finCtr = s.finCtr := rfl
@[simp] theorem wr_evCode (s : State) (f : Fld) (i n : Nat) : (s.wr f i n).evCode = s.evCode := rfl
@[simp] theorem wr_events (s : State) (f : Fld) (i n : Nat) : (s.wr f i n).events = s.events := rfl
@[simp] theorem wr_ring (s : State) (f : Fld) (i n : Nat) : (s.wr f i n).ring = s.ring := rfl
@[simp] theorem wr_recSeq (s : State) (f : Fld) (i n : Nat) : (s.wr f i n).recSeq = s.recSeq := rfl
@[simp] theorem wr_buckets (s : State) (f : Fld) (i n : Nat) : (s.wr f i n).buckets = s.buckets := rfl
@[simp] theorem wr_recLost (s : State) (f : Fld) (i n : Nat) : (s.wr f i n).recLost = s.recLost := rfl
@[simp] theorem wr_slots (s : State) (f : Fld) (i n : Nat) : (s.wr f i n).slots = s.slots := rfl
@[simp] theorem wr_nvsq (s : State) (f : Fld) (i n : Nat) : (s.wr f i n).nvsq = s.nvsq := rfl
@[simp] theorem wr_nvsRun (s : State) (f : Fld) (i n : Nat) : (s.wr f i n).nvsRun = s.nvsRun := rfl
@[simp] theorem wr_boot (s : State) (f : Fld) (i n : Nat) : (s.wr f i n).boot = s.boot := rfl
@[simp] theorem wr_update (s : State) (f : Fld) (i n : Nat) : (s.wr f i n).update = s.update := rfl
@[simp] theorem wr_facks (s : State) (f : Fld) (i n : Nat) : (s.wr f i n).facks = s.facks := rfl
@[simp] theorem wr_cueOut (s : State) (f : Fld) (i n : Nat) : (s.wr f i n).cueOut = s.cueOut := rfl
@[simp] theorem wr_spectra (s : State) (f : Fld) (i n : Nat) : (s.wr f i n).spectra = s.spectra := rfl
@[simp] theorem wr_railWaits (s : State) (f : Fld) (i n : Nat) : (s.wr f i n).railWaits = s.railWaits := rfl
@[simp] theorem wr_cbHist (s : State) (f : Fld) (i n : Nat) : (s.wr f i n).cbHist = s.cbHist := rfl
@[simp] theorem wr_ident (s : State) (f : Fld) (i n : Nat) : (s.wr f i n).ident = s.ident := rfl
@[simp] theorem wr_identRes (s : State) (f : Fld) (i n : Nat) : (s.wr f i n).identRes = s.identRes := rfl
@[simp] theorem wr_health (s : State) (f : Fld) (i n : Nat) : (s.wr f i n).health = s.health := rfl
@[simp] theorem wr_calSets (s : State) (f : Fld) (i n : Nat) : (s.wr f i n).calSets = s.calSets := rfl
@[simp] theorem wr_csaHist (s : State) (f : Fld) (i n : Nat) : (s.wr f i n).csaHist = s.csaHist := rfl
@[simp] theorem wr_hkaHist (s : State) (f : Fld) (i n : Nat) : (s.wr f i n).hkaHist = s.hkaHist := rfl
@[simp] theorem wr_busOut (s : State) (f : Fld) (i n : Nat) : (s.wr f i n).busOut = s.busOut := rfl
@[simp] theorem wr_freeCtr (s : State) (f : Fld) (i n : Nat) : (s.wr f i n).freeCtr = s.freeCtr := rfl
@[simp] theorem wr_pending (s : State) (f : Fld) (i n : Nat) : (s.wr f i n).pending = s.pending := rfl

/-! ### wrS -/

@[simp] theorem wrS_power (s : State) (f : Fld) (i : Nat) (n : Int) : (s.wrS f i n).power = s.power := rfl
@[simp] theorem wrS_now (s : State) (f : Fld) (i : Nat) (n : Int) : (s.wrS f i n).now = s.now := rfl
@[simp] theorem wrS_staged (s : State) (f : Fld) (i : Nat) (n : Int) : (s.wrS f i n).staged = s.staged := rfl
@[simp] theorem wrS_pubq (s : State) (f : Fld) (i : Nat) (n : Int) : (s.wrS f i n).pubq = s.pubq := rfl
@[simp] theorem wrS_armed (s : State) (f : Fld) (i : Nat) (n : Int) : (s.wrS f i n).armed = s.armed := rfl
@[simp] theorem wrS_vars (s : State) (f : Fld) (i : Nat) (n : Int) : (s.wrS f i n).vars = s.vars := rfl
@[simp] theorem wrS_mem (s : State) (f : Fld) (i : Nat) (n : Int) : (s.wrS f i n).mem = s.mem := rfl
@[simp] theorem wrS_icu (s : State) (f : Fld) (i : Nat) (n : Int) : (s.wrS f i n).icu = s.icu := rfl
@[simp] theorem wrS_twa (s : State) (f : Fld) (i : Nat) (n : Int) : (s.wrS f i n).twa = s.twa := rfl
@[simp] theorem wrS_twb (s : State) (f : Fld) (i : Nat) (n : Int) : (s.wrS f i n).twb = s.twb := rfl
@[simp] theorem wrS_hsp (s : State) (f : Fld) (i : Nat) (n : Int) : (s.wrS f i n).hsp = s.hsp := rfl
@[simp] theorem wrS_owner (s : State) (f : Fld) (i : Nat) (n : Int) : (s.wrS f i n).owner = s.owner := rfl
@[simp] theorem wrS_draining (s : State) (f : Fld) (i : Nat) (n : Int) : (s.wrS f i n).draining = s.draining := rfl
@[simp] theorem wrS_granting (s : State) (f : Fld) (i : Nat) (n : Int) : (s.wrS f i n).granting = s.granting := rfl
@[simp] theorem wrS_retuning (s : State) (f : Fld) (i : Nat) (n : Int) : (s.wrS f i n).retuning = s.retuning := rfl
@[simp] theorem wrS_finCtr (s : State) (f : Fld) (i : Nat) (n : Int) : (s.wrS f i n).finCtr = s.finCtr := rfl
@[simp] theorem wrS_evCode (s : State) (f : Fld) (i : Nat) (n : Int) : (s.wrS f i n).evCode = s.evCode := rfl
@[simp] theorem wrS_events (s : State) (f : Fld) (i : Nat) (n : Int) : (s.wrS f i n).events = s.events := rfl
@[simp] theorem wrS_ring (s : State) (f : Fld) (i : Nat) (n : Int) : (s.wrS f i n).ring = s.ring := rfl
@[simp] theorem wrS_recSeq (s : State) (f : Fld) (i : Nat) (n : Int) : (s.wrS f i n).recSeq = s.recSeq := rfl
@[simp] theorem wrS_buckets (s : State) (f : Fld) (i : Nat) (n : Int) : (s.wrS f i n).buckets = s.buckets := rfl
@[simp] theorem wrS_recLost (s : State) (f : Fld) (i : Nat) (n : Int) : (s.wrS f i n).recLost = s.recLost := rfl
@[simp] theorem wrS_slots (s : State) (f : Fld) (i : Nat) (n : Int) : (s.wrS f i n).slots = s.slots := rfl
@[simp] theorem wrS_nvsq (s : State) (f : Fld) (i : Nat) (n : Int) : (s.wrS f i n).nvsq = s.nvsq := rfl
@[simp] theorem wrS_nvsRun (s : State) (f : Fld) (i : Nat) (n : Int) : (s.wrS f i n).nvsRun = s.nvsRun := rfl
@[simp] theorem wrS_boot (s : State) (f : Fld) (i : Nat) (n : Int) : (s.wrS f i n).boot = s.boot := rfl
@[simp] theorem wrS_update (s : State) (f : Fld) (i : Nat) (n : Int) : (s.wrS f i n).update = s.update := rfl
@[simp] theorem wrS_facks (s : State) (f : Fld) (i : Nat) (n : Int) : (s.wrS f i n).facks = s.facks := rfl
@[simp] theorem wrS_cueOut (s : State) (f : Fld) (i : Nat) (n : Int) : (s.wrS f i n).cueOut = s.cueOut := rfl
@[simp] theorem wrS_spectra (s : State) (f : Fld) (i : Nat) (n : Int) : (s.wrS f i n).spectra = s.spectra := rfl
@[simp] theorem wrS_railWaits (s : State) (f : Fld) (i : Nat) (n : Int) : (s.wrS f i n).railWaits = s.railWaits := rfl
@[simp] theorem wrS_cbHist (s : State) (f : Fld) (i : Nat) (n : Int) : (s.wrS f i n).cbHist = s.cbHist := rfl
@[simp] theorem wrS_ident (s : State) (f : Fld) (i : Nat) (n : Int) : (s.wrS f i n).ident = s.ident := rfl
@[simp] theorem wrS_identRes (s : State) (f : Fld) (i : Nat) (n : Int) : (s.wrS f i n).identRes = s.identRes := rfl
@[simp] theorem wrS_health (s : State) (f : Fld) (i : Nat) (n : Int) : (s.wrS f i n).health = s.health := rfl
@[simp] theorem wrS_calSets (s : State) (f : Fld) (i : Nat) (n : Int) : (s.wrS f i n).calSets = s.calSets := rfl
@[simp] theorem wrS_csaHist (s : State) (f : Fld) (i : Nat) (n : Int) : (s.wrS f i n).csaHist = s.csaHist := rfl
@[simp] theorem wrS_hkaHist (s : State) (f : Fld) (i : Nat) (n : Int) : (s.wrS f i n).hkaHist = s.hkaHist := rfl
@[simp] theorem wrS_busOut (s : State) (f : Fld) (i : Nat) (n : Int) : (s.wrS f i n).busOut = s.busOut := rfl
@[simp] theorem wrS_freeCtr (s : State) (f : Fld) (i : Nat) (n : Int) : (s.wrS f i n).freeCtr = s.freeCtr := rfl
@[simp] theorem wrS_pending (s : State) (f : Fld) (i : Nat) (n : Int) : (s.wrS f i n).pending = s.pending := rfl

/-! ### wrB -/

@[simp] theorem wrB_power (s : State) (f : Fld) (i : Nat) (b : Bool) : (s.wrB f i b).power = s.power := rfl
@[simp] theorem wrB_now (s : State) (f : Fld) (i : Nat) (b : Bool) : (s.wrB f i b).now = s.now := rfl
@[simp] theorem wrB_staged (s : State) (f : Fld) (i : Nat) (b : Bool) : (s.wrB f i b).staged = s.staged := rfl
@[simp] theorem wrB_pubq (s : State) (f : Fld) (i : Nat) (b : Bool) : (s.wrB f i b).pubq = s.pubq := rfl
@[simp] theorem wrB_armed (s : State) (f : Fld) (i : Nat) (b : Bool) : (s.wrB f i b).armed = s.armed := rfl
@[simp] theorem wrB_vars (s : State) (f : Fld) (i : Nat) (b : Bool) : (s.wrB f i b).vars = s.vars := rfl
@[simp] theorem wrB_mem (s : State) (f : Fld) (i : Nat) (b : Bool) : (s.wrB f i b).mem = s.mem := rfl
@[simp] theorem wrB_icu (s : State) (f : Fld) (i : Nat) (b : Bool) : (s.wrB f i b).icu = s.icu := rfl
@[simp] theorem wrB_twa (s : State) (f : Fld) (i : Nat) (b : Bool) : (s.wrB f i b).twa = s.twa := rfl
@[simp] theorem wrB_twb (s : State) (f : Fld) (i : Nat) (b : Bool) : (s.wrB f i b).twb = s.twb := rfl
@[simp] theorem wrB_hsp (s : State) (f : Fld) (i : Nat) (b : Bool) : (s.wrB f i b).hsp = s.hsp := rfl
@[simp] theorem wrB_owner (s : State) (f : Fld) (i : Nat) (b : Bool) : (s.wrB f i b).owner = s.owner := rfl
@[simp] theorem wrB_draining (s : State) (f : Fld) (i : Nat) (b : Bool) : (s.wrB f i b).draining = s.draining := rfl
@[simp] theorem wrB_granting (s : State) (f : Fld) (i : Nat) (b : Bool) : (s.wrB f i b).granting = s.granting := rfl
@[simp] theorem wrB_retuning (s : State) (f : Fld) (i : Nat) (b : Bool) : (s.wrB f i b).retuning = s.retuning := rfl
@[simp] theorem wrB_finCtr (s : State) (f : Fld) (i : Nat) (b : Bool) : (s.wrB f i b).finCtr = s.finCtr := rfl
@[simp] theorem wrB_evCode (s : State) (f : Fld) (i : Nat) (b : Bool) : (s.wrB f i b).evCode = s.evCode := rfl
@[simp] theorem wrB_events (s : State) (f : Fld) (i : Nat) (b : Bool) : (s.wrB f i b).events = s.events := rfl
@[simp] theorem wrB_ring (s : State) (f : Fld) (i : Nat) (b : Bool) : (s.wrB f i b).ring = s.ring := rfl
@[simp] theorem wrB_recSeq (s : State) (f : Fld) (i : Nat) (b : Bool) : (s.wrB f i b).recSeq = s.recSeq := rfl
@[simp] theorem wrB_buckets (s : State) (f : Fld) (i : Nat) (b : Bool) : (s.wrB f i b).buckets = s.buckets := rfl
@[simp] theorem wrB_recLost (s : State) (f : Fld) (i : Nat) (b : Bool) : (s.wrB f i b).recLost = s.recLost := rfl
@[simp] theorem wrB_slots (s : State) (f : Fld) (i : Nat) (b : Bool) : (s.wrB f i b).slots = s.slots := rfl
@[simp] theorem wrB_nvsq (s : State) (f : Fld) (i : Nat) (b : Bool) : (s.wrB f i b).nvsq = s.nvsq := rfl
@[simp] theorem wrB_nvsRun (s : State) (f : Fld) (i : Nat) (b : Bool) : (s.wrB f i b).nvsRun = s.nvsRun := rfl
@[simp] theorem wrB_boot (s : State) (f : Fld) (i : Nat) (b : Bool) : (s.wrB f i b).boot = s.boot := rfl
@[simp] theorem wrB_update (s : State) (f : Fld) (i : Nat) (b : Bool) : (s.wrB f i b).update = s.update := rfl
@[simp] theorem wrB_facks (s : State) (f : Fld) (i : Nat) (b : Bool) : (s.wrB f i b).facks = s.facks := rfl
@[simp] theorem wrB_cueOut (s : State) (f : Fld) (i : Nat) (b : Bool) : (s.wrB f i b).cueOut = s.cueOut := rfl
@[simp] theorem wrB_spectra (s : State) (f : Fld) (i : Nat) (b : Bool) : (s.wrB f i b).spectra = s.spectra := rfl
@[simp] theorem wrB_railWaits (s : State) (f : Fld) (i : Nat) (b : Bool) : (s.wrB f i b).railWaits = s.railWaits := rfl
@[simp] theorem wrB_cbHist (s : State) (f : Fld) (i : Nat) (b : Bool) : (s.wrB f i b).cbHist = s.cbHist := rfl
@[simp] theorem wrB_ident (s : State) (f : Fld) (i : Nat) (b : Bool) : (s.wrB f i b).ident = s.ident := rfl
@[simp] theorem wrB_identRes (s : State) (f : Fld) (i : Nat) (b : Bool) : (s.wrB f i b).identRes = s.identRes := rfl
@[simp] theorem wrB_health (s : State) (f : Fld) (i : Nat) (b : Bool) : (s.wrB f i b).health = s.health := rfl
@[simp] theorem wrB_calSets (s : State) (f : Fld) (i : Nat) (b : Bool) : (s.wrB f i b).calSets = s.calSets := rfl
@[simp] theorem wrB_csaHist (s : State) (f : Fld) (i : Nat) (b : Bool) : (s.wrB f i b).csaHist = s.csaHist := rfl
@[simp] theorem wrB_hkaHist (s : State) (f : Fld) (i : Nat) (b : Bool) : (s.wrB f i b).hkaHist = s.hkaHist := rfl
@[simp] theorem wrB_busOut (s : State) (f : Fld) (i : Nat) (b : Bool) : (s.wrB f i b).busOut = s.busOut := rfl
@[simp] theorem wrB_freeCtr (s : State) (f : Fld) (i : Nat) (b : Bool) : (s.wrB f i b).freeCtr = s.freeCtr := rfl
@[simp] theorem wrB_pending (s : State) (f : Fld) (i : Nat) (b : Bool) : (s.wrB f i b).pending = s.pending := rfl

/-! ### bump -/

@[simp] theorem bump_power (s : State) (f : Fld) (i n : Nat) : (s.bump f i n).power = s.power := rfl
@[simp] theorem bump_now (s : State) (f : Fld) (i n : Nat) : (s.bump f i n).now = s.now := rfl
@[simp] theorem bump_staged (s : State) (f : Fld) (i n : Nat) : (s.bump f i n).staged = s.staged := rfl
@[simp] theorem bump_pubq (s : State) (f : Fld) (i n : Nat) : (s.bump f i n).pubq = s.pubq := rfl
@[simp] theorem bump_armed (s : State) (f : Fld) (i n : Nat) : (s.bump f i n).armed = s.armed := rfl
@[simp] theorem bump_vars (s : State) (f : Fld) (i n : Nat) : (s.bump f i n).vars = s.vars := rfl
@[simp] theorem bump_mem (s : State) (f : Fld) (i n : Nat) : (s.bump f i n).mem = s.mem := rfl
@[simp] theorem bump_icu (s : State) (f : Fld) (i n : Nat) : (s.bump f i n).icu = s.icu := rfl
@[simp] theorem bump_twa (s : State) (f : Fld) (i n : Nat) : (s.bump f i n).twa = s.twa := rfl
@[simp] theorem bump_twb (s : State) (f : Fld) (i n : Nat) : (s.bump f i n).twb = s.twb := rfl
@[simp] theorem bump_hsp (s : State) (f : Fld) (i n : Nat) : (s.bump f i n).hsp = s.hsp := rfl
@[simp] theorem bump_owner (s : State) (f : Fld) (i n : Nat) : (s.bump f i n).owner = s.owner := rfl
@[simp] theorem bump_draining (s : State) (f : Fld) (i n : Nat) : (s.bump f i n).draining = s.draining := rfl
@[simp] theorem bump_granting (s : State) (f : Fld) (i n : Nat) : (s.bump f i n).granting = s.granting := rfl
@[simp] theorem bump_retuning (s : State) (f : Fld) (i n : Nat) : (s.bump f i n).retuning = s.retuning := rfl
@[simp] theorem bump_finCtr (s : State) (f : Fld) (i n : Nat) : (s.bump f i n).finCtr = s.finCtr := rfl
@[simp] theorem bump_evCode (s : State) (f : Fld) (i n : Nat) : (s.bump f i n).evCode = s.evCode := rfl
@[simp] theorem bump_events (s : State) (f : Fld) (i n : Nat) : (s.bump f i n).events = s.events := rfl
@[simp] theorem bump_ring (s : State) (f : Fld) (i n : Nat) : (s.bump f i n).ring = s.ring := rfl
@[simp] theorem bump_recSeq (s : State) (f : Fld) (i n : Nat) : (s.bump f i n).recSeq = s.recSeq := rfl
@[simp] theorem bump_buckets (s : State) (f : Fld) (i n : Nat) : (s.bump f i n).buckets = s.buckets := rfl
@[simp] theorem bump_recLost (s : State) (f : Fld) (i n : Nat) : (s.bump f i n).recLost = s.recLost := rfl
@[simp] theorem bump_slots (s : State) (f : Fld) (i n : Nat) : (s.bump f i n).slots = s.slots := rfl
@[simp] theorem bump_nvsq (s : State) (f : Fld) (i n : Nat) : (s.bump f i n).nvsq = s.nvsq := rfl
@[simp] theorem bump_nvsRun (s : State) (f : Fld) (i n : Nat) : (s.bump f i n).nvsRun = s.nvsRun := rfl
@[simp] theorem bump_boot (s : State) (f : Fld) (i n : Nat) : (s.bump f i n).boot = s.boot := rfl
@[simp] theorem bump_update (s : State) (f : Fld) (i n : Nat) : (s.bump f i n).update = s.update := rfl
@[simp] theorem bump_facks (s : State) (f : Fld) (i n : Nat) : (s.bump f i n).facks = s.facks := rfl
@[simp] theorem bump_cueOut (s : State) (f : Fld) (i n : Nat) : (s.bump f i n).cueOut = s.cueOut := rfl
@[simp] theorem bump_spectra (s : State) (f : Fld) (i n : Nat) : (s.bump f i n).spectra = s.spectra := rfl
@[simp] theorem bump_railWaits (s : State) (f : Fld) (i n : Nat) : (s.bump f i n).railWaits = s.railWaits := rfl
@[simp] theorem bump_cbHist (s : State) (f : Fld) (i n : Nat) : (s.bump f i n).cbHist = s.cbHist := rfl
@[simp] theorem bump_ident (s : State) (f : Fld) (i n : Nat) : (s.bump f i n).ident = s.ident := rfl
@[simp] theorem bump_identRes (s : State) (f : Fld) (i n : Nat) : (s.bump f i n).identRes = s.identRes := rfl
@[simp] theorem bump_health (s : State) (f : Fld) (i n : Nat) : (s.bump f i n).health = s.health := rfl
@[simp] theorem bump_calSets (s : State) (f : Fld) (i n : Nat) : (s.bump f i n).calSets = s.calSets := rfl
@[simp] theorem bump_csaHist (s : State) (f : Fld) (i n : Nat) : (s.bump f i n).csaHist = s.csaHist := rfl
@[simp] theorem bump_hkaHist (s : State) (f : Fld) (i n : Nat) : (s.bump f i n).hkaHist = s.hkaHist := rfl
@[simp] theorem bump_busOut (s : State) (f : Fld) (i n : Nat) : (s.bump f i n).busOut = s.busOut := rfl
@[simp] theorem bump_freeCtr (s : State) (f : Fld) (i n : Nat) : (s.bump f i n).freeCtr = s.freeCtr := rfl
@[simp] theorem bump_pending (s : State) (f : Fld) (i n : Nat) : (s.bump f i n).pending = s.pending := rfl

/-! ### stage -/

@[simp] theorem stage_power (s : State) (f : Fld) (i n : Nat) : (s.stage f i n).power = s.power := rfl
@[simp] theorem stage_now (s : State) (f : Fld) (i n : Nat) : (s.stage f i n).now = s.now := rfl
@[simp] theorem stage_regs (s : State) (f : Fld) (i n : Nat) : (s.stage f i n).regs = s.regs := rfl
@[simp] theorem stage_pubq (s : State) (f : Fld) (i n : Nat) : (s.stage f i n).pubq = s.pubq := rfl
@[simp] theorem stage_armed (s : State) (f : Fld) (i n : Nat) : (s.stage f i n).armed = s.armed := rfl
@[simp] theorem stage_vars (s : State) (f : Fld) (i n : Nat) : (s.stage f i n).vars = s.vars := rfl
@[simp] theorem stage_mem (s : State) (f : Fld) (i n : Nat) : (s.stage f i n).mem = s.mem := rfl
@[simp] theorem stage_icu (s : State) (f : Fld) (i n : Nat) : (s.stage f i n).icu = s.icu := rfl
@[simp] theorem stage_twa (s : State) (f : Fld) (i n : Nat) : (s.stage f i n).twa = s.twa := rfl
@[simp] theorem stage_twb (s : State) (f : Fld) (i n : Nat) : (s.stage f i n).twb = s.twb := rfl
@[simp] theorem stage_hsp (s : State) (f : Fld) (i n : Nat) : (s.stage f i n).hsp = s.hsp := rfl
@[simp] theorem stage_owner (s : State) (f : Fld) (i n : Nat) : (s.stage f i n).owner = s.owner := rfl
@[simp] theorem stage_draining (s : State) (f : Fld) (i n : Nat) : (s.stage f i n).draining = s.draining := rfl
@[simp] theorem stage_granting (s : State) (f : Fld) (i n : Nat) : (s.stage f i n).granting = s.granting := rfl
@[simp] theorem stage_retuning (s : State) (f : Fld) (i n : Nat) : (s.stage f i n).retuning = s.retuning := rfl
@[simp] theorem stage_finCtr (s : State) (f : Fld) (i n : Nat) : (s.stage f i n).finCtr = s.finCtr := rfl
@[simp] theorem stage_evCode (s : State) (f : Fld) (i n : Nat) : (s.stage f i n).evCode = s.evCode := rfl
@[simp] theorem stage_events (s : State) (f : Fld) (i n : Nat) : (s.stage f i n).events = s.events := rfl
@[simp] theorem stage_ring (s : State) (f : Fld) (i n : Nat) : (s.stage f i n).ring = s.ring := rfl
@[simp] theorem stage_recSeq (s : State) (f : Fld) (i n : Nat) : (s.stage f i n).recSeq = s.recSeq := rfl
@[simp] theorem stage_buckets (s : State) (f : Fld) (i n : Nat) : (s.stage f i n).buckets = s.buckets := rfl
@[simp] theorem stage_recLost (s : State) (f : Fld) (i n : Nat) : (s.stage f i n).recLost = s.recLost := rfl
@[simp] theorem stage_slots (s : State) (f : Fld) (i n : Nat) : (s.stage f i n).slots = s.slots := rfl
@[simp] theorem stage_nvsq (s : State) (f : Fld) (i n : Nat) : (s.stage f i n).nvsq = s.nvsq := rfl
@[simp] theorem stage_nvsRun (s : State) (f : Fld) (i n : Nat) : (s.stage f i n).nvsRun = s.nvsRun := rfl
@[simp] theorem stage_boot (s : State) (f : Fld) (i n : Nat) : (s.stage f i n).boot = s.boot := rfl
@[simp] theorem stage_update (s : State) (f : Fld) (i n : Nat) : (s.stage f i n).update = s.update := rfl
@[simp] theorem stage_facks (s : State) (f : Fld) (i n : Nat) : (s.stage f i n).facks = s.facks := rfl
@[simp] theorem stage_cueOut (s : State) (f : Fld) (i n : Nat) : (s.stage f i n).cueOut = s.cueOut := rfl
@[simp] theorem stage_spectra (s : State) (f : Fld) (i n : Nat) : (s.stage f i n).spectra = s.spectra := rfl
@[simp] theorem stage_railWaits (s : State) (f : Fld) (i n : Nat) : (s.stage f i n).railWaits = s.railWaits := rfl
@[simp] theorem stage_cbHist (s : State) (f : Fld) (i n : Nat) : (s.stage f i n).cbHist = s.cbHist := rfl
@[simp] theorem stage_ident (s : State) (f : Fld) (i n : Nat) : (s.stage f i n).ident = s.ident := rfl
@[simp] theorem stage_identRes (s : State) (f : Fld) (i n : Nat) : (s.stage f i n).identRes = s.identRes := rfl
@[simp] theorem stage_health (s : State) (f : Fld) (i n : Nat) : (s.stage f i n).health = s.health := rfl
@[simp] theorem stage_calSets (s : State) (f : Fld) (i n : Nat) : (s.stage f i n).calSets = s.calSets := rfl
@[simp] theorem stage_csaHist (s : State) (f : Fld) (i n : Nat) : (s.stage f i n).csaHist = s.csaHist := rfl
@[simp] theorem stage_hkaHist (s : State) (f : Fld) (i n : Nat) : (s.stage f i n).hkaHist = s.hkaHist := rfl
@[simp] theorem stage_busOut (s : State) (f : Fld) (i n : Nat) : (s.stage f i n).busOut = s.busOut := rfl
@[simp] theorem stage_freeCtr (s : State) (f : Fld) (i n : Nat) : (s.stage f i n).freeCtr = s.freeCtr := rfl
@[simp] theorem stage_pending (s : State) (f : Fld) (i n : Nat) : (s.stage f i n).pending = s.pending := rfl

/-! ### setV -/

@[simp] theorem setV_power (s : State) (x : Var) (i : Nat) (n : Int) : (s.setV x i n).power = s.power := rfl
@[simp] theorem setV_now (s : State) (x : Var) (i : Nat) (n : Int) : (s.setV x i n).now = s.now := rfl
@[simp] theorem setV_regs (s : State) (x : Var) (i : Nat) (n : Int) : (s.setV x i n).regs = s.regs := rfl
@[simp] theorem setV_staged (s : State) (x : Var) (i : Nat) (n : Int) : (s.setV x i n).staged = s.staged := rfl
@[simp] theorem setV_pubq (s : State) (x : Var) (i : Nat) (n : Int) : (s.setV x i n).pubq = s.pubq := rfl
@[simp] theorem setV_armed (s : State) (x : Var) (i : Nat) (n : Int) : (s.setV x i n).armed = s.armed := rfl
@[simp] theorem setV_mem (s : State) (x : Var) (i : Nat) (n : Int) : (s.setV x i n).mem = s.mem := rfl
@[simp] theorem setV_icu (s : State) (x : Var) (i : Nat) (n : Int) : (s.setV x i n).icu = s.icu := rfl
@[simp] theorem setV_twa (s : State) (x : Var) (i : Nat) (n : Int) : (s.setV x i n).twa = s.twa := rfl
@[simp] theorem setV_twb (s : State) (x : Var) (i : Nat) (n : Int) : (s.setV x i n).twb = s.twb := rfl
@[simp] theorem setV_hsp (s : State) (x : Var) (i : Nat) (n : Int) : (s.setV x i n).hsp = s.hsp := rfl
@[simp] theorem setV_owner (s : State) (x : Var) (i : Nat) (n : Int) : (s.setV x i n).owner = s.owner := rfl
@[simp] theorem setV_draining (s : State) (x : Var) (i : Nat) (n : Int) : (s.setV x i n).draining = s.draining := rfl
@[simp] theorem setV_granting (s : State) (x : Var) (i : Nat) (n : Int) : (s.setV x i n).granting = s.granting := rfl
@[simp] theorem setV_retuning (s : State) (x : Var) (i : Nat) (n : Int) : (s.setV x i n).retuning = s.retuning := rfl
@[simp] theorem setV_finCtr (s : State) (x : Var) (i : Nat) (n : Int) : (s.setV x i n).finCtr = s.finCtr := rfl
@[simp] theorem setV_evCode (s : State) (x : Var) (i : Nat) (n : Int) : (s.setV x i n).evCode = s.evCode := rfl
@[simp] theorem setV_events (s : State) (x : Var) (i : Nat) (n : Int) : (s.setV x i n).events = s.events := rfl
@[simp] theorem setV_ring (s : State) (x : Var) (i : Nat) (n : Int) : (s.setV x i n).ring = s.ring := rfl
@[simp] theorem setV_recSeq (s : State) (x : Var) (i : Nat) (n : Int) : (s.setV x i n).recSeq = s.recSeq := rfl
@[simp] theorem setV_buckets (s : State) (x : Var) (i : Nat) (n : Int) : (s.setV x i n).buckets = s.buckets := rfl
@[simp] theorem setV_recLost (s : State) (x : Var) (i : Nat) (n : Int) : (s.setV x i n).recLost = s.recLost := rfl
@[simp] theorem setV_slots (s : State) (x : Var) (i : Nat) (n : Int) : (s.setV x i n).slots = s.slots := rfl
@[simp] theorem setV_nvsq (s : State) (x : Var) (i : Nat) (n : Int) : (s.setV x i n).nvsq = s.nvsq := rfl
@[simp] theorem setV_nvsRun (s : State) (x : Var) (i : Nat) (n : Int) : (s.setV x i n).nvsRun = s.nvsRun := rfl
@[simp] theorem setV_boot (s : State) (x : Var) (i : Nat) (n : Int) : (s.setV x i n).boot = s.boot := rfl
@[simp] theorem setV_update (s : State) (x : Var) (i : Nat) (n : Int) : (s.setV x i n).update = s.update := rfl
@[simp] theorem setV_facks (s : State) (x : Var) (i : Nat) (n : Int) : (s.setV x i n).facks = s.facks := rfl
@[simp] theorem setV_cueOut (s : State) (x : Var) (i : Nat) (n : Int) : (s.setV x i n).cueOut = s.cueOut := rfl
@[simp] theorem setV_spectra (s : State) (x : Var) (i : Nat) (n : Int) : (s.setV x i n).spectra = s.spectra := rfl
@[simp] theorem setV_railWaits (s : State) (x : Var) (i : Nat) (n : Int) : (s.setV x i n).railWaits = s.railWaits := rfl
@[simp] theorem setV_cbHist (s : State) (x : Var) (i : Nat) (n : Int) : (s.setV x i n).cbHist = s.cbHist := rfl
@[simp] theorem setV_ident (s : State) (x : Var) (i : Nat) (n : Int) : (s.setV x i n).ident = s.ident := rfl
@[simp] theorem setV_identRes (s : State) (x : Var) (i : Nat) (n : Int) : (s.setV x i n).identRes = s.identRes := rfl
@[simp] theorem setV_health (s : State) (x : Var) (i : Nat) (n : Int) : (s.setV x i n).health = s.health := rfl
@[simp] theorem setV_calSets (s : State) (x : Var) (i : Nat) (n : Int) : (s.setV x i n).calSets = s.calSets := rfl
@[simp] theorem setV_csaHist (s : State) (x : Var) (i : Nat) (n : Int) : (s.setV x i n).csaHist = s.csaHist := rfl
@[simp] theorem setV_hkaHist (s : State) (x : Var) (i : Nat) (n : Int) : (s.setV x i n).hkaHist = s.hkaHist := rfl
@[simp] theorem setV_busOut (s : State) (x : Var) (i : Nat) (n : Int) : (s.setV x i n).busOut = s.busOut := rfl
@[simp] theorem setV_freeCtr (s : State) (x : Var) (i : Nat) (n : Int) : (s.setV x i n).freeCtr = s.freeCtr := rfl
@[simp] theorem setV_pending (s : State) (x : Var) (i : Nat) (n : Int) : (s.setV x i n).pending = s.pending := rfl

/-! ### setOn -/

@[simp] theorem setOn_power (s : State) (x : Var) (i : Nat) (b : Bool) : (s.setOn x i b).power = s.power := rfl
@[simp] theorem setOn_now (s : State) (x : Var) (i : Nat) (b : Bool) : (s.setOn x i b).now = s.now := rfl
@[simp] theorem setOn_regs (s : State) (x : Var) (i : Nat) (b : Bool) : (s.setOn x i b).regs = s.regs := rfl
@[simp] theorem setOn_staged (s : State) (x : Var) (i : Nat) (b : Bool) : (s.setOn x i b).staged = s.staged := rfl
@[simp] theorem setOn_pubq (s : State) (x : Var) (i : Nat) (b : Bool) : (s.setOn x i b).pubq = s.pubq := rfl
@[simp] theorem setOn_armed (s : State) (x : Var) (i : Nat) (b : Bool) : (s.setOn x i b).armed = s.armed := rfl
@[simp] theorem setOn_mem (s : State) (x : Var) (i : Nat) (b : Bool) : (s.setOn x i b).mem = s.mem := rfl
@[simp] theorem setOn_icu (s : State) (x : Var) (i : Nat) (b : Bool) : (s.setOn x i b).icu = s.icu := rfl
@[simp] theorem setOn_twa (s : State) (x : Var) (i : Nat) (b : Bool) : (s.setOn x i b).twa = s.twa := rfl
@[simp] theorem setOn_twb (s : State) (x : Var) (i : Nat) (b : Bool) : (s.setOn x i b).twb = s.twb := rfl
@[simp] theorem setOn_hsp (s : State) (x : Var) (i : Nat) (b : Bool) : (s.setOn x i b).hsp = s.hsp := rfl
@[simp] theorem setOn_owner (s : State) (x : Var) (i : Nat) (b : Bool) : (s.setOn x i b).owner = s.owner := rfl
@[simp] theorem setOn_draining (s : State) (x : Var) (i : Nat) (b : Bool) : (s.setOn x i b).draining = s.draining := rfl
@[simp] theorem setOn_granting (s : State) (x : Var) (i : Nat) (b : Bool) : (s.setOn x i b).granting = s.granting := rfl
@[simp] theorem setOn_retuning (s : State) (x : Var) (i : Nat) (b : Bool) : (s.setOn x i b).retuning = s.retuning := rfl
@[simp] theorem setOn_finCtr (s : State) (x : Var) (i : Nat) (b : Bool) : (s.setOn x i b).finCtr = s.finCtr := rfl
@[simp] theorem setOn_evCode (s : State) (x : Var) (i : Nat) (b : Bool) : (s.setOn x i b).evCode = s.evCode := rfl
@[simp] theorem setOn_events (s : State) (x : Var) (i : Nat) (b : Bool) : (s.setOn x i b).events = s.events := rfl
@[simp] theorem setOn_ring (s : State) (x : Var) (i : Nat) (b : Bool) : (s.setOn x i b).ring = s.ring := rfl
@[simp] theorem setOn_recSeq (s : State) (x : Var) (i : Nat) (b : Bool) : (s.setOn x i b).recSeq = s.recSeq := rfl
@[simp] theorem setOn_buckets (s : State) (x : Var) (i : Nat) (b : Bool) : (s.setOn x i b).buckets = s.buckets := rfl
@[simp] theorem setOn_recLost (s : State) (x : Var) (i : Nat) (b : Bool) : (s.setOn x i b).recLost = s.recLost := rfl
@[simp] theorem setOn_slots (s : State) (x : Var) (i : Nat) (b : Bool) : (s.setOn x i b).slots = s.slots := rfl
@[simp] theorem setOn_nvsq (s : State) (x : Var) (i : Nat) (b : Bool) : (s.setOn x i b).nvsq = s.nvsq := rfl
@[simp] theorem setOn_nvsRun (s : State) (x : Var) (i : Nat) (b : Bool) : (s.setOn x i b).nvsRun = s.nvsRun := rfl
@[simp] theorem setOn_boot (s : State) (x : Var) (i : Nat) (b : Bool) : (s.setOn x i b).boot = s.boot := rfl
@[simp] theorem setOn_update (s : State) (x : Var) (i : Nat) (b : Bool) : (s.setOn x i b).update = s.update := rfl
@[simp] theorem setOn_facks (s : State) (x : Var) (i : Nat) (b : Bool) : (s.setOn x i b).facks = s.facks := rfl
@[simp] theorem setOn_cueOut (s : State) (x : Var) (i : Nat) (b : Bool) : (s.setOn x i b).cueOut = s.cueOut := rfl
@[simp] theorem setOn_spectra (s : State) (x : Var) (i : Nat) (b : Bool) : (s.setOn x i b).spectra = s.spectra := rfl
@[simp] theorem setOn_railWaits (s : State) (x : Var) (i : Nat) (b : Bool) : (s.setOn x i b).railWaits = s.railWaits := rfl
@[simp] theorem setOn_cbHist (s : State) (x : Var) (i : Nat) (b : Bool) : (s.setOn x i b).cbHist = s.cbHist := rfl
@[simp] theorem setOn_ident (s : State) (x : Var) (i : Nat) (b : Bool) : (s.setOn x i b).ident = s.ident := rfl
@[simp] theorem setOn_identRes (s : State) (x : Var) (i : Nat) (b : Bool) : (s.setOn x i b).identRes = s.identRes := rfl
@[simp] theorem setOn_health (s : State) (x : Var) (i : Nat) (b : Bool) : (s.setOn x i b).health = s.health := rfl
@[simp] theorem setOn_calSets (s : State) (x : Var) (i : Nat) (b : Bool) : (s.setOn x i b).calSets = s.calSets := rfl
@[simp] theorem setOn_csaHist (s : State) (x : Var) (i : Nat) (b : Bool) : (s.setOn x i b).csaHist = s.csaHist := rfl
@[simp] theorem setOn_hkaHist (s : State) (x : Var) (i : Nat) (b : Bool) : (s.setOn x i b).hkaHist = s.hkaHist := rfl
@[simp] theorem setOn_busOut (s : State) (x : Var) (i : Nat) (b : Bool) : (s.setOn x i b).busOut = s.busOut := rfl
@[simp] theorem setOn_freeCtr (s : State) (x : Var) (i : Nat) (b : Bool) : (s.setOn x i b).freeCtr = s.freeCtr := rfl
@[simp] theorem setOn_pending (s : State) (x : Var) (i : Nat) (b : Bool) : (s.setOn x i b).pending = s.pending := rfl

/-! ### putByte -/

@[simp] theorem putByte_power (s : State) (a : Nat) (b : Byte) : (s.putByte a b).power = s.power := rfl
@[simp] theorem putByte_now (s : State) (a : Nat) (b : Byte) : (s.putByte a b).now = s.now := rfl
@[simp] theorem putByte_regs (s : State) (a : Nat) (b : Byte) : (s.putByte a b).regs = s.regs := rfl
@[simp] theorem putByte_staged (s : State) (a : Nat) (b : Byte) : (s.putByte a b).staged = s.staged := rfl
@[simp] theorem putByte_pubq (s : State) (a : Nat) (b : Byte) : (s.putByte a b).pubq = s.pubq := rfl
@[simp] theorem putByte_armed (s : State) (a : Nat) (b : Byte) : (s.putByte a b).armed = s.armed := rfl
@[simp] theorem putByte_vars (s : State) (a : Nat) (b : Byte) : (s.putByte a b).vars = s.vars := rfl
@[simp] theorem putByte_icu (s : State) (a : Nat) (b : Byte) : (s.putByte a b).icu = s.icu := rfl
@[simp] theorem putByte_twa (s : State) (a : Nat) (b : Byte) : (s.putByte a b).twa = s.twa := rfl
@[simp] theorem putByte_twb (s : State) (a : Nat) (b : Byte) : (s.putByte a b).twb = s.twb := rfl
@[simp] theorem putByte_hsp (s : State) (a : Nat) (b : Byte) : (s.putByte a b).hsp = s.hsp := rfl
@[simp] theorem putByte_owner (s : State) (a : Nat) (b : Byte) : (s.putByte a b).owner = s.owner := rfl
@[simp] theorem putByte_draining (s : State) (a : Nat) (b : Byte) : (s.putByte a b).draining = s.draining := rfl
@[simp] theorem putByte_granting (s : State) (a : Nat) (b : Byte) : (s.putByte a b).granting = s.granting := rfl
@[simp] theorem putByte_retuning (s : State) (a : Nat) (b : Byte) : (s.putByte a b).retuning = s.retuning := rfl
@[simp] theorem putByte_finCtr (s : State) (a : Nat) (b : Byte) : (s.putByte a b).finCtr = s.finCtr := rfl
@[simp] theorem putByte_evCode (s : State) (a : Nat) (b : Byte) : (s.putByte a b).evCode = s.evCode := rfl
@[simp] theorem putByte_events (s : State) (a : Nat) (b : Byte) : (s.putByte a b).events = s.events := rfl
@[simp] theorem putByte_ring (s : State) (a : Nat) (b : Byte) : (s.putByte a b).ring = s.ring := rfl
@[simp] theorem putByte_recSeq (s : State) (a : Nat) (b : Byte) : (s.putByte a b).recSeq = s.recSeq := rfl
@[simp] theorem putByte_buckets (s : State) (a : Nat) (b : Byte) : (s.putByte a b).buckets = s.buckets := rfl
@[simp] theorem putByte_recLost (s : State) (a : Nat) (b : Byte) : (s.putByte a b).recLost = s.recLost := rfl
@[simp] theorem putByte_slots (s : State) (a : Nat) (b : Byte) : (s.putByte a b).slots = s.slots := rfl
@[simp] theorem putByte_nvsq (s : State) (a : Nat) (b : Byte) : (s.putByte a b).nvsq = s.nvsq := rfl
@[simp] theorem putByte_nvsRun (s : State) (a : Nat) (b : Byte) : (s.putByte a b).nvsRun = s.nvsRun := rfl
@[simp] theorem putByte_boot (s : State) (a : Nat) (b : Byte) : (s.putByte a b).boot = s.boot := rfl
@[simp] theorem putByte_update (s : State) (a : Nat) (b : Byte) : (s.putByte a b).update = s.update := rfl
@[simp] theorem putByte_facks (s : State) (a : Nat) (b : Byte) : (s.putByte a b).facks = s.facks := rfl
@[simp] theorem putByte_cueOut (s : State) (a : Nat) (b : Byte) : (s.putByte a b).cueOut = s.cueOut := rfl
@[simp] theorem putByte_spectra (s : State) (a : Nat) (b : Byte) : (s.putByte a b).spectra = s.spectra := rfl
@[simp] theorem putByte_railWaits (s : State) (a : Nat) (b : Byte) : (s.putByte a b).railWaits = s.railWaits := rfl
@[simp] theorem putByte_cbHist (s : State) (a : Nat) (b : Byte) : (s.putByte a b).cbHist = s.cbHist := rfl
@[simp] theorem putByte_ident (s : State) (a : Nat) (b : Byte) : (s.putByte a b).ident = s.ident := rfl
@[simp] theorem putByte_identRes (s : State) (a : Nat) (b : Byte) : (s.putByte a b).identRes = s.identRes := rfl
@[simp] theorem putByte_health (s : State) (a : Nat) (b : Byte) : (s.putByte a b).health = s.health := rfl
@[simp] theorem putByte_calSets (s : State) (a : Nat) (b : Byte) : (s.putByte a b).calSets = s.calSets := rfl
@[simp] theorem putByte_csaHist (s : State) (a : Nat) (b : Byte) : (s.putByte a b).csaHist = s.csaHist := rfl
@[simp] theorem putByte_hkaHist (s : State) (a : Nat) (b : Byte) : (s.putByte a b).hkaHist = s.hkaHist := rfl
@[simp] theorem putByte_busOut (s : State) (a : Nat) (b : Byte) : (s.putByte a b).busOut = s.busOut := rfl
@[simp] theorem putByte_freeCtr (s : State) (a : Nat) (b : Byte) : (s.putByte a b).freeCtr = s.freeCtr := rfl
@[simp] theorem putByte_pending (s : State) (a : Nat) (b : Byte) : (s.putByte a b).pending = s.pending := rfl

/-! ### upTo -/

@[simp] theorem upTo_power (s : State) (t : Nat) : (s.upTo t).power = s.power := rfl
@[simp] theorem upTo_regs (s : State) (t : Nat) : (s.upTo t).regs = s.regs := rfl
@[simp] theorem upTo_staged (s : State) (t : Nat) : (s.upTo t).staged = s.staged := rfl
@[simp] theorem upTo_pubq (s : State) (t : Nat) : (s.upTo t).pubq = s.pubq := rfl
@[simp] theorem upTo_armed (s : State) (t : Nat) : (s.upTo t).armed = s.armed := rfl
@[simp] theorem upTo_vars (s : State) (t : Nat) : (s.upTo t).vars = s.vars := rfl
@[simp] theorem upTo_mem (s : State) (t : Nat) : (s.upTo t).mem = s.mem := rfl
@[simp] theorem upTo_icu (s : State) (t : Nat) : (s.upTo t).icu = s.icu := rfl
@[simp] theorem upTo_twa (s : State) (t : Nat) : (s.upTo t).twa = s.twa := rfl
@[simp] theorem upTo_twb (s : State) (t : Nat) : (s.upTo t).twb = s.twb := rfl
@[simp] theorem upTo_hsp (s : State) (t : Nat) : (s.upTo t).hsp = s.hsp := rfl
@[simp] theorem upTo_owner (s : State) (t : Nat) : (s.upTo t).owner = s.owner := rfl
@[simp] theorem upTo_draining (s : State) (t : Nat) : (s.upTo t).draining = s.draining := rfl
@[simp] theorem upTo_granting (s : State) (t : Nat) : (s.upTo t).granting = s.granting := rfl
@[simp] theorem upTo_retuning (s : State) (t : Nat) : (s.upTo t).retuning = s.retuning := rfl
@[simp] theorem upTo_finCtr (s : State) (t : Nat) : (s.upTo t).finCtr = s.finCtr := rfl
@[simp] theorem upTo_evCode (s : State) (t : Nat) : (s.upTo t).evCode = s.evCode := rfl
@[simp] theorem upTo_events (s : State) (t : Nat) : (s.upTo t).events = s.events := rfl
@[simp] theorem upTo_ring (s : State) (t : Nat) : (s.upTo t).ring = s.ring := rfl
@[simp] theorem upTo_recSeq (s : State) (t : Nat) : (s.upTo t).recSeq = s.recSeq := rfl
@[simp] theorem upTo_buckets (s : State) (t : Nat) : (s.upTo t).buckets = s.buckets := rfl
@[simp] theorem upTo_recLost (s : State) (t : Nat) : (s.upTo t).recLost = s.recLost := rfl
@[simp] theorem upTo_slots (s : State) (t : Nat) : (s.upTo t).slots = s.slots := rfl
@[simp] theorem upTo_nvsq (s : State) (t : Nat) : (s.upTo t).nvsq = s.nvsq := rfl
@[simp] theorem upTo_nvsRun (s : State) (t : Nat) : (s.upTo t).nvsRun = s.nvsRun := rfl
@[simp] theorem upTo_boot (s : State) (t : Nat) : (s.upTo t).boot = s.boot := rfl
@[simp] theorem upTo_update (s : State) (t : Nat) : (s.upTo t).update = s.update := rfl
@[simp] theorem upTo_facks (s : State) (t : Nat) : (s.upTo t).facks = s.facks := rfl
@[simp] theorem upTo_cueOut (s : State) (t : Nat) : (s.upTo t).cueOut = s.cueOut := rfl
@[simp] theorem upTo_spectra (s : State) (t : Nat) : (s.upTo t).spectra = s.spectra := rfl
@[simp] theorem upTo_railWaits (s : State) (t : Nat) : (s.upTo t).railWaits = s.railWaits := rfl
@[simp] theorem upTo_cbHist (s : State) (t : Nat) : (s.upTo t).cbHist = s.cbHist := rfl
@[simp] theorem upTo_ident (s : State) (t : Nat) : (s.upTo t).ident = s.ident := rfl
@[simp] theorem upTo_identRes (s : State) (t : Nat) : (s.upTo t).identRes = s.identRes := rfl
@[simp] theorem upTo_health (s : State) (t : Nat) : (s.upTo t).health = s.health := rfl
@[simp] theorem upTo_calSets (s : State) (t : Nat) : (s.upTo t).calSets = s.calSets := rfl
@[simp] theorem upTo_csaHist (s : State) (t : Nat) : (s.upTo t).csaHist = s.csaHist := rfl
@[simp] theorem upTo_hkaHist (s : State) (t : Nat) : (s.upTo t).hkaHist = s.hkaHist := rfl
@[simp] theorem upTo_busOut (s : State) (t : Nat) : (s.upTo t).busOut = s.busOut := rfl
@[simp] theorem upTo_freeCtr (s : State) (t : Nat) : (s.upTo t).freeCtr = s.freeCtr := rfl
@[simp] theorem upTo_pending (s : State) (t : Nat) : (s.upTo t).pending = s.pending := rfl

end Sys2Proof.Machine.State
end

