-- ==== Sys2Proof/Laws/Store.lean ====
section
/-!
SUPPORT. The keyed stores: what a read finds after a write, and that every write keeps the canonical form (keys strictly rising).
-/

set_option Elab.async false

namespace Sys2Proof.Machine

@[simp] theorem kvFind_kvPut_same {α : Type} (k : Nat) (x : α) (l : List (Nat × α)) : kvFind k (kvPut k x l) = some x := by
  induction l with
  | nil => simp [kvPut, kvFind]
  | cons a l ih =>
    by_cases h1 : a.1 < k
    · simp [kvPut, kvFind, h1, ih, Nat.ne_of_lt h1]
    · by_cases h2 : a.1 = k <;> simp [kvPut, kvFind, h1, h2]

theorem kvFind_kvPut_ne {α : Type} {k m : Nat} (x : α) (h : k ≠ m) (l : List (Nat × α)) : kvFind m (kvPut k x l) = kvFind m l := by
  induction l with
  | nil => simp [kvPut, kvFind, h]
  | cons a l ih =>
    by_cases h1 : a.1 < k
    · simp [kvPut, kvFind, h1, ih]
    · by_cases h2 : a.1 = k
      · simp [kvPut, kvFind, h2, h]
      · simp [kvPut, kvFind, h1, h2, h]

@[simp] theorem kvFind_kvErase_same {α : Type} (k : Nat) (l : List (Nat × α)) : kvFind k (kvErase k l) = none := by
  induction l with
  | nil => rfl
  | cons a l ih => by_cases h : a.1 = k <;> simp [kvErase, kvFind, h, ih]

theorem kvFind_kvErase_ne {α : Type} {k m : Nat} (h : k ≠ m) (l : List (Nat × α)) : kvFind m (kvErase k l) = kvFind m l := by
  induction l with
  | nil => rfl
  | cons a l ih =>
    by_cases g : a.1 = k
    · have : ¬ k = m := h
      simp [kvErase, kvFind, g, ih, this]
    · simp [kvErase, kvFind, g, ih]

theorem kvRising_mono {α : Type} {a b : Nat} (h : a ≤ b) (l : List (Nat × α)) (g : kvRising b l = true) : kvRising a l = true := by
  cases l with
  | nil => rfl
  | cons x l =>
    simp only [kvRising, Bool.and_eq_true, decide_eq_true_eq] at g ⊢
    exact ⟨by omega, g.2⟩

/-- A write keeps keys strictly rising. -/
theorem kvRising_kvPut {α : Type} {k : Nat} (x : α) (l : List (Nat × α)) : ∀ lo, lo ≤ k → kvRising lo l = true → kvRising lo (kvPut k x l) = true := by
  induction l with
  | nil => intro lo h _; simp [kvPut, kvRising, h]
  | cons a l ih =>
    intro lo h g
    simp only [kvRising, Bool.and_eq_true, decide_eq_true_eq] at g
    by_cases h1 : a.1 < k
    · simp [kvPut, h1, kvRising, g.1, ih _ (Nat.succ_le_of_lt h1) g.2]
    · by_cases h2 : a.1 = k
      · simp [kvPut, h2, kvRising, h, h2 ▸ g.2]
      · have : k + 1 ≤ a.1 := by omega
        simp [kvPut, h1, h2, kvRising, h, this, g.2]

/-- A removal keeps keys strictly rising. -/
theorem kvRising_kvErase {α : Type} {k : Nat} (l : List (Nat × α)) : ∀ lo, kvRising lo l = true → kvRising lo (kvErase k l) = true := by
  induction l with
  | nil => intro lo g; exact g
  | cons a l ih =>
    intro lo g
    simp only [kvRising, Bool.and_eq_true, decide_eq_true_eq] at g
    by_cases h : a.1 = k
    · simp only [kvErase, h, if_true]
      exact kvRising_mono (by omega) _ (ih _ g.2)
    · simp [kvErase, h, kvRising, g.1, ih _ g.2]

/-- Dropping entries keeps keys strictly rising. -/
theorem kvRising_filter {α : Type} (p : Nat × α → Bool) (l : List (Nat × α)) : ∀ lo, kvRising lo l = true → kvRising lo (l.filter p) = true := by
  induction l with
  | nil => intro lo g; exact g
  | cons a l ih =>
    intro lo g
    simp only [kvRising, Bool.and_eq_true, decide_eq_true_eq] at g
    by_cases h : p a = true
    · simp [List.filter, h, kvRising, g.1, ih _ g.2]
    · simp only [List.filter, Bool.not_eq_true] at h ⊢
      simp only [h]
      exact kvRising_mono (by omega) _ (ih _ g.2)

end Sys2Proof.Machine
end

