-- ==== Sys2Proof/Laws/Fields.lean ====
section
/-!
SUPPORT. Register fields, internal variables, staged values, memory and sessions: what a read finds after each named update.
-/

set_option Elab.async false

namespace Sys2Proof.Machine

/-- A store key without its instance. -/
def Fld.base (f : Fld) : Nat := (f.obj * 16 + f.word) * 32 + f.lo

theorem Fld.key_eq (f : Fld) (i : Nat) : f.key i = f.base * 256 + i := rfl

/-- Fields at different places have different keys, whatever the instances. -/
theorem Fld.key_ne {f g : Fld} {i j : Nat} (h : f.base ≠ g.base) (hi : i < 256) (hj : j < 256) : f.key i ≠ g.key j := by
  rw [Fld.key_eq, Fld.key_eq]; omega

/-- Instances of one field have different keys. -/
theorem Fld.key_inst {f : Fld} {i j : Nat} (h : i ≠ j) : f.key i ≠ f.key j := by
  rw [Fld.key_eq, Fld.key_eq]; omega

namespace State

/-! ### Register fields -/

/-- A field reads what was written, in its width. -/
@[simp] theorem rd_wr_same (s : State) (f : Fld) (i n : Nat) : (s.wr f i n).rd f i = n % 2 ^ f.width := by
  unfold State.rd State.wr
  by_cases h : n % 2 ^ f.width = fldReset f i
  · simp [h]
  · simp [h]

/-- A field at another key is left alone. -/
theorem rd_wr_key (s : State) {f g : Fld} {i j : Nat} (n : Nat) (h : f.key i ≠ g.key j) : (s.wr f i n).rd g j = s.rd g j := by
  unfold State.rd State.wr
  by_cases e : n % 2 ^ f.width = fldReset f i
  · simp [e, kvFind_kvErase_ne h]
  · simp [e, kvFind_kvPut_ne _ h]

/-- A field at another place is left alone. -/
theorem rd_wr_ne (s : State) {f g : Fld} {i j : Nat} (n : Nat) (h : f.base ≠ g.base) (hi : i < 256) (hj : j < 256) : (s.wr f i n).rd g j = s.rd g j :=
  s.rd_wr_key n (Fld.key_ne h hi hj)

/-- Another instance is left alone. -/
theorem rd_wr_inst (s : State) {f : Fld} {i j : Nat} (n : Nat) (h : i ≠ j) : (s.wr f i n).rd f j = s.rd f j := s.rd_wr_key n (Fld.key_inst h)

@[simp] theorem on_eq (s : State) (f : Fld) (i : Nat) : s.on f i = (s.rd f i != 0) := rfl
@[simp] theorem rd_setV (s : State) (x : Var) (i : Nat) (n : Int) (g : Fld) (j : Nat) : (s.setV x i n).rd g j = s.rd g j := rfl
@[simp] theorem rd_setOn (s : State) (x : Var) (i : Nat) (b : Bool) (g : Fld) (j : Nat) : (s.setOn x i b).rd g j = s.rd g j := rfl
@[simp] theorem rd_stage (s : State) (f : Fld) (i n : Nat) (g : Fld) (j : Nat) : (s.stage f i n).rd g j = s.rd g j := rfl
@[simp] theorem rd_putByte (s : State) (a : Nat) (b : Byte) (g : Fld) (j : Nat) : (s.putByte a b).rd g j = s.rd g j := rfl
@[simp] theorem rd_upTo (s : State) (t : Nat) (g : Fld) (j : Nat) : (s.upTo t).rd g j = s.rd g j := rfl
@[simp] theorem wrB_eq (s : State) (f : Fld) (i : Nat) (b : Bool) : s.wrB f i b = s.wr f i (b2n b) := rfl
@[simp] theorem wrS_eq (s : State) (f : Fld) (i : Nat) (n : Int) : s.wrS f i n = s.wr f i (code f.width n) := rfl

/-- The register fields are all that a register read looks at. -/
theorem rd_of_regs {s t : State} (h : s.regs = t.regs) (f : Fld) (i : Nat) : s.rd f i = t.rd f i := by unfold State.rd; rw [h]

theorem mode_of_regs {s t : State} (h : s.regs = t.regs) : s.mode = t.mode := rd_of_regs h _ _

/-! ### Internal variables -/

/-- A variable holds what was set. -/
@[simp] theorem v_setV_same (s : State) (x : Var) (i : Nat) (n : Int) : (s.setV x i n).v x i = n := by
  unfold State.v State.setV
  by_cases h : n = 0 <;> simp [h]

/-- A variable at another key is left alone. -/
theorem v_setV_key (s : State) {x y : Var} {i j : Nat} (n : Int) (h : x.ctorIdx * 1024 + i ≠ y.ctorIdx * 1024 + j) : (s.setV x i n).v y j = s.v y j := by
  unfold State.v State.setV
  by_cases e : n = 0
  · simp [e, kvFind_kvErase_ne h]
  · simp [e, kvFind_kvPut_ne _ h]

/-- Another variable is left alone. -/
theorem v_setV_ne (s : State) {x y : Var} {i j : Nat} (n : Int) (h : x.ctorIdx ≠ y.ctorIdx) (hi : i < 1024) (hj : j < 1024) : (s.setV x i n).v y j = s.v y j :=
  s.v_setV_key n (by omega)

/-- Another instance is left alone. -/
theorem v_setV_inst (s : State) {x : Var} {i j : Nat} (n : Int) (h : i ≠ j) : (s.setV x i n).v x j = s.v x j := s.v_setV_key n (by omega)

@[simp] theorem v_wr (s : State) (f : Fld) (i n : Nat) (x : Var) (j : Nat) : (s.wr f i n).v x j = s.v x j := rfl
@[simp] theorem v_stage (s : State) (f : Fld) (i n : Nat) (x : Var) (j : Nat) : (s.stage f i n).v x j = s.v x j := rfl
@[simp] theorem v_upTo (s : State) (t : Nat) (x : Var) (j : Nat) : (s.upTo t).v x j = s.v x j := rfl
@[simp] theorem v_putByte (s : State) (a : Nat) (b : Byte) (x : Var) (j : Nat) : (s.putByte a b).v x j = s.v x j := rfl
@[simp] theorem setOn_eq (s : State) (x : Var) (i : Nat) (b : Bool) : s.setOn x i b = s.setV x i (b2n b) := rfl
theorem vn_eq (s : State) (x : Var) (i : Nat) : s.vn x i = (s.v x i).toNat := rfl
theorem vOn_eq (s : State) (x : Var) (i : Nat) : s.vOn x i = (s.v x i != 0) := rfl

/-! ### Staged values -/

/-- The staged value of a field is the one last staged. -/
@[simp] theorem stg_stage_same (s : State) (f : Fld) (i n : Nat) : (s.stage f i n).stg f i = n % 2 ^ f.width := by simp [State.stg, State.stage]

/-- Staging publishes nothing. -/
@[simp] theorem published_stage (s : State) (f g : Fld) (i j n : Nat) : (s.stage f i n).published g j = s.published g j := rfl

/-- Staging leaves the staged value of another key alone. -/
theorem stg_stage_key (s : State) {f g : Fld} {i j : Nat} (n : Nat) (h : f.key i ≠ g.key j) : (s.stage f i n).stg g j = s.stg g j := by
  unfold State.stg
  rw [published_stage]
  simp [State.stage, kvFind_kvPut_ne _ h]

/-! ### Memory -/

/-- Whether an address is one whose unlisted bytes are known (R200). -/
theorem byteAt_putByte_same (s : State) (a : Nat) (b : Byte) : (s.putByte a b).byteAt a = b := by
  unfold State.byteAt State.putByte
  by_cases h : memDefault a = some b <;> simp [h]

/-- A byte written leaves every other byte alone. -/
theorem byteAt_putByte_ne (s : State) {a c : Nat} (b : Byte) (h : a ≠ c) : (s.putByte a b).byteAt c = s.byteAt c := by
  unfold State.byteAt State.putByte State.contentKey
  by_cases e : memDefault a = some b
  · simp [e, kvFind_kvErase_ne h, State.vn, State.v]
  · simp [e, kvFind_kvPut_ne _ h, State.vn, State.v]

theorem mem_kvPut {α : Type} {k : Nat} {x : α} {l : List (Nat × α)} {y : Nat × α} (h : y ∈ kvPut k x l) : y = (k, x) ∨ y ∈ l := by
  induction l with
  | nil => simpa [kvPut] using h
  | cons a l ih =>
    unfold kvPut at h
    split at h
    · rcases List.mem_cons.1 h with g | g
      · exact .inr (by simp [g])
      · rcases ih g with g | g
        · exact .inl g
        · exact .inr (List.mem_cons_of_mem _ g)
    · split at h
      · rcases List.mem_cons.1 h with g | g
        · exact .inl g
        · exact .inr (List.mem_cons_of_mem _ g)
      · rcases List.mem_cons.1 h with g | g
        · exact .inl g
        · exact .inr g

theorem mem_kvErase {α : Type} {k : Nat} {l : List (Nat × α)} {y : Nat × α} (h : y ∈ kvErase k l) : y ∈ l := by
  induction l with
  | nil => exact h
  | cons a l ih =>
    unfold kvErase at h
    split at h
    · exact List.mem_cons_of_mem _ (ih h)
    · rcases List.mem_cons.1 h with g | g
      · simp [g]
      · exact List.mem_cons_of_mem _ (ih g)

/-- A byte written keeps the canonical form. -/
theorem memWf_putByte (s : State) (a : Nat) (b : Byte) (h : Memory.wf s.mem = true) : Memory.wf (s.putByte a b).mem = true := by
  simp only [Memory.wf, Bool.and_eq_true, List.all_eq_true] at h ⊢
  unfold State.putByte
  by_cases e : memDefault a = some b
  · simp only [e, if_true]
    exact ⟨kvRising_kvErase _ _ h.1, fun y hy => h.2 y (mem_kvErase hy)⟩
  · simp only [e, if_false]
    refine ⟨kvRising_kvPut _ _ _ (Nat.zero_le _) h.1, fun y hy => ?_⟩
    rcases mem_kvPut hy with g | g
    · simp [g, e]
    · exact h.2 y g

/-- Bytes written keep the canonical form. -/
theorem memWf_putBytes (s : State) (a : Nat) (bs : List Byte) (h : Memory.wf s.mem = true) : Memory.wf (s.putBytes a bs).mem = true := by
  unfold State.putBytes
  generalize bs.zipIdx = l
  induction l generalizing s with
  | nil => exact h
  | cons x l ih => exact ih _ (memWf_putByte _ _ _ h)

/-- Dropping bytes keeps the canonical form. -/
theorem memWf_filter (m : List Host.Cell) (p : Host.Cell → Bool) (h : Memory.wf m = true) : Memory.wf (m.filter p) = true := by
  simp only [Memory.wf, Bool.and_eq_true, List.all_eq_true] at h ⊢
  exact ⟨kvRising_filter _ _ _ h.1, fun y hy => h.2 y (List.mem_of_mem_filter hy)⟩

/-- Reset leaves memory in canonical form. -/
theorem memWf_reset : Memory.wf State.reset.mem = true := rfl

/-! ### Sessions -/

@[simp] theorem sess_setSess_same (s : State) (p : Port) (x : Session) : (s.setSess p x).sess p = x := by cases p <;> rfl
theorem sess_setSess_ne (s : State) {p q : Port} (x : Session) (h : p ≠ q) : (s.setSess p x).sess q = s.sess q := by
  cases p <;> cases q <;> first | rfl | exact absurd rfl h
@[simp] theorem sess_updSess_same (s : State) (p : Port) (f : Session → Session) : (s.updSess p f).sess p = f (s.sess p) := by cases p <;> rfl
theorem sess_updSess_ne (s : State) {p q : Port} (f : Session → Session) (h : p ≠ q) : (s.updSess p f).sess q = s.sess q := s.sess_setSess_ne _ h
@[simp] theorem regs_setSess (s : State) (p : Port) (x : Session) : (s.setSess p x).regs = s.regs := by cases p <;> rfl
@[simp] theorem vars_setSess (s : State) (p : Port) (x : Session) : (s.setSess p x).vars = s.vars := by cases p <;> rfl
@[simp] theorem power_setSess (s : State) (p : Port) (x : Session) : (s.setSess p x).power = s.power := by cases p <;> rfl
@[simp] theorem rd_setSess (s : State) (p : Port) (x : Session) (f : Fld) (i : Nat) : (s.setSess p x).rd f i = s.rd f i := rd_of_regs (regs_setSess ..) f i
@[simp] theorem rd_updSess (s : State) (p : Port) (g : Session → Session) (f : Fld) (i : Nat) : (s.updSess p g).rd f i = s.rd f i := rd_setSess ..
@[simp] theorem power_updSess (s : State) (p : Port) (g : Session → Session) : (s.updSess p g).power = s.power := power_setSess ..
@[simp] theorem sess_wr (s : State) (f : Fld) (i n : Nat) (p : Port) : (s.wr f i n).sess p = s.sess p := by cases p <;> rfl
@[simp] theorem sess_setV (s : State) (x : Var) (i : Nat) (n : Int) (p : Port) : (s.setV x i n).sess p = s.sess p := by cases p <;> rfl
@[simp] theorem sess_stage (s : State) (f : Fld) (i n : Nat) (p : Port) : (s.stage f i n).sess p = s.sess p := by cases p <;> rfl

end State

end Sys2Proof.Machine
end

