-- ==== Sys2Proof/Laws/Settle.lean ====
section
/-!
SUPPORT. What follows every command: all that `settle` can change, and how a running block answers.
-/

set_option Elab.async false
set_option linter.all false

namespace Sys2Proof.Machine

namespace State

/-- A fold whose steps keep a property keeps it. -/
theorem foldl_keeps {α β : Type} {P : β → Prop} (f : β → α → β) (h : ∀ b a, P b → P (f b a)) (l : List α) : ∀ b, P b → P (l.foldl f b) := by
  induction l with
  | nil => intro b hb; exact hb
  | cons a l ih => intro b hb; exact ih _ (h b a hb)

/-- All that a fold can do that sets a field of the instances a test picks: it changes registers, and of them that field alone. -/
theorem mark_cases (p : State → Nat → Bool) (g : Fld) (l : List Nat) (hl : ∀ c ∈ l, c < 256) : ∀ s : State, ∃ r,
    l.foldl (fun (s : State) c => if p s c then s.wr g c 1 else s) s = { s with regs := r } ∧
      ∀ (f : Fld) (i : Nat), f.base ≠ g.base → i < 256 → (l.foldl (fun (s : State) c => if p s c then s.wr g c 1 else s) s).rd f i = s.rd f i := by
  induction l with
  | nil => intro s; exact ⟨s.regs, rfl, fun _ _ _ _ => rfl⟩
  | cons c l ih =>
    intro s
    have hc : c < 256 := hl c (by simp)
    simp only [List.foldl_cons]
    split
    · obtain ⟨r, h1, h2⟩ := ih (fun d hd => hl d (by simp [hd])) (s.wr g c 1)
      refine ⟨r, ?_, ?_⟩
      · rw [h1]; rfl
      · intro f i hf hi
        rw [h2 f i hf hi, rd_wr_ne _ _ (Ne.symm hf) hc hi]
    · exact ih (fun d hd => hl d (by simp [hd])) s

/-- All that the look at the capture rates can do: RATECHG of channels is set (R337). -/
theorem rateCheck_cases (s : State) : ∃ r, s.rateCheck = { s with regs := r } ∧
    ∀ (f : Fld) (i : Nat), f.base ≠ Reg.CAP_RATECHG.base → i < 256 → s.rateCheck.rd f i = s.rd f i :=
  mark_cases State.rateOff Reg.CAP_RATECHG (List.range 16) (fun c h => by simp at h; omega) s

/-- All that a wake request can do (R441). -/
theorem wakeCheck_cases (s : State) (c : CoreId) : s.wakeCheck c = s ∨ s.wakeCheck c = (s.wr Reg.ICU_CORE_WAKEREQ c.idx 1).setV .wakeAt c.idx (s.now + 1) := by
  unfold State.wakeCheck
  split
  · exact .inr rfl
  · exact .inl rfl

theorem CoreId_idx_lt (c : CoreId) : c.idx < 256 := by cases c <;> decide

theorem wakeCheck_rd (s : State) (c : CoreId) {f : Fld} {i : Nat} (h : f.base ≠ Reg.ICU_CORE_WAKEREQ.base) (hi : i < 256) : (s.wakeCheck c).rd f i = s.rd f i := by
  rcases wakeCheck_cases s c with g | g
  · rw [g]
  · rw [g, rd_setV, rd_wr_ne _ _ (Ne.symm h) (CoreId_idx_lt c) hi]

theorem wakeCheck_v (s : State) (c : CoreId) {x : Var} {i : Nat} (h : x ≠ .wakeAt) (hi : i < 1024) : (s.wakeCheck c).v x i = s.v x i := by
  rcases wakeCheck_cases s c with g | g
  · rw [g]
  · have : Var.wakeAt.ctorIdx ≠ x.ctorIdx := by
      intro e; apply h; revert e; cases x <;> decide
    rw [g, v_setV_ne _ _ this (by have := CoreId_idx_lt c; omega) hi, v_wr]

/-- A register field that is neither RATECHG nor WAKEREQ reads as before. -/
theorem settle_rd (s : State) {f : Fld} {i : Nat} (h1 : f.base ≠ Reg.CAP_RATECHG.base) (h2 : f.base ≠ Reg.ICU_CORE_WAKEREQ.base) (hi : i < 256) :
    s.settle.rd f i = s.rd f i := by
  have h := (rateCheck_cases s).choose_spec.2
  have e : ∀ u : State, ((u.wakeCheck .sc).wakeCheck .ac).rd f i = u.rd f i := fun u => (wakeCheck_rd _ _ h2 hi).trans (wakeCheck_rd _ _ h2 hi)
  have e2 : ∀ u : State, ∀ k, ({ u with icu := k } : State).rd f i = u.rd f i := fun u k => rd_of_regs rfl f i
  unfold State.settle
  extract_lets u w
  have e3 : w.rd f i = u.rd f i := e2 u _
  exact (e w).trans (e3.trans (h f i h1 hi))

/-- A variable that is not the tick of a wake request holds what it held. -/
theorem settle_v (s : State) {x : Var} {i : Nat} (h : x ≠ .wakeAt) (hi : i < 1024) : s.settle.v x i = s.v x i := by
  obtain ⟨r, h1, _⟩ := rateCheck_cases s
  unfold State.settle
  rw [wakeCheck_v _ _ h hi, wakeCheck_v _ _ h hi]
  simp only [h1]
  rfl

/-- The device mode is not changed. -/
@[simp] theorem settle_mode (s : State) : s.settle.mode = s.mode := s.settle_rd (by decide) (by decide) (by decide)

@[simp] theorem wakeCheck_power (s : State) (c : CoreId) : (s.wakeCheck c).power = s.power := by
  rcases wakeCheck_cases s c with g | g <;> rw [g] <;> rfl
@[simp] theorem settle_power (s : State) : s.settle.power = s.power := by
  obtain ⟨r, h, _⟩ := rateCheck_cases s
  simp [State.settle, h]
@[simp] theorem wakeCheck_now (s : State) (c : CoreId) : (s.wakeCheck c).now = s.now := by
  rcases wakeCheck_cases s c with g | g <;> rw [g] <;> rfl
@[simp] theorem settle_now (s : State) : s.settle.now = s.now := by
  obtain ⟨r, h, _⟩ := rateCheck_cases s
  simp [State.settle, h]
@[simp] theorem wakeCheck_staged (s : State) (c : CoreId) : (s.wakeCheck c).staged = s.staged := by
  rcases wakeCheck_cases s c with g | g <;> rw [g] <;> rfl
@[simp] theorem settle_staged (s : State) : s.settle.staged = s.staged := by
  obtain ⟨r, h, _⟩ := rateCheck_cases s
  simp [State.settle, h]
@[simp] theorem wakeCheck_pubq (s : State) (c : CoreId) : (s.wakeCheck c).pubq = s.pubq := by
  rcases wakeCheck_cases s c with g | g <;> rw [g] <;> rfl
@[simp] theorem settle_pubq (s : State) : s.settle.pubq = s.pubq := by
  obtain ⟨r, h, _⟩ := rateCheck_cases s
  simp [State.settle, h]
@[simp] theorem wakeCheck_armed (s : State) (c : CoreId) : (s.wakeCheck c).armed = s.armed := by
  rcases wakeCheck_cases s c with g | g <;> rw [g] <;> rfl
@[simp] theorem settle_armed (s : State) : s.settle.armed = s.armed := by
  obtain ⟨r, h, _⟩ := rateCheck_cases s
  simp [State.settle, h]
@[simp] theorem wakeCheck_mem (s : State) (c : CoreId) : (s.wakeCheck c).mem = s.mem := by
  rcases wakeCheck_cases s c with g | g <;> rw [g] <;> rfl
@[simp] theorem settle_mem (s : State) : s.settle.mem = s.mem := by
  obtain ⟨r, h, _⟩ := rateCheck_cases s
  simp [State.settle, h]
@[simp] theorem wakeCheck_twa (s : State) (c : CoreId) : (s.wakeCheck c).twa = s.twa := by
  rcases wakeCheck_cases s c with g | g <;> rw [g] <;> rfl
@[simp] theorem settle_twa (s : State) : s.settle.twa = s.twa := by
  obtain ⟨r, h, _⟩ := rateCheck_cases s
  simp [State.settle, h]
@[simp] theorem wakeCheck_twb (s : State) (c : CoreId) : (s.wakeCheck c).twb = s.twb := by
  rcases wakeCheck_cases s c with g | g <;> rw [g] <;> rfl
@[simp] theorem settle_twb (s : State) : s.settle.twb = s.twb := by
  obtain ⟨r, h, _⟩ := rateCheck_cases s
  simp [State.settle, h]
@[simp] theorem wakeCheck_hsp (s : State) (c : CoreId) : (s.wakeCheck c).hsp = s.hsp := by
  rcases wakeCheck_cases s c with g | g <;> rw [g] <;> rfl
@[simp] theorem settle_hsp (s : State) : s.settle.hsp = s.hsp := by
  obtain ⟨r, h, _⟩ := rateCheck_cases s
  simp [State.settle, h]
@[simp] theorem wakeCheck_owner (s : State) (c : CoreId) : (s.wakeCheck c).owner = s.owner := by
  rcases wakeCheck_cases s c with g | g <;> rw [g] <;> rfl
@[simp] theorem settle_owner (s : State) : s.settle.owner = s.owner := by
  obtain ⟨r, h, _⟩ := rateCheck_cases s
  simp [State.settle, h]
@[simp] theorem wakeCheck_draining (s : State) (c : CoreId) : (s.wakeCheck c).draining = s.draining := by
  rcases wakeCheck_cases s c with g | g <;> rw [g] <;> rfl
@[simp] theorem settle_draining (s : State) : s.settle.draining = s.draining := by
  obtain ⟨r, h, _⟩ := rateCheck_cases s
  simp [State.settle, h]
@[simp] theorem wakeCheck_granting (s : State) (c : CoreId) : (s.wakeCheck c).granting = s.granting := by
  rcases wakeCheck_cases s c with g | g <;> rw [g] <;> rfl
@[simp] theorem settle_granting (s : State) : s.settle.granting = s.granting := by
  obtain ⟨r, h, _⟩ := rateCheck_cases s
  simp [State.settle, h]
@[simp] theorem wakeCheck_retuning (s : State) (c : CoreId) : (s.wakeCheck c).retuning = s.retuning := by
  rcases wakeCheck_cases s c with g | g <;> rw [g] <;> rfl
@[simp] theorem settle_retuning (s : State) : s.settle.retuning = s.retuning := by
  obtain ⟨r, h, _⟩ := rateCheck_cases s
  simp [State.settle, h]
@[simp] theorem wakeCheck_finCtr (s : State) (c : CoreId) : (s.wakeCheck c).finCtr = s.finCtr := by
  rcases wakeCheck_cases s c with g | g <;> rw [g] <;> rfl
@[simp] theorem settle_finCtr (s : State) : s.settle.finCtr = s.finCtr := by
  obtain ⟨r, h, _⟩ := rateCheck_cases s
  simp [State.settle, h]
@[simp] theorem wakeCheck_evCode (s : State) (c : CoreId) : (s.wakeCheck c).evCode = s.evCode := by
  rcases wakeCheck_cases s c with g | g <;> rw [g] <;> rfl
@[simp] theorem settle_evCode (s : State) : s.settle.evCode = s.evCode := by
  obtain ⟨r, h, _⟩ := rateCheck_cases s
  simp [State.settle, h]
@[simp] theorem wakeCheck_events (s : State) (c : CoreId) : (s.wakeCheck c).events = s.events := by
  rcases wakeCheck_cases s c with g | g <;> rw [g] <;> rfl
@[simp] theorem settle_events (s : State) : s.settle.events = s.events := by
  obtain ⟨r, h, _⟩ := rateCheck_cases s
  simp [State.settle, h]
@[simp] theorem wakeCheck_ring (s : State) (c : CoreId) : (s.wakeCheck c).ring = s.ring := by
  rcases wakeCheck_cases s c with g | g <;> rw [g] <;> rfl
@[simp] theorem settle_ring (s : State) : s.settle.ring = s.ring := by
  obtain ⟨r, h, _⟩ := rateCheck_cases s
  simp [State.settle, h]
@[simp] theorem wakeCheck_recSeq (s : State) (c : CoreId) : (s.wakeCheck c).recSeq = s.recSeq := by
  rcases wakeCheck_cases s c with g | g <;> rw [g] <;> rfl
@[simp] theorem settle_recSeq (s : State) : s.settle.recSeq = s.recSeq := by
  obtain ⟨r, h, _⟩ := rateCheck_cases s
  simp [State.settle, h]
@[simp] theorem wakeCheck_buckets (s : State) (c : CoreId) : (s.wakeCheck c).buckets = s.buckets := by
  rcases wakeCheck_cases s c with g | g <;> rw [g] <;> rfl
@[simp] theorem settle_buckets (s : State) : s.settle.buckets = s.buckets := by
  obtain ⟨r, h, _⟩ := rateCheck_cases s
  simp [State.settle, h]
@[simp] theorem wakeCheck_recLost (s : State) (c : CoreId) : (s.wakeCheck c).recLost = s.recLost := by
  rcases wakeCheck_cases s c with g | g <;> rw [g] <;> rfl
@[simp] theorem settle_recLost (s : State) : s.settle.recLost = s.recLost := by
  obtain ⟨r, h, _⟩ := rateCheck_cases s
  simp [State.settle, h]
@[simp] theorem wakeCheck_slots (s : State) (c : CoreId) : (s.wakeCheck c).slots = s.slots := by
  rcases wakeCheck_cases s c with g | g <;> rw [g] <;> rfl
@[simp] theorem settle_slots (s : State) : s.settle.slots = s.slots := by
  obtain ⟨r, h, _⟩ := rateCheck_cases s
  simp [State.settle, h]
@[simp] theorem wakeCheck_nvsq (s : State) (c : CoreId) : (s.wakeCheck c).nvsq = s.nvsq := by
  rcases wakeCheck_cases s c with g | g <;> rw [g] <;> rfl
@[simp] theorem settle_nvsq (s : State) : s.settle.nvsq = s.nvsq := by
  obtain ⟨r, h, _⟩ := rateCheck_cases s
  simp [State.settle, h]
@[simp] theorem wakeCheck_nvsRun (s : State) (c : CoreId) : (s.wakeCheck c).nvsRun = s.nvsRun := by
  rcases wakeCheck_cases s c with g | g <;> rw [g] <;> rfl
@[simp] theorem settle_nvsRun (s : State) : s.settle.nvsRun = s.nvsRun := by
  obtain ⟨r, h, _⟩ := rateCheck_cases s
  simp [State.settle, h]
@[simp] theorem wakeCheck_boot (s : State) (c : CoreId) : (s.wakeCheck c).boot = s.boot := by
  rcases wakeCheck_cases s c with g | g <;> rw [g] <;> rfl
@[simp] theorem settle_boot (s : State) : s.settle.boot = s.boot := by
  obtain ⟨r, h, _⟩ := rateCheck_cases s
  simp [State.settle, h]
@[simp] theorem wakeCheck_update (s : State) (c : CoreId) : (s.wakeCheck c).update = s.update := by
  rcases wakeCheck_cases s c with g | g <;> rw [g] <;> rfl
@[simp] theorem settle_update (s : State) : s.settle.update = s.update := by
  obtain ⟨r, h, _⟩ := rateCheck_cases s
  simp [State.settle, h]
@[simp] theorem wakeCheck_facks (s : State) (c : CoreId) : (s.wakeCheck c).facks = s.facks := by
  rcases wakeCheck_cases s c with g | g <;> rw [g] <;> rfl
@[simp] theorem settle_facks (s : State) : s.settle.facks = s.facks := by
  obtain ⟨r, h, _⟩ := rateCheck_cases s
  simp [State.settle, h]
@[simp] theorem wakeCheck_cueOut (s : State) (c : CoreId) : (s.wakeCheck c).cueOut = s.cueOut := by
  rcases wakeCheck_cases s c with g | g <;> rw [g] <;> rfl
@[simp] theorem settle_cueOut (s : State) : s.settle.cueOut = s.cueOut := by
  obtain ⟨r, h, _⟩ := rateCheck_cases s
  simp [State.settle, h]
@[simp] theorem wakeCheck_spectra (s : State) (c : CoreId) : (s.wakeCheck c).spectra = s.spectra := by
  rcases wakeCheck_cases s c with g | g <;> rw [g] <;> rfl
@[simp] theorem settle_spectra (s : State) : s.settle.spectra = s.spectra := by
  obtain ⟨r, h, _⟩ := rateCheck_cases s
  simp [State.settle, h]
@[simp] theorem wakeCheck_railWaits (s : State) (c : CoreId) : (s.wakeCheck c).railWaits = s.railWaits := by
  rcases wakeCheck_cases s c with g | g <;> rw [g] <;> rfl
@[simp] theorem settle_railWaits (s : State) : s.settle.railWaits = s.railWaits := by
  obtain ⟨r, h, _⟩ := rateCheck_cases s
  simp [State.settle, h]
@[simp] theorem wakeCheck_cbHist (s : State) (c : CoreId) : (s.wakeCheck c).cbHist = s.cbHist := by
  rcases wakeCheck_cases s c with g | g <;> rw [g] <;> rfl
@[simp] theorem settle_cbHist (s : State) : s.settle.cbHist = s.cbHist := by
  obtain ⟨r, h, _⟩ := rateCheck_cases s
  simp [State.settle, h]
@[simp] theorem wakeCheck_ident (s : State) (c : CoreId) : (s.wakeCheck c).ident = s.ident := by
  rcases wakeCheck_cases s c with g | g <;> rw [g] <;> rfl
@[simp] theorem settle_ident (s : State) : s.settle.ident = s.ident := by
  obtain ⟨r, h, _⟩ := rateCheck_cases s
  simp [State.settle, h]
@[simp] theorem wakeCheck_identRes (s : State) (c : CoreId) : (s.wakeCheck c).identRes = s.identRes := by
  rcases wakeCheck_cases s c with g | g <;> rw [g] <;> rfl
@[simp] theorem settle_identRes (s : State) : s.settle.identRes = s.identRes := by
  obtain ⟨r, h, _⟩ := rateCheck_cases s
  simp [State.settle, h]
@[simp] theorem wakeCheck_health (s : State) (c : CoreId) : (s.wakeCheck c).health = s.health := by
  rcases wakeCheck_cases s c with g | g <;> rw [g] <;> rfl
@[simp] theorem settle_health (s : State) : s.settle.health = s.health := by
  obtain ⟨r, h, _⟩ := rateCheck_cases s
  simp [State.settle, h]
@[simp] theorem wakeCheck_calSets (s : State) (c : CoreId) : (s.wakeCheck c).calSets = s.calSets := by
  rcases wakeCheck_cases s c with g | g <;> rw [g] <;> rfl
@[simp] theorem settle_calSets (s : State) : s.settle.calSets = s.calSets := by
  obtain ⟨r, h, _⟩ := rateCheck_cases s
  simp [State.settle, h]
@[simp] theorem wakeCheck_csaHist (s : State) (c : CoreId) : (s.wakeCheck c).csaHist = s.csaHist := by
  rcases wakeCheck_cases s c with g | g <;> rw [g] <;> rfl
@[simp] theorem settle_csaHist (s : State) : s.settle.csaHist = s.csaHist := by
  obtain ⟨r, h, _⟩ := rateCheck_cases s
  simp [State.settle, h]
@[simp] theorem wakeCheck_hkaHist (s : State) (c : CoreId) : (s.wakeCheck c).hkaHist = s.hkaHist := by
  rcases wakeCheck_cases s c with g | g <;> rw [g] <;> rfl
@[simp] theorem settle_hkaHist (s : State) : s.settle.hkaHist = s.hkaHist := by
  obtain ⟨r, h, _⟩ := rateCheck_cases s
  simp [State.settle, h]
@[simp] theorem wakeCheck_busOut (s : State) (c : CoreId) : (s.wakeCheck c).busOut = s.busOut := by
  rcases wakeCheck_cases s c with g | g <;> rw [g] <;> rfl
@[simp] theorem settle_busOut (s : State) : s.settle.busOut = s.busOut := by
  obtain ⟨r, h, _⟩ := rateCheck_cases s
  simp [State.settle, h]
@[simp] theorem wakeCheck_freeCtr (s : State) (c : CoreId) : (s.wakeCheck c).freeCtr = s.freeCtr := by
  rcases wakeCheck_cases s c with g | g <;> rw [g] <;> rfl
@[simp] theorem settle_freeCtr (s : State) : s.settle.freeCtr = s.freeCtr := by
  obtain ⟨r, h, _⟩ := rateCheck_cases s
  simp [State.settle, h]
@[simp] theorem wakeCheck_pending (s : State) (c : CoreId) : (s.wakeCheck c).pending = s.pending := by
  rcases wakeCheck_cases s c with g | g <;> rw [g] <;> rfl
@[simp] theorem settle_pending (s : State) : s.settle.pending = s.pending := by
  obtain ⟨r, h, _⟩ := rateCheck_cases s
  simp [State.settle, h]
@[simp] theorem settle_sess (s : State) (p : Port) : s.settle.sess p = s.sess p := by cases p <;> simp [State.sess]

end State

/-- A running block answers with the effect, settled unless the effect was a reset; so a property that both have holds of the next state. -/
theorem act_goes {s : State} {f : State → State} {P : State → Prop} (hp : s.power = .running) (h1 : P (f s)) (h2 : P (f s).settle) : ∃ t, act s f = .next t ∧ P t := by
  unfold act
  by_cases g : (f s).power = .running
  · exact ⟨_, by rw [if_pos hp, if_pos g], h2⟩
  · exact ⟨_, by rw [if_pos hp, if_neg g], h1⟩

/-- The next state of a running block whose effect is no reset. -/
theorem act_running {s : State} {f : State → State} (hp : s.power = .running) (g : (f s).power = .running) : act s f = .next (f s).settle := by
  unfold act; rw [if_pos hp, if_pos g]

/-- A block that is held in reset or has no supply takes no command. -/
theorem act_held {s : State} {f : State → State} (hp : s.power ≠ .running) : act s f = .next s := by
  unfold act; rw [if_neg hp]

end Sys2Proof.Machine
end

