-- ==== Sys2Proof/Laws/Frames.lean ====
section
/-!
SUPPORT. What the shared operations leave alone: interrupts, replies, completion entries, causes, slot writes, memory writes and events.
-/

set_option Elab.async false
set_option linter.all false

namespace Sys2Proof.Machine.State

/-! ### Interrupts -/

/-- An event on a source changes only the interrupt controller. -/
theorem irq_eq (s : State) (n : Nat) : ∃ u, s.irq n = { s with icu := u } := by
  unfold State.irq
  split
  · exact ⟨s.icu, rfl⟩
  · split <;> exact ⟨_, rfl⟩

@[simp] theorem irq_regs (s : State) (n : Nat) : (s.irq n).regs = s.regs := by obtain ⟨u, h⟩ := s.irq_eq n; rw [h]
@[simp] theorem irq_vars (s : State) (n : Nat) : (s.irq n).vars = s.vars := by obtain ⟨u, h⟩ := s.irq_eq n; rw [h]
@[simp] theorem irq_power (s : State) (n : Nat) : (s.irq n).power = s.power := by obtain ⟨u, h⟩ := s.irq_eq n; rw [h]
@[simp] theorem irq_now (s : State) (n : Nat) : (s.irq n).now = s.now := by obtain ⟨u, h⟩ := s.irq_eq n; rw [h]
@[simp] theorem irq_mem (s : State) (n : Nat) : (s.irq n).mem = s.mem := by obtain ⟨u, h⟩ := s.irq_eq n; rw [h]
@[simp] theorem irq_events (s : State) (n : Nat) : (s.irq n).events = s.events := by obtain ⟨u, h⟩ := s.irq_eq n; rw [h]
@[simp] theorem irq_pending (s : State) (n : Nat) : (s.irq n).pending = s.pending := by obtain ⟨u, h⟩ := s.irq_eq n; rw [h]
@[simp] theorem irq_owner (s : State) (n : Nat) : (s.irq n).owner = s.owner := by obtain ⟨u, h⟩ := s.irq_eq n; rw [h]
@[simp] theorem irq_sess (s : State) (n : Nat) (p : Port) : (s.irq n).sess p = s.sess p := by obtain ⟨u, h⟩ := s.irq_eq n; rw [h]; cases p <;> rfl
@[simp] theorem rd_irq (s : State) (n : Nat) (f : Fld) (i : Nat) : (s.irq n).rd f i = s.rd f i := rd_of_regs (s.irq_regs n) f i

/-- The variables are all that a variable's read looks at. -/
theorem v_of_vars {s t : State} (h : s.vars = t.vars) (x : Var) (i : Nat) : s.v x i = t.v x i := by unfold State.v; rw [h]

@[simp] theorem v_irq (s : State) (n : Nat) (x : Var) (i : Nat) : (s.irq n).v x i = s.v x i := v_of_vars (s.irq_vars n) x i
@[simp] theorem v_setSess (s : State) (p : Port) (x : Session) (y : Var) (i : Nat) : (s.setSess p x).v y i = s.v y i := v_of_vars (vars_setSess ..) y i
@[simp] theorem v_updSess (s : State) (p : Port) (g : Session → Session) (y : Var) (i : Nat) : (s.updSess p g).v y i = s.v y i := v_setSess ..

/-! ### Sessions -/

@[simp] theorem now_setSess (s : State) (p : Port) (x : Session) : (s.setSess p x).now = s.now := by cases p <;> rfl
@[simp] theorem owner_setSess (s : State) (p : Port) (x : Session) : (s.setSess p x).owner = s.owner := by cases p <;> rfl
@[simp] theorem mem_setSess (s : State) (p : Port) (x : Session) : (s.setSess p x).mem = s.mem := by cases p <;> rfl
@[simp] theorem pending_setSess (s : State) (p : Port) (x : Session) : (s.setSess p x).pending = s.pending := by cases p <;> rfl
@[simp] theorem now_updSess (s : State) (p : Port) (g : Session → Session) : (s.updSess p g).now = s.now := now_setSess ..
@[simp] theorem owner_updSess (s : State) (p : Port) (g : Session → Session) : (s.updSess p g).owner = s.owner := owner_setSess ..
@[simp] theorem mem_updSess (s : State) (p : Port) (g : Session → Session) : (s.updSess p g).mem = s.mem := mem_setSess ..

@[simp] theorem reply_regs (s : State) (p : Port) (b : Bool) (c : Cmd) (st : Nat) (d : List Byte) : (s.reply p b c st d).regs = s.regs := regs_setSess ..
@[simp] theorem reply_vars (s : State) (p : Port) (b : Bool) (c : Cmd) (st : Nat) (d : List Byte) : (s.reply p b c st d).vars = s.vars := vars_setSess ..
@[simp] theorem reply_power (s : State) (p : Port) (b : Bool) (c : Cmd) (st : Nat) (d : List Byte) : (s.reply p b c st d).power = s.power := power_setSess ..
@[simp] theorem reply_now (s : State) (p : Port) (b : Bool) (c : Cmd) (st : Nat) (d : List Byte) : (s.reply p b c st d).now = s.now := now_setSess ..
@[simp] theorem reply_owner (s : State) (p : Port) (b : Bool) (c : Cmd) (st : Nat) (d : List Byte) : (s.reply p b c st d).owner = s.owner := owner_setSess ..
@[simp] theorem rd_reply (s : State) (p : Port) (b : Bool) (c : Cmd) (st : Nat) (d : List Byte) (f : Fld) (i : Nat) : (s.reply p b c st d).rd f i = s.rd f i := rd_of_regs (reply_regs ..) f i
@[simp] theorem v_reply (s : State) (p : Port) (b : Bool) (c : Cmd) (st : Nat) (d : List Byte) (x : Var) (i : Nat) : (s.reply p b c st d).v x i = s.v x i := v_of_vars (reply_vars ..) x i

/-- What a reply does to its session: the bytes enter the store of its kind, and REFCNT counts a refusal (R366, R382). -/
theorem sess_reply_same (s : State) (p : Port) (b : Bool) (c : Cmd) (st : Nat) (d : List Byte) :
    (s.reply p b c st d).sess p = (((s.sess p).putReply b ⟨s.finCtr, c.tag,
      packet ((if c.opcode = 1 ∨ ¬ (s.sess p).isOpen then 1 else (s.sess p).av) * 16 + 1) c.opcode c.tag c.obj c.seq (leBytes 1 st ++ d)⟩).countRef st) := by
  cases p <;> rfl

theorem sess_reply_ne (s : State) {p q : Port} (b : Bool) (c : Cmd) (st : Nat) (d : List Byte) (h : p ≠ q) : (s.reply p b c st d).sess q = s.sess q := by
  cases p <;> cases q <;> first | rfl | exact absurd rfl h

@[simp] theorem complete_regs (s : State) (a b c d e : Nat) : (s.complete a b c d e).regs = s.regs := by
  unfold State.complete; split
  · rfl
  · exact regs_setSess ..
@[simp] theorem complete_vars (s : State) (a b c d e : Nat) : (s.complete a b c d e).vars = s.vars := by
  unfold State.complete; split
  · rfl
  · exact vars_setSess ..
@[simp] theorem complete_power (s : State) (a b c d e : Nat) : (s.complete a b c d e).power = s.power := by
  unfold State.complete; split
  · rfl
  · exact power_setSess ..
@[simp] theorem complete_now (s : State) (a b c d e : Nat) : (s.complete a b c d e).now = s.now := by
  unfold State.complete; split
  · rfl
  · exact now_setSess ..
@[simp] theorem rd_complete (s : State) (a b c d e : Nat) (f : Fld) (i : Nat) : (s.complete a b c d e).rd f i = s.rd f i := rd_of_regs (complete_regs ..) f i
@[simp] theorem v_complete (s : State) (a b c d e : Nat) (x : Var) (i : Nat) : (s.complete a b c d e).v x i = s.v x i := v_of_vars (complete_vars ..) x i

@[simp] theorem updAll_regs (s : State) (f : Session → Session) : (s.updAll f).regs = s.regs := by simp [State.updAll, State.updSess]
@[simp] theorem updAll_vars (s : State) (f : Session → Session) : (s.updAll f).vars = s.vars := by simp [State.updAll, State.updSess]
@[simp] theorem updAll_power (s : State) (f : Session → Session) : (s.updAll f).power = s.power := by simp [State.updAll]
@[simp] theorem updAll_now (s : State) (f : Session → Session) : (s.updAll f).now = s.now := by simp [State.updAll]
@[simp] theorem rd_updAll (s : State) (f : Session → Session) (g : Fld) (i : Nat) : (s.updAll f).rd g i = s.rd g i := rd_of_regs (updAll_regs ..) g i
@[simp] theorem v_updAll (s : State) (f : Session → Session) (x : Var) (i : Nat) : (s.updAll f).v x i = s.v x i := v_of_vars (updAll_vars ..) x i

@[simp] theorem rd_alert (s : State) (b : Nat) (f : Fld) (i : Nat) : (s.alert b).rd f i = s.rd f i := rd_updAll ..
@[simp] theorem v_alert (s : State) (b : Nat) (x : Var) (i : Nat) : (s.alert b).v x i = s.v x i := v_updAll ..
@[simp] theorem alert_power (s : State) (b : Nat) : (s.alert b).power = s.power := updAll_power ..
@[simp] theorem alert_now (s : State) (b : Nat) : (s.alert b).now = s.now := updAll_now ..
@[simp] theorem alert_regs (s : State) (b : Nat) : (s.alert b).regs = s.regs := updAll_regs ..
@[simp] theorem alert_vars (s : State) (b : Nat) : (s.alert b).vars = s.vars := updAll_vars ..
@[simp] theorem rd_alertEvent (s : State) (b : Nat) (f : Fld) (i : Nat) : (s.alertEvent b).rd f i = s.rd f i := rd_of_regs (alert_regs s 6) f i
@[simp] theorem v_alertEvent (s : State) (b : Nat) (x : Var) (i : Nat) : (s.alertEvent b).v x i = s.v x i := v_of_vars (alert_vars s 6) x i
@[simp] theorem rd_alertFault (s : State) (b : Nat) (f : Fld) (i : Nat) : (s.alertFault b).rd f i = s.rd f i := rd_of_regs (alert_regs s 5) f i
@[simp] theorem v_alertFault (s : State) (b : Nat) (x : Var) (i : Nat) : (s.alertFault b).v x i = s.v x i := v_of_vars (alert_vars s 5) x i
@[simp] theorem alertEvent_power (s : State) (b : Nat) : (s.alertEvent b).power = s.power := alert_power s 6
@[simp] theorem alertFault_power (s : State) (b : Nat) : (s.alertFault b).power = s.power := alert_power s 5

/-! ### Events -/

/-- Lost events touch LOST and LOSTT only. -/
theorem rd_loseEvent (s : State) {f : Fld} {i : Nat} (h1 : f.base ≠ Reg.EVR_STAT_LOST.base) (h2 : f.base ≠ Reg.EVR_BOOK_LOSTT.base) (hi : i < 256) :
    s.loseEvent.rd f i = s.rd f i :=
  (rd_of_regs rfl f i).trans ((rd_wr_ne _ _ (Ne.symm h2) (by decide) hi).trans (rd_wr_ne _ _ (Ne.symm h1) (by decide) hi))

@[simp] theorem loseEvent_vars (s : State) : s.loseEvent.vars = s.vars := rfl
@[simp] theorem loseEvent_power (s : State) : s.loseEvent.power = s.power := rfl
@[simp] theorem loseEvent_now (s : State) : s.loseEvent.now = s.now := rfl

/-- The counters of the recorder that raising an event may change. -/
def evrBases : List Nat := [Reg.EVR_BOOK_RAISED.base, Reg.EVR_STAT_LOST.base, Reg.EVR_BOOK_LOSTT.base]

/-- Raising an event touches the recorder's counters only. -/
theorem rd_event (s : State) (c sev : Nat) (d : List Byte) {f : Fld} {i : Nat} (h : f.base ∉ evrBases) (hi : i < 256) : (s.event c sev d).rd f i = s.rd f i := by
  simp only [evrBases, List.mem_cons, not_or] at h
  have e : (s.wr Reg.EVR_BOOK_RAISED 0 (s.rd Reg.EVR_BOOK_RAISED + 1)).rd f i = s.rd f i := rd_wr_ne _ _ (Ne.symm h.1) (by decide) hi
  unfold State.event
  extract_lets u
  split
  · exact (rd_of_regs rfl f i).trans e
  · exact (rd_loseEvent u h.2.1 h.2.2.1 hi).trans e

theorem event_vars (s : State) (c sev : Nat) (d : List Byte) : (s.event c sev d).vars = s.vars := by unfold State.event; dsimp only; split <;> rfl
@[simp] theorem event_power (s : State) (c sev : Nat) (d : List Byte) : (s.event c sev d).power = s.power := by unfold State.event; dsimp only; split <;> rfl
@[simp] theorem event_now (s : State) (c sev : Nat) (d : List Byte) : (s.event c sev d).now = s.now := by unfold State.event; dsimp only; split <;> rfl
@[simp] theorem event_sess (s : State) (c sev : Nat) (d : List Byte) (p : Port) : (s.event c sev d).sess p = s.sess p := by
  unfold State.event; dsimp only; split <;> cases p <;> rfl
@[simp] theorem v_event (s : State) (c sev : Nat) (d : List Byte) (x : Var) (i : Nat) : (s.event c sev d).v x i = s.v x i := v_of_vars (event_vars ..) x i

/-! ### Slot writes -/

/-- All that dropping a late final record can do: its deadline ends, and its write leaves the queue (R283). -/
theorem dropLate_cases (s : State) : s.dropLate = s ∨ ∃ q, s.dropLate = { s.setV .tFinal 0 0 with nvsq := q } := by
  unfold State.dropLate
  split
  · exact .inr ⟨_, rfl⟩
  · exact .inl rfl

/-- All that looking for a write to start can do: beside the store's queue, its running write and its slots, the deadline of a final record may end (R283, R456). -/
theorem kickNvs_cases (s : State) : ∃ (t : State) (q : List SlotWrite) (l : List (Nat × Slot)) (r : Option SlotWrite),
    (t = s ∨ t = s.setV .tFinal 0 0 ∨ t = (s.setV .tFinal 0 0).setV .tFinal 0 0) ∧ s.kickNvs = { t with nvsq := q, slots := l, nvsRun := r } := by
  unfold State.kickNvs State.startSlotWrite
  rcases dropLate_cases s with h | ⟨q, h⟩ <;> rw [h] <;> dsimp only
  · split <;> (try split) <;> (try split)
    · exact ⟨s, _, _, _, .inl rfl, rfl⟩
    · exact ⟨_, _, _, _, .inr (.inl rfl), rfl⟩
    · exact ⟨_, _, _, _, .inl rfl, rfl⟩
    · exact ⟨s, _, _, _, .inl rfl, rfl⟩
  · split <;> (try split) <;> (try split)
    · exact ⟨_, _, _, _, .inr (.inl rfl), rfl⟩
    · exact ⟨_, _, _, _, .inr (.inr rfl), rfl⟩
    · exact ⟨_, _, _, _, .inr (.inl rfl), rfl⟩
    · exact ⟨_, _, _, _, .inr (.inl rfl), rfl⟩

@[simp] theorem kickNvs_regs (s : State) : s.kickNvs.regs = s.regs := by
  obtain ⟨t, q, l, r, h, g⟩ := kickNvs_cases s
  rw [g]; rcases h with rfl | rfl | rfl <;> rfl
@[simp] theorem kickNvs_power (s : State) : s.kickNvs.power = s.power := by
  obtain ⟨t, q, l, r, h, g⟩ := kickNvs_cases s
  rw [g]; rcases h with rfl | rfl | rfl <;> rfl
@[simp] theorem rd_kickNvs (s : State) (f : Fld) (i : Nat) : s.kickNvs.rd f i = s.rd f i := rd_of_regs (kickNvs_regs ..) f i
@[simp] theorem rd_queueSlot (s : State) (d : Nat) (b : List Byte) (f : Fld) (i : Nat) : (s.queueSlot d b).rd f i = s.rd f i := rd_kickNvs ..
/-- A variable that is not the deadline of a final record holds what it held. -/
theorem v_kickNvs (s : State) {x : Var} {i : Nat} (h : x.ctorIdx ≠ Var.tFinal.ctorIdx) (hi : i < 1024) : s.kickNvs.v x i = s.v x i := by
  have e : ∀ u : State, (u.setV .tFinal 0 0).v x i = u.v x i := fun u => v_setV_ne u 0 (Ne.symm h) (by decide) hi
  obtain ⟨t, q, l, r, c, g⟩ := kickNvs_cases s
  have k : s.kickNvs.v x i = t.v x i := by rw [g]; rfl
  rcases c with rfl | rfl | rfl
  · exact k
  · exact k.trans (e s)
  · exact k.trans ((e _).trans (e s))
theorem v_queueSlot (s : State) (d : Nat) (b : List Byte) {x : Var} {i : Nat} (h : x.ctorIdx ≠ Var.tFinal.ctorIdx) (hi : i < 1024) : (s.queueSlot d b).v x i = s.v x i := v_kickNvs _ h hi
@[simp] theorem queueSlot_power (s : State) (d : Nat) (b : List Byte) : (s.queueSlot d b).power = s.power := kickNvs_power ..

/-! ### Memory writes -/

theorem putBytes_regs_vars (s : State) (a : Nat) (bs : List Byte) : (s.putBytes a bs).regs = s.regs ∧ (s.putBytes a bs).vars = s.vars ∧ (s.putBytes a bs).power = s.power := by
  unfold State.putBytes
  exact foldl_keeps (P := fun (t : State) => t.regs = s.regs ∧ t.vars = s.vars ∧ t.power = s.power) (fun (t : State) (p : Byte × Nat) => t.putByte (a + p.2) p.1) (fun b a h => h) _ s ⟨rfl, rfl, rfl⟩

@[simp] theorem rd_putBytes (s : State) (a : Nat) (bs : List Byte) (f : Fld) (i : Nat) : (s.putBytes a bs).rd f i = s.rd f i := rd_of_regs (putBytes_regs_vars ..).1 f i
@[simp] theorem v_putBytes (s : State) (a : Nat) (bs : List Byte) (x : Var) (i : Nat) : (s.putBytes a bs).v x i = s.v x i := v_of_vars (putBytes_regs_vars ..).2.1 x i
@[simp] theorem rd_putWord (s : State) (a w : Nat) (f : Fld) (i : Nat) : (s.putWord a w).rd f i = s.rd f i := rd_putBytes ..
@[simp] theorem v_putWord (s : State) (a w : Nat) (x : Var) (i : Nat) : (s.putWord a w).v x i = s.v x i := v_putBytes ..

end Sys2Proof.Machine.State
end

