-- ==== Sys2Proof/Laws/After.lean ====
section
/-!
SUPPORT. How a running block answers, and what follows every command, in the terms of the statements.
-/

set_option Elab.async false
set_option linter.all false

namespace Sys2Proof.Machine

/-- A running block answers with what follows the effect. -/
theorem act_after {s : State} {f : State → State} (hp : s.power = .running) : act s f = .next (f s).after := by
  unfold act State.after; rw [if_pos hp]

namespace State

theorem after_cases (s : State) : s.after = s.settle ∨ s.after = s := by unfold State.after; split <;> simp
theorem after_of_held {s : State} (h : s.power ≠ .running) : s.after = s := by unfold State.after; rw [if_neg h]

theorem after_rd (s : State) {f : Fld} {i : Nat} (h1 : f.base ≠ Reg.CAP_RATECHG.base) (h2 : f.base ≠ Reg.ICU_CORE_WAKEREQ.base) (hi : i < 256) : s.after.rd f i = s.rd f i := by
  rcases s.after_cases with h | h <;> rw [h]; exact s.settle_rd h1 h2 hi
theorem after_v (s : State) {x : Var} {i : Nat} (h : x ≠ .wakeAt) (hi : i < 1024) : s.after.v x i = s.v x i := by
  rcases s.after_cases with g | g <;> rw [g]; exact s.settle_v h hi
@[simp] theorem after_power (s : State) : s.after.power = s.power := by rcases s.after_cases with h | h <;> simp [h]
@[simp] theorem after_mem (s : State) : s.after.mem = s.mem := by rcases s.after_cases with h | h <;> simp [h]
@[simp] theorem after_now (s : State) : s.after.now = s.now := by rcases s.after_cases with h | h <;> simp [h]
@[simp] theorem after_sess (s : State) (p : Port) : s.after.sess p = s.sess p := by rcases s.after_cases with h | h <;> simp [h]
@[simp] theorem after_owner (s : State) : s.after.owner = s.owner := by rcases s.after_cases with h | h <;> simp [h]
@[simp] theorem after_slots (s : State) : s.after.slots = s.slots := by rcases s.after_cases with h | h <;> simp [h]
@[simp] theorem after_boot (s : State) : s.after.boot = s.boot := by rcases s.after_cases with h | h <;> simp [h]
@[simp] theorem after_events (s : State) : s.after.events = s.events := by rcases s.after_cases with h | h <;> simp [h]

end State

end Sys2Proof.Machine
end

