-- ==== Sys2Proof/Laws/Hamper.lean ====
section
/-!
SUPPORT. What a change of the Hamper mode leaves alone.
-/

set_option Elab.async false
set_option linter.all false

namespace Sys2Proof.Machine.State

/-- The fields that a change of the capacity in force may change. -/
def capBases : List Nat := [Reg.CUE_RMASK.base, Reg.CUE_CAP.base, Reg.CUE_REASON.base, Reg.CUE_LINK_THRNV.base] ++ evrBases

/-- The repeat timer of THROTTLE changes no field and no time (R236). -/
@[simp] theorem rd_throttleTimer (s : State) (f : Fld) (i : Nat) : s.throttleTimer.rd f i = s.rd f i := by
  unfold State.throttleTimer; split
  · exact rd_setV ..
  · split
    · exact rd_setV ..
    · rfl

@[simp] theorem throttleTimer_now (s : State) : s.throttleTimer.now = s.now := by
  have k : ∀ (t : State) (n : Int), (t.setV .tThr 0 n).now = t.now := fun _ _ => rfl
  unfold State.throttleTimer; split
  · exact k ..
  · split
    · exact k ..
    · rfl

/-- The capacity in force follows: the fields of CUE and of the recorder apart, nothing changes (R236). -/
theorem rd_capRefresh (s : State) {r : Nat} {f : Fld} {i : Nat} (h : f.base ∉ capBases) (hr : r < 256) (hi : i < 256) : (s.capRefresh r).rd f i = s.rd f i := by
  simp only [capBases, List.cons_append, List.nil_append, List.mem_cons, not_or] at h
  obtain ⟨h1, h2, h3, h4, h5⟩ := h
  have w : ∀ (t : State) (g : Fld) (n : Nat), f.base ≠ g.base → (t.wr g r n).rd f i = t.rd f i := fun t g n e => rd_wr_ne _ _ (Ne.symm e) hr hi
  unfold State.capRefresh
  extract_lets x u u1 u2
  have e0 : u.rd f i = s.rd f i := w _ _ _ h1
  have e1 : u1.rd f i = s.rd f i := by rw [rd_irq, rd_throttleTimer, w _ _ _ h3, w _ _ _ h2, e0]
  have e2 : u2.rd f i = s.rd f i := (rd_event _ _ _ _ h5 hi).trans e1
  split
  · exact e0
  · split
    · rw [rd_event _ _ _ _ h5 hi, rd_wr_ne _ _ (Ne.symm h4) (by decide) hi, e2]
    · exact (rd_setV ..).trans e2

theorem capRefresh_now (s : State) (r : Nat) : (s.capRefresh r).now = s.now := by
  unfold State.capRefresh
  extract_lets x u u1 u2
  have e1 : u1.now = s.now := by simp only [u1, u, irq_now, throttleTimer_now, wr_now]
  have e2 : u2.now = s.now := (event_now ..).trans e1
  split
  · exact wr_now ..
  · split
    · rw [event_now, wr_now]; exact e2
    · exact (setOn_now ..).trans e2

/-- The fields that a change of the Hamper mode may change. -/
def hamBases : List Nat := [Reg.HAM_CTL_AMODE.base, Reg.HAM_CTL_ICAUSE.base, Reg.HAM_STAT_HDR.base, Reg.HAM_STAT_HOLDT.base] ++ capBases

/-- Reason 4 is withdrawn: HDR and the capacities apart, no field changes (R254). -/
theorem rd_headroomEnd (s : State) {f : Fld} {i : Nat} (h : f.base ∉ hamBases) (hi : i < 256) : s.headroomEnd.rd f i = s.rd f i := by
  simp only [hamBases, List.cons_append, List.nil_append, List.mem_cons, not_or] at h
  obtain ⟨-, -, h3, -, h4⟩ := h
  have h5 : f.base ∉ evrBases := fun e => h4 (List.mem_append_right _ e)
  have d : ∀ (t : State) (r : Nat), r < 256 → (t.dropCap r 4).rd f i = t.rd f i := fun t r hr => rd_capRefresh _ h4 hr hi
  unfold State.headroomEnd
  split
  · simp only [List.range_succ, List.range_zero, List.nil_append, List.cons_append, List.foldl_cons, List.foldl_nil]
    rw [d _ 3 (by decide), d _ 2 (by decide), d _ 1 (by decide), d _ 0 (by decide), rd_event _ _ _ _ h5 hi, rd_setV, rd_wr_ne _ _ (Ne.symm h3) (by decide) hi]
  · rfl

theorem headroomEnd_now (s : State) : s.headroomEnd.now = s.now := by
  have d : ∀ (t : State) (r : Nat), (t.dropCap r 4).now = t.now := fun t r => capRefresh_now _ r
  unfold State.headroomEnd
  split
  · simp only [List.range_succ, List.range_zero, List.nil_append, List.cons_append, List.foldl_cons, List.foldl_nil, d, event_now]; rfl
  · rfl

/-- The RELAX timer changes no field (R271). -/
@[simp] theorem rd_relaxCheck (s : State) (f : Fld) (i : Nat) : s.relaxCheck.rd f i = s.rd f i := by
  unfold State.relaxCheck; split
  · split
    · exact rd_setV ..
    · rfl
  · exact (rd_setV ..).trans (rd_setV ..)

@[simp] theorem relaxCheck_now (s : State) : s.relaxCheck.now = s.now := by
  have k : ∀ (t : State) (x : Var) (n : Int), (t.setV x 0 n).now = t.now := fun _ _ _ => rfl
  unfold State.relaxCheck; split
  · split
    · exact k ..
    · rfl
  · exact (k ..).trans (k ..)

/-- The Hamper mode shown changes: AMODE, HDR and the capacities apart, no field does (R254). -/
theorem rd_showAmode (s : State) (m : Nat) {f : Fld} {i : Nat} (h : f.base ∉ hamBases) (hi : i < 256) : (s.showAmode m).rd f i = s.rd f i := by
  have h1 : f.base ≠ Reg.HAM_CTL_AMODE.base := fun e => h (e ▸ List.mem_cons_self)
  unfold State.showAmode
  split
  · rfl
  · extract_lets u u1
    have e : u.rd f i = s.rd f i := by simp only [u]; split; exact rd_headroomEnd s h hi; rfl
    have e1 : u1.rd f i = s.rd f i := by simp only [u1]; split; exact e; exact e
    rw [rd_relaxCheck, rd_irq, rd_wr_ne _ _ (Ne.symm h1) (by decide) hi, e1]

theorem showAmode_now (s : State) (m : Nat) : (s.showAmode m).now = s.now := by
  unfold State.showAmode
  split
  · rfl
  · extract_lets u u1
    have e : u.now = s.now := by simp only [u]; split; exact headroomEnd_now s; rfl
    have e1 : u1.now = s.now := by simp only [u1]; split; exact e; exact e
    rw [relaxCheck_now, irq_now]; exact e1

/-- Clearing the lane of a context changes internal variables alone (R154). -/
theorem clearLane_eq (s : State) (c : Nat) : ∃ v, s.clearLane c = { s with vars := v } := by
  have k : ∀ (l : List Nat) (t : State), (∃ v, t = { s with vars := v }) → ∃ v, l.foldl (fun (s : State) i => s.setV .vreg (c * 32 + i) 0) t = { s with vars := v } := by
    intro l; induction l with
    | nil => exact fun t ht => ht
    | cons a l ih => rintro t ⟨v, rfl⟩; exact ih _ ⟨_, rfl⟩
  have k2 : ∀ (l : List Var) (t : State), (∃ v, t = { s with vars := v }) → ∃ v, l.foldl (fun (s : State) x => s.setV x c 0) t = { s with vars := v } := by
    intro l; induction l with
    | nil => exact fun t ht => ht
    | cons a l ih => rintro t ⟨v, rfl⟩; exact ih _ ⟨_, rfl⟩
  exact k2 _ _ (k _ _ ⟨s.vars, rfl⟩)

/-- The count of a hold-up ends: HOLDT keeps its length, no other field changes (R264). -/
theorem rd_holdEnd (s : State) {f : Fld} {i : Nat} (h : f.base ≠ Reg.HAM_STAT_HOLDT.base) (hi : i < 256) : s.holdEnd.rd f i = s.rd f i := by
  unfold State.holdEnd; split
  · rfl
  · rw [rd_setV, rd_wr_ne _ _ (Ne.symm h) (by decide) hi]

@[simp] theorem holdEnd_now (s : State) : s.holdEnd.now = s.now := by
  have k : ∀ (t : State) (x : Var) (n : Int), (t.setV x 0 n).now = t.now := fun _ _ _ => rfl
  unfold State.holdEnd; split
  · rfl
  · exact (k ..).trans (wr_now ..)

/-- The Hamper mode in force changes: the fields of `hamBases` apart, none does (R249). -/
theorem rd_hamTake (s : State) (m cause : Nat) {f : Fld} {i : Nat} (h : f.base ∉ hamBases) (hi : i < 256) : (s.hamTake m cause).rd f i = s.rd f i := by
  have h2 : f.base ≠ Reg.HAM_CTL_ICAUSE.base := fun e => h (e ▸ by simp [hamBases])
  have h3 : f.base ≠ Reg.HAM_STAT_HOLDT.base := fun e => h (e ▸ by simp [hamBases])
  unfold State.hamTake
  extract_lets old u u1
  have e : u.rd f i = s.rd f i := by simp only [u]; rw [rd_setV, rd_wr_ne _ _ (Ne.symm h2) (by decide) hi, rd_showAmode s m h hi]
  have e1 : u1.rd f i = s.rd f i := by
    simp only [u1]; split
    · rw [rd_setV]; obtain ⟨v, hv⟩ := u.clearLane_eq 4; rw [hv]; exact e
    · split
      · exact (rd_holdEnd u h3 hi).trans e
      · exact e
  split
  · exact e
  · split
    · exact (rd_setV ..).trans e1
    · split
      · exact (rd_setV ..).trans e1
      · exact e1

theorem hamTake_now (s : State) (m cause : Nat) : (s.hamTake m cause).now = s.now := by
  unfold State.hamTake
  extract_lets old u u1
  have e : u.now = s.now := showAmode_now s m
  have e1 : u1.now = s.now := by
    simp only [u1]; split
    · obtain ⟨v, hv⟩ := u.clearLane_eq 4; rw [hv]; exact e
    · split
      · exact (holdEnd_now u).trans e
      · exact e
  split
  · exact e
  · split
    · exact (setV_now ..).trans e1
    · split
      · exact (setV_now ..).trans e1
      · exact e1

/-- While the carrier of H0 runs, the mode waits for its reload (R249). -/
theorem hamAtOnce_running {s : State} (h : s.on Reg.PWM_CEN 32 = true) : s.hamAtOnce = s := by unfold State.hamAtOnce; rw [if_pos h]

theorem rd_hamAtOnce (s : State) {f : Fld} {i : Nat} (h : f.base ∉ hamBases) (hi : i < 256) : s.hamAtOnce.rd f i = s.rd f i := by
  unfold State.hamAtOnce; split
  · rfl
  · exact rd_hamTake s _ _ h hi

@[simp] theorem hamAtOnce_now (s : State) : s.hamAtOnce.now = s.now := by
  unfold State.hamAtOnce; split
  · rfl
  · exact hamTake_now s _ _

@[simp] theorem hamAtOnce_mode (s : State) : s.hamAtOnce.mode = s.mode := s.rd_hamAtOnce (by decide) (by decide)

end Sys2Proof.Machine.State
end

