-- ==== Sys2Proof/WellFormed.lean ====
section
/-!
DEFINITION. Which commands stand for an event of the part: a list operand has the length that its rule fixes.
-/

namespace Sys2Proof

/-- A command whose list operand, if it has one, has the length of its rule: one entry per check reading, tap, converter, test, stage and word (R87, R99, R108, R418, R422, R428, R479). -/
def Instr.wellFormed : Instr → Bool
  | .judgementVerdict l => l.length == 8
  | .fineDelayMeasure _ l => l.length == 16
  | .calAdcDone l => l.length == 38
  | .bistDone l => l.length == 8
  | .discoveryDone l => l.length == 34
  | .telemetryPoll l _ => l.length == 34
  | .twxHxfrGo _ _ l => l.length == 4
  | _ => true

end Sys2Proof
end

