-- ==== Sys2Proof/Laws/PerInstr.lean ====
section
/-! SUPPORT. Statements made for every command. -/

set_option Elab.async false

namespace Sys2Proof.Laws.WellFormedForm

/-- The list operand of a command, if it has one whose length a rule fixes, with that length. -/
def listOperand : Instr → Option (Nat × Nat)
  | .judgementVerdict l => some (l.length, 8)
  | .fineDelayMeasure _ l => some (l.length, 16)
  | .calAdcDone l => some (l.length, 38)
  | .bistDone l => some (l.length, 8)
  | .discoveryDone l => some (l.length, 34)
  | .telemetryPoll l _ => some (l.length, 34)
  | .twxHxfrGo _ _ l => some (l.length, 4)
  | _ => none

/-- A command is well-formed exactly when its list operand has the length of its rule. -/
def Statement (i : Instr) : Prop := i.wellFormed = true ↔ ∀ x ∈ listOperand i, x.1 = x.2

theorem powerOn : Statement (.powerOn) := by simp [Statement, Instr.wellFormed, listOperand]
theorem supplyLoss : Statement (.supplyLoss) := by simp [Statement, Instr.wellFormed, listOperand]
theorem resetNAssert : Statement (.resetNAssert) := by simp [Statement, Instr.wellFormed, listOperand]
theorem resetRelease : Statement (.resetRelease) := by simp [Statement, Instr.wellFormed, listOperand]
theorem pllLock (addr0 addr1 safev : BitVec 16) : Statement (.pllLock addr0 addr1 safev) := by simp [Statement, Instr.wellFormed, listOperand]
theorem pllLockTimeout : Statement (.pllLockTimeout) := by simp [Statement, Instr.wellFormed, listOperand]
theorem bootTimerExpiry : Statement (.bootTimerExpiry) := by simp [Statement, Instr.wellFormed, listOperand]
theorem bootComplete : Statement (.bootComplete) := by simp [Statement, Instr.wellFormed, listOperand]
theorem clockFailure (why : ClockFault) : Statement (.clockFailure why) := by simp [Statement, Instr.wellFormed, listOperand]
theorem deferredReset : Statement (.deferredReset) := by simp [Statement, Instr.wellFormed, listOperand]
theorem watchdogKick (core : CoreId) (value : Word) : Statement (.watchdogKick core value) := by simp [Statement, Instr.wellFormed, listOperand]
theorem watchdogPrewarning (core : CoreId) : Statement (.watchdogPrewarning core) := by simp [Statement, Instr.wellFormed, listOperand]
theorem watchdogExpiry (core : CoreId) : Statement (.watchdogExpiry core) := by simp [Statement, Instr.wellFormed, listOperand]
theorem fatalCoreFault (core : CoreId) : Statement (.fatalCoreFault core) := by simp [Statement, Instr.wellFormed, listOperand]
theorem coreSleep (core : CoreId) : Statement (.coreSleep core) := by simp [Statement, Instr.wellFormed, listOperand]
theorem pwmReload (ch : Chan) : Statement (.pwmReload ch) := by simp [Statement, Instr.wellFormed, listOperand]
theorem pwmPeakReload (ch : Chan) : Statement (.pwmPeakReload ch) := by simp [Statement, Instr.wellFormed, listOperand]
theorem pwmTrip (ch : Chan) (path : TripPath) (t : Nat) : Statement (.pwmTrip ch path t) := by simp [Statement, Instr.wellFormed, listOperand]
theorem fltRegistered (ch : Timed 32) : Statement (.fltRegistered ch) := by simp [Statement, Instr.wellFormed, listOperand]
theorem syncEvent (ch : Chan) (carrier : BitVec 13) : Statement (.syncEvent ch carrier) := by simp [Statement, Instr.wellFormed, listOperand]
theorem synciEdge (err : Int) (t : Nat) : Statement (.synciEdge err t) := by simp [Statement, Instr.wellFormed, listOperand]
theorem synciLoss : Statement (.synciLoss) := by simp [Statement, Instr.wellFormed, listOperand]
theorem fineDelayMeasure (ch : Chan) (map : List Byte) : Statement (.fineDelayMeasure ch map) := by simp [Statement, Instr.wellFormed, listOperand]
theorem fdstaleTimeout (ch : Chan) : Statement (.fdstaleTimeout ch) := by simp [Statement, Instr.wellFormed, listOperand]
theorem csaSample (ch : Chan) (raw : BitVec 12) (t : Nat) : Statement (.csaSample ch raw t) := by simp [Statement, Instr.wellFormed, listOperand]
theorem csaSlopeSample (ch : Chan) (second : Bool) (raw : BitVec 12) (toff t : Nat) : Statement (.csaSlopeSample ch second raw toff t) := by simp [Statement, Instr.wellFormed, listOperand]
theorem vscConversion (vb : Bool) (slot : Fin 16) (raw : BitVec 14) : Statement (.vscConversion vb slot raw) := by simp [Statement, Instr.wellFormed, listOperand]
theorem judgementVerdict (readings : List (BitVec 16)) : Statement (.judgementVerdict readings) := by simp [Statement, Instr.wellFormed, listOperand]
theorem checkSourceRotate : Statement (.checkSourceRotate) := by simp [Statement, Instr.wellFormed, listOperand]
theorem leUpdate (ctx : Fin 5) (t : Nat) : Statement (.leUpdate ctx t) := by simp [Statement, Instr.wellFormed, listOperand]
theorem headroomWithdraw : Statement (.headroomWithdraw) := by simp [Statement, Instr.wellFormed, listOperand]
theorem endlyExpiry (r : Rail) : Statement (.endlyExpiry r) := by simp [Statement, Instr.wellFormed, listOperand]
theorem pgdlyExpiry (r : Rail) : Statement (.pgdlyExpiry r) := by simp [Statement, Instr.wellFormed, listOperand]
theorem rampdownTimeout (r : Rail) : Statement (.rampdownTimeout r) := by simp [Statement, Instr.wellFormed, listOperand]
theorem hiccupOffExpiry (r : Rail) : Statement (.hiccupOffExpiry r) := by simp [Statement, Instr.wellFormed, listOperand]
theorem retryClearTimer (r : Rail) : Statement (.retryClearTimer r) := by simp [Statement, Instr.wellFormed, listOperand]
theorem comparatorAssert (inst : Timed 48) : Statement (.comparatorAssert inst) := by simp [Statement, Instr.wellFormed, listOperand]
theorem comparatorRelease (inst : Timed 48) : Statement (.comparatorRelease inst) := by simp [Statement, Instr.wellFormed, listOperand]
theorem comparatorRawEdge (inst : Fin 48) (passed : Bool) : Statement (.comparatorRawEdge inst passed) := by simp [Statement, Instr.wellFormed, listOperand]
theorem hkaConversion (inst : Fin 40) (x : Int) : Statement (.hkaConversion inst x) := by simp [Statement, Instr.wellFormed, listOperand]
theorem cctSample (x : BitVec 16) : Statement (.cctSample x) := by simp [Statement, Instr.wellFormed, listOperand]
theorem shedDwellExpiry (r : Rail) : Statement (.shedDwellExpiry r) := by simp [Statement, Instr.wellFormed, listOperand]
theorem holdExpiry (r : Rail) : Statement (.holdExpiry r) := by simp [Statement, Instr.wellFormed, listOperand]
theorem chargeBalanceWindow (qmeas : Int) : Statement (.chargeBalanceWindow qmeas) := by simp [Statement, Instr.wellFormed, listOperand]
theorem phaseTableSaveTimer : Statement (.phaseTableSaveTimer) := by simp [Statement, Instr.wellFormed, listOperand]
theorem staleCheck : Statement (.staleCheck) := by simp [Statement, Instr.wellFormed, listOperand]
theorem swapCopyDone : Statement (.swapCopyDone) := by simp [Statement, Instr.wellFormed, listOperand]
theorem identChip : Statement (.identChip) := by simp [Statement, Instr.wellFormed, listOperand]
theorem identRecordEnd (bandH : Bool) : Statement (.identRecordEnd bandH) := by simp [Statement, Instr.wellFormed, listOperand]
theorem fftDone : Statement (.fftDone) := by simp [Statement, Instr.wellFormed, listOperand]
theorem identPublish : Statement (.identPublish) := by simp [Statement, Instr.wellFormed, listOperand]
theorem autoRetuneRetry : Statement (.autoRetuneRetry) := by simp [Statement, Instr.wellFormed, listOperand]
theorem cueClockQualified : Statement (.cueClockQualified) := by simp [Statement, Instr.wellFormed, listOperand]
theorem cueDeskewDone : Statement (.cueDeskewDone) := by simp [Statement, Instr.wellFormed, listOperand]
theorem cueTrain (vmax vmin rails : Byte) : Statement (.cueTrain vmax vmin rails) := by simp [Statement, Instr.wellFormed, listOperand]
theorem cueVcmd (seq : BitVec 4) (rail : BitVec 2) (code : BitVec 12) (vid : Byte) : Statement (.cueVcmd seq rail code vid) := by simp [Statement, Instr.wellFormed, listOperand]
theorem cueSlew (seq : BitVec 4) (rail : BitVec 2) (slew : BitVec 10) : Statement (.cueSlew seq rail slew) := by simp [Statement, Instr.wellFormed, listOperand]
theorem cueFcst (seq : BitVec 4) (rail : BitVec 2) (fid : BitVec 4) (di lead : BitVec 16) (lc dur : Byte) (t : Nat) : Statement (.cueFcst seq rail fid di lead lc dur t) := by simp [Statement, Instr.wellFormed, listOperand]
theorem cueCancel (seq : BitVec 4) (rail : BitVec 2) (fid : BitVec 4) (t : Nat) : Statement (.cueCancel seq rail fid t) := by simp [Statement, Instr.wellFormed, listOperand]
theorem cueState (seq : BitVec 4) (lp : Bool) : Statement (.cueState seq lp) := by simp [Statement, Instr.wellFormed, listOperand]
theorem cueQuiet (seq : BitVec 4) (start : Byte) (qdur : BitVec 16) : Statement (.cueQuiet seq start qdur) := by simp [Statement, Instr.wellFormed, listOperand]
theorem cuePing (seq : BitVec 4) (token : Byte) : Statement (.cuePing seq token) := by simp [Statement, Instr.wellFormed, listOperand]
theorem cueBadPacket (err : CueErr) : Statement (.cueBadPacket err) := by simp [Statement, Instr.wellFormed, listOperand]
theorem cueCodeViolation : Statement (.cueCodeViolation) := by simp [Statement, Instr.wellFormed, listOperand]
theorem cueLinkLoss (why : CueLoss) : Statement (.cueLinkLoss why) := by simp [Statement, Instr.wellFormed, listOperand]
theorem returnPacketStart : Statement (.returnPacketStart) := by simp [Statement, Instr.wellFormed, listOperand]
theorem telemTimer : Statement (.telemTimer) := by simp [Statement, Instr.wellFormed, listOperand]
theorem statusTimer : Statement (.statusTimer) := by simp [Statement, Instr.wellFormed, listOperand]
theorem throttleRepeat : Statement (.throttleRepeat) := by simp [Statement, Instr.wellFormed, listOperand]
theorem forecastRampStart (r : Rail) : Statement (.forecastRampStart r) := by simp [Statement, Instr.wellFormed, listOperand]
theorem forecastWindowClose (r : Rail) : Statement (.forecastWindowClose r) := by simp [Statement, Instr.wellFormed, listOperand]
theorem ibQualified : Statement (.ibQualified) := by simp [Statement, Instr.wellFormed, listOperand]
theorem holdmaxExpiry : Statement (.holdmaxExpiry) := by simp [Statement, Instr.wellFormed, listOperand]
theorem curtainGapExpiry : Statement (.curtainGapExpiry) := by simp [Statement, Instr.wellFormed, listOperand]
theorem gaugeUpdate : Statement (.gaugeUpdate) := by simp [Statement, Instr.wellFormed, listOperand]
theorem startupReconcile (vocMv : Nat) : Statement (.startupReconcile vocMv) := by simp [Statement, Instr.wellFormed, listOperand]
theorem relaxExpiry : Statement (.relaxExpiry) := by simp [Statement, Instr.wellFormed, listOperand]
theorem restAnchorReading (vrvMv : Nat) : Statement (.restAnchorReading vrvMv) := by simp [Statement, Instr.wellFormed, listOperand]
theorem restWindowStart : Statement (.restWindowStart) := by simp [Statement, Instr.wellFormed, listOperand]
theorem restWindowEnd : Statement (.restWindowEnd) := by simp [Statement, Instr.wellFormed, listOperand]
theorem restGrantLapse : Statement (.restGrantLapse) := by simp [Statement, Instr.wellFormed, listOperand]
theorem stateRecordTimer : Statement (.stateRecordTimer) := by simp [Statement, Instr.wellFormed, listOperand]
theorem brownoutWarning : Statement (.brownoutWarning) := by simp [Statement, Instr.wellFormed, listOperand]
theorem brownoutRelease : Statement (.brownoutRelease) := by simp [Statement, Instr.wellFormed, listOperand]
theorem writeInhibit : Statement (.writeInhibit) := by simp [Statement, Instr.wellFormed, listOperand]
theorem slotWriteDone : Statement (.slotWriteDone) := by simp [Statement, Instr.wellFormed, listOperand]
theorem eventRecordWrite : Statement (.eventRecordWrite) := by simp [Statement, Instr.wellFormed, listOperand]
theorem bucketRefill (code : BitVec 16) : Statement (.bucketRefill code) := by simp [Statement, Instr.wellFormed, listOperand]
theorem mramReadError (read : MramRead) : Statement (.mramReadError read) := by simp [Statement, Instr.wellFormed, listOperand]
theorem captureStall (ch : Fin 16) : Statement (.captureStall ch) := by simp [Statement, Instr.wellFormed, listOperand]
theorem healthPeriod : Statement (.healthPeriod) := by simp [Statement, Instr.wellFormed, listOperand]
theorem spectrumDone : Statement (.spectrumDone) := by simp [Statement, Instr.wellFormed, listOperand]
theorem calAdcDone (factors : List CalFactor) : Statement (.calAdcDone factors) := by simp [Statement, Instr.wellFormed, listOperand]
theorem characterisePoint (phase bin : Fin 32) (trim : Int) : Statement (.characterisePoint phase bin trim) := by simp [Statement, Instr.wellFormed, listOperand]
theorem characteriseDone : Statement (.characteriseDone) := by simp [Statement, Instr.wellFormed, listOperand]
theorem bistDone (results : List BistResult) : Statement (.bistDone results) := by simp [Statement, Instr.wellFormed, listOperand]
theorem updateCommitDone : Statement (.updateCommitDone) := by simp [Statement, Instr.wellFormed, listOperand]
theorem discoveryDone (probes : List StageProbe) : Statement (.discoveryDone probes) := by simp [Statement, Instr.wellFormed, listOperand]
theorem twxTransactionEnd (how : TwxEnd) (cleared : Bool) (data : Word) : Statement (.twxTransactionEnd how cleared data) := by simp [Statement, Instr.wellFormed, listOperand]
theorem twxArbLost : Statement (.twxArbLost) := by simp [Statement, Instr.wellFormed, listOperand]
theorem twxLowTimeout (released : Bool) : Statement (.twxLowTimeout released) := by simp [Statement, Instr.wellFormed, listOperand]
theorem twxBusyTimeout : Statement (.twxBusyTimeout) := by simp [Statement, Instr.wellFormed, listOperand]
theorem telemetryPoll (readings : List TelemReading) (late : Bool) : Statement (.telemetryPoll readings late) := by simp [Statement, Instr.wellFormed, listOperand]
theorem twPointerWrite (p : Port) (ptr : Byte) (extra : List Byte) : Statement (.twPointerWrite p ptr extra) := by simp [Statement, Instr.wellFormed, listOperand]
theorem twPacketWrite (p : Port) (bytes : List Byte) : Statement (.twPacketWrite p bytes) := by simp [Statement, Instr.wellFormed, listOperand]
theorem twReplyRead (p : Port) (n : Nat) : Statement (.twReplyRead p n) := by simp [Statement, Instr.wellFormed, listOperand]
theorem twSummaryRead (p : Port) (n : Nat) : Statement (.twSummaryRead p n) := by simp [Statement, Instr.wellFormed, listOperand]
theorem twReplyReread (p : Port) (n : Nat) : Statement (.twReplyReread p n) := by simp [Statement, Instr.wellFormed, listOperand]
theorem twBusError (p : Port) : Statement (.twBusError p) := by simp [Statement, Instr.wellFormed, listOperand]
theorem twSmbusTimeout (p : Port) : Statement (.twSmbusTimeout p) := by simp [Statement, Instr.wellFormed, listOperand]
theorem hspPacketWrite (bytes : List Byte) : Statement (.hspPacketWrite bytes) := by simp [Statement, Instr.wellFormed, listOperand]
theorem hspReplyRead (n : Nat) : Statement (.hspReplyRead n) := by simp [Statement, Instr.wellFormed, listOperand]
theorem hspSummaryRead (n : Nat) : Statement (.hspSummaryRead n) := by simp [Statement, Instr.wellFormed, listOperand]
theorem hspReplyReread (n : Nat) : Statement (.hspReplyReread n) := by simp [Statement, Instr.wellFormed, listOperand]
theorem sessionTimeout (p : Port) : Statement (.sessionTimeout p) := by simp [Statement, Instr.wellFormed, listOperand]
theorem leaseLapse : Statement (.leaseLapse) := by simp [Statement, Instr.wellFormed, listOperand]
theorem handoverComplete : Statement (.handoverComplete) := by simp [Statement, Instr.wellFormed, listOperand]
theorem drainEnd : Statement (.drainEnd) := by simp [Statement, Instr.wellFormed, listOperand]
theorem interruptEntry (core : CoreId) : Statement (.interruptEntry core) := by simp [Statement, Instr.wellFormed, listOperand]
theorem interruptReturn (core : CoreId) : Statement (.interruptReturn core) := by simp [Statement, Instr.wellFormed, listOperand]
theorem wakeFallback (src : Fin 128) : Statement (.wakeFallback src) := by simp [Statement, Instr.wellFormed, listOperand]
theorem systemTick : Statement (.systemTick) := by simp [Statement, Instr.wellFormed, listOperand]
theorem breakpointHit (bp : Fin 24) : Statement (.breakpointHit bp) := by simp [Statement, Instr.wellFormed, listOperand]
theorem tapReset : Statement (.tapReset) := by simp [Statement, Instr.wellFormed, listOperand]
theorem tapUpdateIr (ir : BitVec 5) : Statement (.tapUpdateIr ir) := by simp [Statement, Instr.wellFormed, listOperand]
theorem tapDbgacc (addr data : Word) (size : BitVec 2) (write : Bool) : Statement (.tapDbgacc addr data size write) := by simp [Statement, Instr.wellFormed, listOperand]
theorem expertUnlock (p : Port) (h : Hdr) : Statement (.expertUnlock p h) := by simp [Statement, Instr.wellFormed, listOperand]
theorem expertLock (p : Port) (h : Hdr) : Statement (.expertLock p h) := by simp [Statement, Instr.wellFormed, listOperand]
theorem commitGo (p : Port) (h : Hdr) : Statement (.commitGo p h) := by simp [Statement, Instr.wellFormed, listOperand]
theorem leSwapArm (p : Port) (h : Hdr) : Statement (.leSwapArm p h) := by simp [Statement, Instr.wellFormed, listOperand]
theorem leHalt (p : Port) (h : Hdr) (halt : Bool) : Statement (.leHalt p h halt) := by simp [Statement, Instr.wellFormed, listOperand]
theorem cctSnap (p : Port) (h : Hdr) : Statement (.cctSnap p h) := by simp [Statement, Instr.wellFormed, listOperand]
theorem cctEnable (p : Port) (h : Hdr) (en : Bool) : Statement (.cctEnable p h en) := by simp [Statement, Instr.wellFormed, listOperand]
theorem capJobFire (p : Port) (h : Hdr) (job : Fin 8) : Statement (.capJobFire p h job) := by simp [Statement, Instr.wellFormed, listOperand]
theorem twxRedisc (p : Port) (h : Hdr) : Statement (.twxRedisc p h) := by simp [Statement, Instr.wellFormed, listOperand]
theorem twxHxfrGo (p : Port) (h : Hdr) (words : List Word) : Statement (.twxHxfrGo p h words) := by simp [Statement, Instr.wellFormed, listOperand]
theorem softwareInterrupt (core : CoreId) : Statement (.softwareInterrupt core) := by simp [Statement, Instr.wellFormed, listOperand]
theorem icuEoi (core : CoreId) (src : Byte) : Statement (.icuEoi core src) := by simp [Statement, Instr.wellFormed, listOperand]
theorem icuSetpend (src : Fin 128) : Statement (.icuSetpend src) := by simp [Statement, Instr.wellFormed, listOperand]
theorem icuClrpend (src : Fin 128) : Statement (.icuClrpend src) := by simp [Statement, Instr.wellFormed, listOperand]
theorem icuEnset (src : Fin 128) : Statement (.icuEnset src) := by simp [Statement, Instr.wellFormed, listOperand]
theorem icuEnclr (src : Fin 128) : Statement (.icuEnclr src) := by simp [Statement, Instr.wellFormed, listOperand]
theorem dbgDrst : Statement (.dbgDrst) := by simp [Statement, Instr.wellFormed, listOperand]
theorem dbgHalt (sc ac : Bool) : Statement (.dbgHalt sc ac) := by simp [Statement, Instr.wellFormed, listOperand]
theorem dbgStep (core : CoreId) : Statement (.dbgStep core) := by simp [Statement, Instr.wellFormed, listOperand]
theorem dbgLeHaltreq (req : Bool) : Statement (.dbgLeHaltreq req) := by simp [Statement, Instr.wellFormed, listOperand]
theorem dbgLeStep : Statement (.dbgLeStep) := by simp [Statement, Instr.wellFormed, listOperand]
theorem registerWrite (byDebug : Bool) (obj : BitVec 16) (inst : Byte) (word : BitVec 4) (value : Word) : Statement (.registerWrite byDebug obj inst word value) := by simp [Statement, Instr.wellFormed, listOperand]
theorem hello (p : Port) (h : Hdr) (pl : List Byte) : Statement (.hello p h pl) := by simp [Statement, Instr.wellFormed, listOperand]
theorem claim (p : Port) (h : Hdr) (pl : List Byte) : Statement (.claim p h pl) := by simp [Statement, Instr.wellFormed, listOperand]
theorem yield (p : Port) (h : Hdr) (pl : List Byte) : Statement (.yield p h pl) := by simp [Statement, Instr.wellFormed, listOperand]
theorem grant (p : Port) (h : Hdr) (pl : List Byte) : Statement (.grant p h pl) := by simp [Statement, Instr.wellFormed, listOperand]
theorem heartbeat (p : Port) (h : Hdr) (pl : List Byte) : Statement (.heartbeat p h pl) := by simp [Statement, Instr.wellFormed, listOperand]
theorem fence (p : Port) (h : Hdr) (pl : List Byte) : Statement (.fence p h pl) := by simp [Statement, Instr.wellFormed, listOperand]
theorem abort (p : Port) (h : Hdr) (pl : List Byte) : Statement (.abort p h pl) := by simp [Statement, Instr.wellFormed, listOperand]
theorem creditsReport (p : Port) (h : Hdr) (pl : List Byte) : Statement (.creditsReport p h pl) := by simp [Statement, Instr.wellFormed, listOperand]
theorem creditsReclaim (p : Port) (h : Hdr) (pl : List Byte) : Statement (.creditsReclaim p h pl) := by simp [Statement, Instr.wellFormed, listOperand]
theorem get (p : Port) (h : Hdr) (pl : List Byte) : Statement (.get p h pl) := by simp [Statement, Instr.wellFormed, listOperand]
theorem set (p : Port) (h : Hdr) (pl : List Byte) : Statement (.set p h pl) := by simp [Statement, Instr.wellFormed, listOperand]
theorem getblk (p : Port) (h : Hdr) (pl : List Byte) : Statement (.getblk p h pl) := by simp [Statement, Instr.wellFormed, listOperand]
theorem setblk (p : Port) (h : Hdr) (pl : List Byte) : Statement (.setblk p h pl) := by simp [Statement, Instr.wellFormed, listOperand]
theorem peek (p : Port) (h : Hdr) (pl : List Byte) : Statement (.peek p h pl) := by simp [Statement, Instr.wellFormed, listOperand]
theorem poke (p : Port) (h : Hdr) (pl : List Byte) : Statement (.poke p h pl) := by simp [Statement, Instr.wellFormed, listOperand]
theorem railCfg (p : Port) (h : Hdr) (pl : List Byte) : Statement (.railCfg p h pl) := by simp [Statement, Instr.wellFormed, listOperand]
theorem railOn (p : Port) (h : Hdr) (pl : List Byte) : Statement (.railOn p h pl) := by simp [Statement, Instr.wellFormed, listOperand]
theorem railOff (p : Port) (h : Hdr) (pl : List Byte) : Statement (.railOff p h pl) := by simp [Statement, Instr.wellFormed, listOperand]
theorem setv (p : Port) (h : Hdr) (pl : List Byte) : Statement (.setv p h pl) := by simp [Statement, Instr.wellFormed, listOperand]
theorem setslew (p : Port) (h : Hdr) (pl : List Byte) : Statement (.setslew p h pl) := by simp [Statement, Instr.wellFormed, listOperand]
theorem loadline (p : Port) (h : Hdr) (pl : List Byte) : Statement (.loadline p h pl) := by simp [Statement, Instr.wellFormed, listOperand]
theorem phaseMap (p : Port) (h : Hdr) (pl : List Byte) : Statement (.phaseMap p h pl) := by simp [Statement, Instr.wellFormed, listOperand]
theorem shedPolicy (p : Port) (h : Hdr) (pl : List Byte) : Statement (.shedPolicy p h pl) := by simp [Statement, Instr.wellFormed, listOperand]
theorem understudyName (p : Port) (h : Hdr) (pl : List Byte) : Statement (.understudyName p h pl) := by simp [Statement, Instr.wellFormed, listOperand]
theorem understudyWithdraw (p : Port) (h : Hdr) (pl : List Byte) : Statement (.understudyWithdraw p h pl) := by simp [Statement, Instr.wellFormed, listOperand]
theorem understudyRetire (p : Port) (h : Hdr) (pl : List Byte) : Statement (.understudyRetire p h pl) := by simp [Statement, Instr.wellFormed, listOperand]
theorem hamperCfg (p : Port) (h : Hdr) (pl : List Byte) : Statement (.hamperCfg p h pl) := by simp [Statement, Instr.wellFormed, listOperand]
theorem gaugeRead (p : Port) (h : Hdr) (pl : List Byte) : Statement (.gaugeRead p h pl) := by simp [Statement, Instr.wellFormed, listOperand]
theorem restGrantNow (p : Port) (h : Hdr) (pl : List Byte) : Statement (.restGrantNow p h pl) := by simp [Statement, Instr.wellFormed, listOperand]
theorem restGrantAtQuiet (p : Port) (h : Hdr) (pl : List Byte) : Statement (.restGrantAtQuiet p h pl) := by simp [Statement, Instr.wellFormed, listOperand]
theorem restDeny (p : Port) (h : Hdr) (pl : List Byte) : Statement (.restDeny p h pl) := by simp [Statement, Instr.wellFormed, listOperand]
theorem restCancel (p : Port) (h : Hdr) (pl : List Byte) : Statement (.restCancel p h pl) := by simp [Statement, Instr.wellFormed, listOperand]
theorem protCfg (p : Port) (h : Hdr) (pl : List Byte) : Statement (.protCfg p h pl) := by simp [Statement, Instr.wellFormed, listOperand]
theorem faultClear (p : Port) (h : Hdr) (pl : List Byte) : Statement (.faultClear p h pl) := by simp [Statement, Instr.wellFormed, listOperand]
theorem thermCfg (p : Port) (h : Hdr) (pl : List Byte) : Statement (.thermCfg p h pl) := by simp [Statement, Instr.wellFormed, listOperand]
theorem captureArm (p : Port) (h : Hdr) (pl : List Byte) : Statement (.captureArm p h pl) := by simp [Statement, Instr.wellFormed, listOperand]
theorem captureFire (p : Port) (h : Hdr) (pl : List Byte) : Statement (.captureFire p h pl) := by simp [Statement, Instr.wellFormed, listOperand]
theorem captureCancel (p : Port) (h : Hdr) (pl : List Byte) : Statement (.captureCancel p h pl) := by simp [Statement, Instr.wellFormed, listOperand]
theorem captureRead (p : Port) (h : Hdr) (pl : List Byte) : Statement (.captureRead p h pl) := by simp [Statement, Instr.wellFormed, listOperand]
theorem spectrum (p : Port) (h : Hdr) (pl : List Byte) : Statement (.spectrum p h pl) := by simp [Statement, Instr.wellFormed, listOperand]
theorem healthRead (p : Port) (h : Hdr) (pl : List Byte) : Statement (.healthRead p h pl) := by simp [Statement, Instr.wellFormed, listOperand]
theorem healthBaseline (p : Port) (h : Hdr) (pl : List Byte) : Statement (.healthBaseline p h pl) := by simp [Statement, Instr.wellFormed, listOperand]
theorem healthEsrArm (p : Port) (h : Hdr) (pl : List Byte) : Statement (.healthEsrArm p h pl) := by simp [Statement, Instr.wellFormed, listOperand]
theorem healthEsrDisarm (p : Port) (h : Hdr) (pl : List Byte) : Statement (.healthEsrDisarm p h pl) := by simp [Statement, Instr.wellFormed, listOperand]
theorem identRun (p : Port) (h : Hdr) (pl : List Byte) : Statement (.identRun p h pl) := by simp [Statement, Instr.wellFormed, listOperand]
theorem identRead (p : Port) (h : Hdr) (pl : List Byte) : Statement (.identRead p h pl) := by simp [Statement, Instr.wellFormed, listOperand]
theorem retune (p : Port) (h : Hdr) (pl : List Byte) : Statement (.retune p h pl) := by simp [Statement, Instr.wellFormed, listOperand]
theorem logOpen (p : Port) (h : Hdr) (pl : List Byte) : Statement (.logOpen p h pl) := by simp [Statement, Instr.wellFormed, listOperand]
theorem logRead (p : Port) (h : Hdr) (pl : List Byte) : Statement (.logRead p h pl) := by simp [Statement, Instr.wellFormed, listOperand]
theorem logClose (p : Port) (h : Hdr) (pl : List Byte) : Statement (.logClose p h pl) := by simp [Statement, Instr.wellFormed, listOperand]
theorem logClear (p : Port) (h : Hdr) (pl : List Byte) : Statement (.logClear p h pl) := by simp [Statement, Instr.wellFormed, listOperand]
theorem logPolicy (p : Port) (h : Hdr) (pl : List Byte) : Statement (.logPolicy p h pl) := by simp [Statement, Instr.wellFormed, listOperand]
theorem mode (p : Port) (h : Hdr) (pl : List Byte) : Statement (.mode p h pl) := by simp [Statement, Instr.wellFormed, listOperand]
theorem reset (p : Port) (h : Hdr) (pl : List Byte) : Statement (.reset p h pl) := by simp [Statement, Instr.wellFormed, listOperand]
theorem identify (p : Port) (h : Hdr) (pl : List Byte) : Statement (.identify p h pl) := by simp [Statement, Instr.wellFormed, listOperand]
theorem status (p : Port) (h : Hdr) (pl : List Byte) : Statement (.status p h pl) := by simp [Statement, Instr.wellFormed, listOperand]
theorem calAdc (p : Port) (h : Hdr) (pl : List Byte) : Statement (.calAdc p h pl) := by simp [Statement, Instr.wellFormed, listOperand]
theorem bist (p : Port) (h : Hdr) (pl : List Byte) : Statement (.bist p h pl) := by simp [Statement, Instr.wellFormed, listOperand]
theorem characterise (p : Port) (h : Hdr) (pl : List Byte) : Statement (.characterise p h pl) := by simp [Statement, Instr.wellFormed, listOperand]
theorem updateBegin (p : Port) (h : Hdr) (pl : List Byte) : Statement (.updateBegin p h pl) := by simp [Statement, Instr.wellFormed, listOperand]
theorem updateData (p : Port) (h : Hdr) (pl : List Byte) : Statement (.updateData p h pl) := by simp [Statement, Instr.wellFormed, listOperand]
theorem updateCommit (p : Port) (h : Hdr) (pl : List Byte) : Statement (.updateCommit p h pl) := by simp [Statement, Instr.wellFormed, listOperand]
theorem referenceRecovery : Statement (.referenceRecovery) := by simp [Statement, Instr.wellFormed, listOperand]
theorem fltRelease (ch : Timed 32) : Statement (.fltRelease ch) := by simp [Statement, Instr.wellFormed, listOperand]

end Sys2Proof.Laws.WellFormedForm
end

