-- ==== Sys2Proof/Laws/Reset.lean ====
section
/-!
SUPPORT. Everything a device reset leaves.
-/

set_option Elab.async false
set_option linter.all false

namespace Sys2Proof.Machine.State

/-- The state a reset starts from: what it keeps, before variables and causes. -/
def resetBase (s : State) (r : Nat) : State :=
  { State.reset with
    mem := s.mem.filter (fun x => (decide (0x40000000 ≤ x.1) && decide (x.1 < 0x40240000)) || (!decide (r = rstPowerOn ∨ r = rstBrownOut) && decide (0x20000000 ≤ x.1) && decide (x.1 < 0x20080000)))
    ring := if stopMode s.mode then s.ring else s.ring.map (fun x => (x.1, { x.2 with inRun := false }))
    recSeq := s.recSeq
    slots := s.slots
    boot := s.boot
    freeCtr := s.freeCtr
    pending := s.pending }

/-- All that a device reset leaves: the base, variables, and the three cause fields. -/
theorem devReset_eq (s : State) (r : Nat) : ∃ vars, ∃ u : State, u = { s.resetBase r with vars := vars } ∧
    s.devReset r =
      (let s4 := if r = rstPowerOn then u else u.wr Reg.CLK_STATUS_FAILCNT 0 (s.rd Reg.CLK_STATUS_FAILCNT)
       let s5 := if r = rstFatal then (s4.wr Reg.ICU_CORE_FATAL 0 (s.rd Reg.ICU_CORE_FATAL 0)).wr Reg.ICU_CORE_FATAL 1 (s.rd Reg.ICU_CORE_FATAL 1) else s4
       s5.wr Reg.SYS_BOOT_RSTCAUSE 0 r) := by
  unfold State.devReset
  extract_lets src supply src2 s0 s1 s2 s3
  let P := fun t : State => ∃ v, t = { s.resetBase r with vars := v }
  have hset : ∀ (t : State) x i n, P t → P (t.setV x i n) := by
    rintro t x i n ⟨v, rfl⟩; exact ⟨_, rfl⟩
  have h0 : P s0 := ⟨s0.vars, rfl⟩
  have h1 : P s1 := foldl_keeps (P := P) (fun (t : State) (x : Var × Nat) => (List.range x.2).foldl (fun (t : State) i => t.setV x.1 i (s.v x.1 i)) t)
    (fun b a h => foldl_keeps (P := P) (fun (t : State) i => t.setV a.1 i (s.v a.1 i)) (fun t i h => hset t a.1 i (s.v a.1 i) h) _ b h) _ s0 h0
  have h2 : P s2 := foldl_keeps (P := P) (fun (t : State) k => t.setV .tokEpoch k (t.v .tokEpoch k + 1)) (fun t k h => hset t _ _ _ h) _ s1 h1
  have h3 : P s3 := by
    by_cases hs : supply
    · simp only [s3, if_pos hs]; exact hset _ _ _ _ h2
    · simp only [s3, if_neg hs]; exact h2
  obtain ⟨v, hv⟩ := h3
  exact ⟨v, s3, hv, rfl⟩

@[simp] theorem devReset_power (s : State) (r : Nat) : (s.devReset r).power = .held := by
  obtain ⟨v, u, hu, h⟩ := s.devReset_eq r
  rw [h]; dsimp only; split <;> split <;> (subst hu; rfl)
@[simp] theorem devReset_slots (s : State) (r : Nat) : (s.devReset r).slots = s.slots := by
  obtain ⟨v, u, hu, h⟩ := s.devReset_eq r
  rw [h]; dsimp only; split <;> split <;> (subst hu; rfl)
@[simp] theorem devReset_boot (s : State) (r : Nat) : (s.devReset r).boot = s.boot := by
  obtain ⟨v, u, hu, h⟩ := s.devReset_eq r
  rw [h]; dsimp only; split <;> split <;> (subst hu; rfl)
@[simp] theorem devReset_recSeq (s : State) (r : Nat) : (s.devReset r).recSeq = s.recSeq := by
  obtain ⟨v, u, hu, h⟩ := s.devReset_eq r
  rw [h]; dsimp only; split <;> split <;> (subst hu; rfl)
@[simp] theorem devReset_owner (s : State) (r : Nat) : (s.devReset r).owner = none := by
  obtain ⟨v, u, hu, h⟩ := s.devReset_eq r
  rw [h]; dsimp only; split <;> split <;> (subst hu; rfl)
@[simp] theorem devReset_pending (s : State) (r : Nat) : (s.devReset r).pending = s.pending := by
  obtain ⟨v, u, hu, h⟩ := s.devReset_eq r
  rw [h]; dsimp only; split <;> split <;> (subst hu; rfl)
@[simp] theorem devReset_icu (s : State) (r : Nat) : (s.devReset r).icu = ⟨0, 0, 0, [], [], []⟩ := by
  obtain ⟨v, u, hu, h⟩ := s.devReset_eq r
  rw [h]; dsimp only; split <;> split <;> (subst hu; rfl)
@[simp] theorem devReset_sess (s : State) (r : Nat) (p : Port) : (s.devReset r).sess p = Session.none := by
  obtain ⟨v, u, hu, h⟩ := s.devReset_eq r
  rw [h]; dsimp only; split <;> split <;> (subst hu; cases p <;> rfl)
theorem devReset_mem (s : State) (r : Nat) : (s.devReset r).mem = (s.resetBase r).mem := by
  obtain ⟨v, u, hu, h⟩ := s.devReset_eq r
  rw [h]; dsimp only; split <;> split <;> (subst hu; rfl)

/-- RSTCAUSE names the cause (R49). -/
theorem devReset_cause (s : State) (r : Nat) : (s.devReset r).rd Reg.SYS_BOOT_RSTCAUSE = r % 16 := by
  obtain ⟨v, u, hu, h⟩ := s.devReset_eq r
  rw [h]; exact rd_wr_same ..

/-- Every other field is at its reset value, but FAILCNT and, after a fatal fault, FATAL. -/
theorem devReset_rd (s : State) (r : Nat) {f : Fld} {i : Nat} (h1 : f.key i ≠ Reg.SYS_BOOT_RSTCAUSE.key 0) (h2 : f.key i ≠ Reg.CLK_STATUS_FAILCNT.key 0 ∨ r = rstPowerOn)
    (h3 : (f.key i ≠ Reg.ICU_CORE_FATAL.key 0 ∧ f.key i ≠ Reg.ICU_CORE_FATAL.key 1) ∨ r ≠ rstFatal) : (s.devReset r).rd f i = fldReset f i := by
  obtain ⟨v, u, hu, h⟩ := s.devReset_eq r
  have hr : u.rd f i = fldReset f i := by subst hu; rfl
  rw [h]
  dsimp only
  rw [rd_wr_key _ _ (Ne.symm h1)]
  have h4 : (if r = rstPowerOn then u else u.wr Reg.CLK_STATUS_FAILCNT 0 (s.rd Reg.CLK_STATUS_FAILCNT)).rd f i = fldReset f i := by
    split
    · exact hr
    · rename_i hp
      rw [rd_wr_key _ _ (Ne.symm (h2.resolve_right hp))]; exact hr
  split
  · rename_i hf
    obtain ⟨ha, hb⟩ := h3.resolve_right (by simpa using hf)
    rw [rd_wr_key _ _ (Ne.symm hb), rd_wr_key _ _ (Ne.symm ha)]; exact h4
  · exact h4

/-- FAILCNT lives through every reset but power-on (R26). -/
theorem devReset_failcnt (s : State) (r : Nat) (h0 : r ≠ rstPowerOn) : (s.devReset r).rd Reg.CLK_STATUS_FAILCNT = s.rd Reg.CLK_STATUS_FAILCNT % 2 ^ Reg.CLK_STATUS_FAILCNT.width := by
  obtain ⟨v, u, hu, h⟩ := s.devReset_eq r
  rw [h]
  dsimp only
  rw [rd_wr_ne _ _ (by decide) (by decide) (by decide), if_neg h0]
  split
  · rw [rd_wr_ne _ _ (by decide) (by decide) (by decide), rd_wr_ne _ _ (by decide) (by decide) (by decide)]; exact rd_wr_same ..
  · exact rd_wr_same ..

/-- FATAL lives through the reset that it causes (R445). -/
theorem devReset_fatal (s : State) (c : CoreId) : (s.devReset rstFatal).rd Reg.ICU_CORE_FATAL c.idx = s.rd Reg.ICU_CORE_FATAL c.idx % 2 := by
  obtain ⟨v, u, hu, h⟩ := s.devReset_eq rstFatal
  rw [h]
  dsimp only
  rw [rd_wr_ne _ _ (by decide) (by decide) (by cases c <;> decide), if_pos rfl]
  cases c
  · rw [rd_wr_inst _ _ (by decide)]; exact rd_wr_same ..
  · exact rd_wr_same ..

/-- A byte of the MRAM lives through every reset. -/
theorem devReset_mram (s : State) (r : Nat) {a : Nat} (h1 : 0x40000000 ≤ a) (h2 : a < 0x40240000) : (s.devReset r).byteAt a = s.byteAt a := by
  have hk : ∀ t : State, t.contentKey a = a := by intro t; unfold State.contentKey; split_ifs <;> omega
  have hf : ∀ (p : Host.Cell → Bool) (l : List Host.Cell), (∀ b, p (a, b) = true) → kvFind a (l.filter p) = kvFind a l := by
    intro p l hp
    induction l with
    | nil => rfl
    | cons x l ih =>
      by_cases hx : x.1 = a
      · have : p x = true := by have := hp x.2; rw [← hx] at this; exact this
        simp [List.filter, this, kvFind, hx]
      · by_cases hpx : p x = true <;> simp [List.filter, hpx, kvFind, hx, ih]
  unfold State.byteAt
  rw [hk, hk, devReset_mem]
  unfold State.resetBase
  dsimp only
  rw [hf _ _ (by intro b; simp [h1, h2])]

end Sys2Proof.Machine.State
end

