-- ==== Sys2Proof/Laws/Rows.lean ====
section
/-!
SUPPORT. What a host row does once its command waits: the body of its opcode on the state without the command, then the reply; and what the state without the command still shows.
-/

namespace Sys2Proof.Laws

open Machine Machine.State

variable {s : State} {p : Port} {h : Hdr} {pl : List Byte} {op : Nat} {c : Cmd}

@[simp] theorem taken_rd (s : State) (p : Port) (f : Fld) (i : Nat) : (s.taken p).rd f i = s.rd f i := by cases p <;> rfl
@[simp] theorem taken_on (s : State) (p : Port) (f : Fld) (i : Nat) : (s.taken p).on f i = s.on f i := by cases p <;> rfl
@[simp] theorem taken_stg (s : State) (p : Port) (f : Fld) (i : Nat) : (s.taken p).stg f i = s.stg f i := by cases p <;> rfl
@[simp] theorem taken_v (s : State) (p : Port) (x : Var) (i : Nat) : (s.taken p).v x i = s.v x i := by cases p <;> rfl
@[simp] theorem taken_vn (s : State) (p : Port) (x : Var) (i : Nat) : (s.taken p).vn x i = s.vn x i := by cases p <;> rfl
@[simp] theorem taken_vOn (s : State) (p : Port) (x : Var) (i : Nat) : (s.taken p).vOn x i = s.vOn x i := by cases p <;> rfl
@[simp] theorem taken_mode (s : State) (p : Port) : (s.taken p).mode = s.mode := by cases p <;> rfl
@[simp] theorem taken_power (s : State) (p : Port) : (s.taken p).power = s.power := by cases p <;> rfl
@[simp] theorem taken_owner (s : State) (p : Port) : (s.taken p).owner = s.owner := by cases p <;> rfl
@[simp] theorem taken_servedIl (s : State) (p : Port) : (s.taken p).servedIl = s.servedIl := by cases p <;> rfl
@[simp] theorem taken_railState (s : State) (p : Port) (r : Nat) : (s.taken p).railState r = s.railState r := by cases p <;> rfl
@[simp] theorem taken_railLive (s : State) (p : Port) (r : Nat) : (s.taken p).railLive r = s.railLive r := by cases p <;> rfl
@[simp] theorem taken_rampingDown (s : State) (p : Port) (r : Nat) : (s.taken p).rampingDown r = s.rampingDown r := by cases p <;> rfl
@[simp] theorem taken_anyLive (s : State) (p : Port) : (s.taken p).anyLive = s.anyLive := by cases p <;> rfl
@[simp] theorem taken_stagesOff (s : State) (p : Port) : (s.taken p).stagesOff = s.stagesOff := by cases p <;> rfl
@[simp] theorem taken_ring (s : State) (p : Port) : (s.taken p).ring = s.ring := by cases p <;> rfl
@[simp] theorem taken_update (s : State) (p : Port) : (s.taken p).update = s.update := by cases p <;> rfl
@[simp] theorem taken_spectra (s : State) (p : Port) : (s.taken p).spectra = s.spectra := by cases p <;> rfl
@[simp] theorem taken_log (s : State) (p : Port) : ((s.taken p).sess p).log = (s.sess p).log := by cases p <;> rfl

/-- The row executes the waiting command: the body of the opcode on the state without it, then the reply. -/
theorem hostRow_waiting (w : s.Waiting p h pl op c) (f : State → Port → Cmd → State.Result) :
    hostRow op p h pl f s = answered (f (s.taken p) p c) p c := by
  obtain ⟨hp, hs, ho, hq, hr, hd, h1, h2, h3, h4⟩ := w
  have e : s.updSess p (fun x => { x with queue := x.queue.erase c }) = s.taken p := by
    unfold State.taken State.updSess
    have : (s.sess p).queue.erase c = [] := by rw [hq]; simp
    simp only [this]
  simp only [hostRow, runQueued, hq, h1, h2, h3, h4, hs, mustWait, hr, hd, e, answered, List.any_cons, List.any_nil, List.find?_cons, beq_self_eq_true, Bool.and_self, Bool.or_false, if_true,
    List.takeWhile_cons, Bool.not_true, Option.any_none, Option.isSome_none, Bool.false_and, Bool.false_eq_true, if_false]

/-- A row of the host runs as its body says. -/
theorem runs_of_body {i : Instr} {f : State → Port → Cmd → State.Result} {e : State → Cmd → State.Result} (hx : exec i s = act s (hostRow op p h pl f))
    (hb : ∀ c, s.Waiting p h pl op c → f (s.taken p) p c = e (s.taken p) c) : Runs i s p h pl op e := by
  intro c w
  rw [hx, act_after w.1, hostRow_waiting w, hb c w]

end Sys2Proof.Laws
end

