-- ==== Sys2Proof/Tests/Slice0.lean ====
section
/-!
SUPPORT. Small tests of the model, and for each statement with hypotheses states and operands that meet them.
-/

namespace Sys2Proof.Tests

set_option Elab.async false

open Machine Machine.State

/-! ### States -/

/-- Register fields written: field, index, value. -/
def setF (l : List (Fld × Nat × Nat)) (s : State) : State := l.foldl (fun s x => s.wr x.1 x.2.1 x.2.2) s

/-- Variables set: variable, index, value. -/
def setVs (l : List (Var × Nat × Int)) (s : State) : State := l.foldl (fun s x => s.setV x.1 x.2.1 x.2.2) s

/-- A block that runs, its registers as after reset. -/
def run0 : State := { State.reset with power := .running }

/-- A running image in a mode. -/
def inMode (m : Nat) : State :=
  setF [(Reg.SYS_MODE_MODE, 0, m), (Reg.SYS_IMAGE_EFFIL, 0, 4), (Reg.CLK_STATUS_LOCK, 0, 1), (Reg.CLK_STATUS_REFOK, 0, 1), (Reg.TWX_STAT_DISC, 0, 0), (Reg.THM_THRA, 0, 0)]
    (setVs [(.pllSeen, 0, 1), (.bootRun, 0, 1), (.wdtAt, 0, 1), (.wdtAt, 1, 1), (.wdtTmo, 0, 100), (.wdtTmo, 1, 100)] { run0 with now := 1000000 })

def sby : State := inMode mStandby
def reh : State := inMode mRehearsal

/-- ACTIVE, with channels 3 and 4 the phases of rail B in a rail state. -/
def rail (st : Nat) : State :=
  setF [(Reg.PHM_ASSIGN, 3, 1), (Reg.PHM_RAIL, 3, 1), (Reg.PHM_ROLE, 3, 1), (Reg.PHM_ASSIGN, 4, 1), (Reg.PHM_RAIL, 4, 1), (Reg.PHM_ROLE, 4, 1), (Reg.PWM_CEN, 3, 1), (Reg.PWM_OST, 3, 1), (Reg.PWM_CEN, 4, 1),
    (Reg.PWM_OST, 4, 1), (Reg.CSA_EN, 3, 1), (Reg.CSA_SLOPE, 3, 1), (Reg.SYS_RAILST_STATE_B, 0, st), (Reg.LE_VSRC, 1, 1), (Reg.LE_TGTNOW, 1, 1000), (Reg.LE_VMAX, 1, 3000), (Reg.LE_VMIN, 1, 100)]
    (setVs [(.en, 1, 1)] (inMode mActive))

/-- The same with a pulse on channel 3. -/
def pulse (w acc pfp : Nat) : State :=
  setF [(Reg.PWM_WSH, 3, w), (Reg.PWM_WACT, 3, 30000), (Reg.PWM_RLDM, 3, 1), (Reg.PWM_ACC, 3, acc), (Reg.PWM_PFP, 3, pfp), (Reg.PWM_SYNCSEL, 3, 1), (Reg.PWM_TRIPSEL, 3, 2), (Reg.PWM_FLTTRIP, 3, 1), (Reg.PWM_FLTLIVE, 3, 1)]
    (setVs [(.pulseWr, 3, 15000), (.edgeEr, 3, 2000)] (rail 2))

/-- The Cue link up at version 3, a window open on rail B. -/
def linked : State :=
  setVs [(.tFcRamp, 1, 2000001), (.fcTa, 1, 3000000), (.fcLift, 1, 555), (.fcClose, 1, 2500001), (.fcDi, 1, 1000), (.fcWin, 1, 32768)]
    (setF [(Reg.CUE_LINK_STATE, 0, linkUp), (Reg.CUE_LINK_AV, 0, 3), (Reg.CUE_OPEN, 1, 1), (Reg.CUE_FID, 1, 5)] (rail 2))

/-- An open session. -/
def opened : Session := { Session.none with isOpen := true, av := 3, almask := 511, lastSeq := 76, lastPkt := some (76, 5, 8, 1) }

/-- A header at version 3. -/
def hdr (obj : Nat) : Hdr := ⟨0x30#8, 7#8, BitVec.ofNat 16 obj, 77#16⟩

/-- The owner's session of a port, with one admitted command. -/
def owned (p : Port) (s : State) : State := { (s.setSess p opened).setV .tLease 0 1200000000 with owner := some p }

def cmd (op obj : Nat) (pl : List Byte) : Cmd := ⟨op, 3, 7, obj, 77, pl, true, true, false⟩

def queued (p : Port) (op obj : Nat) (pl : List Byte) (s : State) : State :=
  { s.setSess p { opened with queue := [cmd op obj pl], outst := [7] } with owner := some p }

/-- A command that waits meets what the opcodes' statements ask of the queue. -/
theorem queued_waiting (p : Port) (op obj : Nat) (pl : List Byte) (s : State) (h : obj < 65536) (hr : s.power = .running) (hs : s.scStopped = false) (ht : s.retuning = none) (hd : s.draining = none) :
    (queued p op obj pl s).Waiting p (hdr obj) pl op (cmd op obj pl) := by
  refine ⟨?_, ?_, ?_, ?_, ?_, ?_, rfl, rfl, ?_, rfl⟩
  · cases p <;> exact hr
  · cases p <;> exact hs
  · cases p <;> rfl
  · cases p <;> rfl
  · cases p <;> exact ht
  · cases p <;> exact hd
  · show obj = (BitVec.ofNat 16 obj).toNat
    rw [BitVec.toNat_ofNat]; omega

theorem witness_waiting : sby.power = .running ∧ sby.scStopped = false ∧ sby.retuning = none ∧ sby.draining = none ∧ (reh.power = .running ∧ reh.scStopped = false) ∧
    ((rail 2).power = .running ∧ (rail 2).scStopped = false ∧ (rail 2).retuning = none ∧ (rail 2).draining = none) := by decide +kernel

/-! ### Supply, reset, start -/

theorem witness_HeldBlockTakesNothing : State.reset.power ≠ .running ∧ Instr.systemTick ∉ heldRows ∧ ∀ ir, Instr.systemTick ≠ .tapUpdateIr ir := by
  refine ⟨by decide, by decide, fun ir => by simp⟩

theorem witness_SupplyRowsAct : ({ State.reset with power := .off } : State).power = .off ∧ State.reset.power ≠ .off ∧ State.reset.power = .held := by decide +kernel

theorem witness_ResetPinKeepsStore : run0.power ≠ .off := by decide +kernel

/-- BOOT before PLL lock, a start that the marker shows unfinished. -/
def unlocked : State := { run0 with boot := { run0.boot with marker := true, streak := 1, pendingReason := 3 }, regs := (run0.wr Reg.SYS_BOOT_RSTCAUSE 0 1).regs }

theorem witness_FailureRowsAct :
    (run0.mode = mBoot ∧ (setVs [(.tReset, 0, 5), (.curReset, 0, 3)] sby).vn .tReset ≠ 0 ∧ (setVs [(.tReset, 0, 5), (.curReset, 0, 3)] sby).vn .curReset ≠ 0) ∧
    (unlocked.power = .running ∧ unlocked.mode = mBoot ∧ unlocked.vOn .pllSeen = false ∧ unlocked.boot.marker = true ∧ unlocked.boot.streak < 2 ∧ unlocked.rd Reg.SYS_BOOT_RSTCAUSE ≠ rstPowerOn ∧
      unlocked.rd Reg.SYS_BOOT_RSTCAUSE ≠ rstBrownOut ∧ unlocked.boot.pendingReason ≠ 0) ∧
    ((inMode mBoot).vOn .pllSeen = true ∧ (inMode mBoot).mode = mBoot ∧ sby.vOn .pllSeen = true ∧ sby.mode ≠ mBoot ∧ sby.mode ≠ mSafestop) := by decide +kernel

/-- What PLL lock makes of a state. -/
def locked (s : State) : State :=
  (((((s.wr Reg.CLK_STATUS_LOCK 0 1).wr Reg.CLK_STATUS_REFOK 0 1).wr Reg.CLK_STATUS_ONRC 0 0).setV .pllSeen 0 1).latchStraps 0 0 0).accounting

/-- The same with two failed starts behind it. -/
def twice : State := { unlocked with boot := { unlocked.boot with streak := 2 } }

theorem witness_StartRowsAct :
    (unlocked.power = .running ∧ unlocked.mode = mBoot ∧ unlocked.vOn .pllSeen = false ∧ (locked unlocked).boot.streak ≠ 3 ∧ (locked twice).boot.streak = 3) ∧
    (sby.vOn .bootRun = true ∧ sby.on Reg.TWX_STAT_DISC = false ∧ (inMode mBoot).mode = mBoot ∧ sby.vOn .bootLatch = false ∧ (sby.setV .bootLatch 0 1).vOn .bootLatch = true) := by decide +kernel

/-! ### Watchdogs, cores, interrupts, debug -/

theorem witness_WatchdogRowsAct :
    (bit 0x5A3C2064 13 = true ∧ 1 ≤ bits 0x5A3C2001 9 0 ∧ bits 0x000003E8 9 0 ≤ 1000 ∧ bits 0x5A3C2001 31 16 = 0x5A3C ∧ bits 0x000003E8 31 16 ≠ 0x5A3C) ∧
    (sby.wdtRuns .ac = true ∧ sby.vOn .wdtPre 1 = false ∧ sby.anyLive = false ∧ (rail 2).wdtRuns .sc = true ∧ (rail 2).anyLive = true ∧ sby.coreRuns .sc = true ∧ (rail 2).coreRuns .ac = true) := by decide +kernel

/-- Source 2 pending for a sleeping SC. -/
def asleep : State :=
  { setF [(Reg.ICU_CORE_SLEEP, 0, 1), (Reg.ICU_CORE_WAKEREQ, 0, 1), (Reg.ICU_TGT, 2, 0), (Reg.ICU_PRIO, 2, 5)] sby with icu := { sby.icu with pend := BitVec.twoPow 128 2, en := BitVec.twoPow 128 2 } }

theorem witness_CoreRowsAct :
    (asleep.coreRuns .sc = true ∧ asleep.icuWinner .sc = some 2 ∧ sby.icuWinner .sc = none) ∧
    (asleep.icuTarget 2 = .sc ∧ asleep.on Reg.ICU_CTL_FBEN = true ∧ asleep.on Reg.ICU_CORE_SLEEP 0 = true ∧ asleep.on Reg.ICU_CORE_WAKEREQ 0 = true ∧ asleep.vOn .fbSrc 2 = false) := by decide +kernel

theorem witness_WinnerIsHighest : asleep.icuWinner .sc = some 2 := by decide +kernel

/-- Source 5 on the stack of the SC. -/
def stacked : State := { sby with icu := { sby.icu with stackSc := [(5, 3)] } }

theorem witness_IcuRegisterRowsAct :
    (stacked.stack .sc = [(5, 3)] ∧ (stacked.stack .sc).head?.all (fun x => x.1 != 6) = true ∧ (sby.stack .sc).head?.all (fun x => x.1 != 5) = true) ∧
    (0 ∉ icuReserved ∧ 3 ∈ icuReserved ∧ 119 ∈ icuReserved ∧ (sby.rd Reg.ICU_SENSE 120 ≠ 0 ∨ sby.icu.input.getLsbD 120 = false) ∧
      8 ∉ icuReserved ∧ sby.rd Reg.ICU_SENSE 8 = 0 ∧ ({ sby with icu := { sby.icu with input := BitVec.twoPow 128 8 } } : State).icu.input.getLsbD 8 = true) := by decide +kernel

theorem witness_DebugRowsAct :
    (sby.coreHalted .sc = false ∧ sby.coreHalted .ac = false ∧ (sby.wr Reg.DBG_STAT_SCHALTED 0 1).coreHalted .sc = true ∧ sby.on Reg.DBG_CTL_STEPIRQ = false ∧
      sby.underTest .sc = false ∧ sby.underTest .ac = false ∧ (setF [(Reg.BIST_STAT_RUN, 0, 1), (Reg.BIST_STAT_SEL, 0, 1)] reh).underTest .sc = true ∧
      (let s := setF [(Reg.DBGBP_EN, 17, 1), (Reg.DBGBP_EN, 3, 1), (Reg.DBG_STAT_SCHALTED, 0, 1), (State.causeFld .sc, 0, 2)] sby;
        ∀ bp ∈ [3, 17], State.bpCore bp = .sc → s.on Reg.DBGBP_EN bp = true ∧ s.on Reg.DBGBP_ACT bp = false ∧ s.coreHalted .sc = true ∧ s.rd (State.causeFld .sc) = 2) ∧ State.bpCore 3 = .sc ∧
      (sby.wr Reg.DBGBP_EN 23 1).on Reg.DBGBP_EN 23 = true ∧ sby.coreRuns (State.bpCore 23) = true ∧ sby.on Reg.DBGBP_ACT 23 = false) ∧
    (sby.mode ≠ mRehearsal ∧ reh.mode = mRehearsal ∧ reh.stagesOff = true ∧ (reh.wr Reg.LE_CTL_HALTED 0 1).on Reg.LE_CTL_HALTED = true ∧ reh.on Reg.LE_CTL_HALTED = false) := by decide +kernel

theorem witness_TapActs : sby.power ≠ .off ∧ State.pinInstr 2 = false ∧ State.pinInstr 0 = true ∧ reh.power = .running ∧ (reh.wr Reg.DBG_CTL_BSEN 0 1).mode = mRehearsal ∧ (reh.wr Reg.DBG_CTL_BSEN 0 1).on Reg.DBG_CTL_BSEN = true ∧
    sby.mode ≠ mRehearsal ∧ reh.on Reg.DBG_CTL_BSEN = false := by decide +kernel

/-! ### The PWM array -/

theorem witness_ReloadsAct :
    ((sby.wr Reg.PWM_CEN 32 1).on Reg.PWM_CEN 32 = true ∧ (rail 2).power = .running ∧ (rail 2).on Reg.PWM_CEN 3 = true ∧ (rail 2).railOf 3 = some 1 ∧ (rail 2).lead 1 = some 3 ∧
      (rail 2).railOf 4 = some 1 ∧ (rail 2).on Reg.PWM_CEN 4 = true ∧ sby.on Reg.PWM_CEN 3 = false ∧ sby.vOn .shadowNew 3 = false) ∧
    ((pulse 40000 0 0).on Reg.PWM_RLDM 3 = true ∧ ((pulse 40000 0 0).setV .shadowNew 3 1).vOn .shadowNew 3 = true ∧ (pulse 40000 0 0).rd Reg.PWM_WACT 3 ≠ 0 ∧ (pulse 40000 0 0).vOn .tripLatch 3 = false ∧
      (pulse 40000 0 0).v .edgeEr 3 + 16 * ((pulse 40000 0 0).rd Reg.PWM_DT_DTR ((pulse 40000 0 0).dtSet 3) : Int) ≤ 256 * (((pulse 40000 0 0).half 3 : Int) - 2)) := by decide +kernel

/-- The floor of channel 3 is 6144, its maximum 184320: the clauses of the policy at their edges. -/
theorem witness_PulseFloorPolicy :
    (∀ x ∈ [(6144, 0, 0), (184320, 0, 0), (6143, 0, 1), (1, 0, 1), (6143, 9, 0), (3000, 3143, 2), (3000, 3144, 2)],
      let s := pulse x.1 x.2.1 x.2.2
      let w := s.rd Reg.PWM_WSH 3 + (if s.policy 3 = 2 then s.rd Reg.PWM_ACC 3 else 0)
      s.on Reg.PWM_CEN 3 = true ∧ s.rd Reg.PWM_OST 3 = ostLive ∧ 0 < w ∧ w ≤ s.maxW 3 ∧ w < 2 ^ 21 ∧ s.floorW 3 = 6144 ∧ s.policy 3 = x.2.2) := by decide +kernel

theorem witness_TripRowsAct :
    (∀ path ∈ [TripPath.filtered, .asynchronous, .faultPin],
      let s := pulse 40000 77 0
      s.on Reg.PWM_CEN 3 = true ∧ s.rd Reg.PWM_OST 3 = ostLive ∧ s.tripEnabled 3 path = true ∧ s.vOn .tripLatch 3 = false ∧ s.tripOpen 3 = true ∧ s.vOn .tripWait 3 = false ∧ s.railOf 3 = some 1) ∧
    (let s := setVs [(.riseAt, 3, 16000), (.fallAt, 3, 32000), (.blankNow, 3, 100), (.cmpFilt, 3, 1)] (setF [(Reg.CMP_EN, 3, 1), (Reg.CMP_OUT, 3, 1)] (pulse 40000 77 0));
      s.tripLevel 3 .filtered = true ∧ s.tripLevel 3 .faultPin = true ∧ s.blanked 3 1099 = true ∧ s.blanked 3 1100 = false ∧ s.v .riseAt 3 ≤ 16 * 1100 ∧ 16 * 1100 < s.v .fallAt 3 ∧ 16 * 999 < s.v .riseAt 3 ∧ s.v .riseAt 3 < s.v .fallAt 3 ∧
        ((setVs [(.blankNow, 3, 0), (.riseAt, 3, 1600000)] s).blanked 3 999 = false) ∧ (s.wr Reg.PWM_OST 3 0).tripOpen 3 = false ∧ (s.wr Reg.PWM_TRIPSEL 3 1).tripEnabled 3 .filtered = false) ∧
    (let s := setF [(Reg.PWM_CEN, 32, 1), (Reg.PWM_OST, 32, ostLive), (Reg.PWM_TRIPSEL, 32, 2), (Reg.CMP_EN, 44, 1), (Reg.CMP_OUT, 44, 1), (Reg.PROT_CTL_HTRIPN, 0, 4)] sby;
      s.tripOpen 32 = true ∧ s.tripEnabled 32 .asynchronous = true ∧ s.blanked 32 5 = false ∧ s.vOn .hamTripped = false ∧ s.v .hamTrips + 1 < s.rd Reg.PROT_CTL_HTRIPN) ∧
    (((rail 2).wr Reg.PWM_FLTTRIP 3 0).on Reg.PWM_FLTTRIP 3 = false ∧ (rail 2).vOn .tripWait 3 = false) ∧
    ((rail 2).on Reg.PHM_ASSIGN 3 = true ∧ (rail 2).borrowed 3 = false) := by decide +kernel

def tracking : State := setF [(Reg.PWM_REF_SYNCIM, 0, 1)] (setVs [(.synciLast, 0, 5001)] sby)

theorem witness_SyncRowsAct :
    ((pulse 40000 0 0).on Reg.PWM_CEN 3 = true ∧ (pulse 40000 0 0).rd Reg.PWM_SYNCSEL 3 ≠ 0 ∧ 0 < (pulse 40000 0 0).half 3 ∧ (pulse 40000 0 0).rd Reg.PWM_PHSV 3 = 0 ∧ (pulse 40000 0 0).half 3 = 400) ∧
    (tracking.rd Reg.PWM_REF_SYNCIM = 1 ∧ (tracking.setV .synciLast 0 0).vn .synciLast = 0 ∧ tracking.vn .synciLast ≠ 0 ∧ 266 ≤ 5266 + 1 - tracking.vn .synciLast ∧ 10334 + 1 - tracking.vn .synciLast ≤ 5334 ∧
      tracking.vn .synciM = 0 ∧ tracking.vn .synciValid < 7 ∧
      (let s := setVs [(.synciValid, 0, 7), (.synciM, 0, 800)] tracking;
        (800 : Nat) = 5800 + 1 - s.vn .synciLast ∧ 7 ≤ s.vn .synciValid ∧ (s.synciError 800 0).natAbs ≤ 2 ∧ 2 < (s.synciError 800 100).natAbs) ∧ 5265 + 1 - tracking.vn .synciLast < 266 ∧ 5334 < 10335 + 1 - tracking.vn .synciLast) ∧
    ((List.replicate 16 9#8).length = 16 ∧ (rail 2).on Reg.PWM_CEN 3 = true ∧ (rail 2).on Reg.PWM_FDSTALE 3 = false) := by decide +kernel

/-! ### Converters -/

theorem witness_CurrentRowsAct :
    ((pulse 40000 0 0).on Reg.CSA_EN 3 = true ∧ (pulse 40000 0 0).borrowed 3 = false ∧ -2048 < (2049#12).toInt ∧ (2046#12).toInt < 2047 ∧ (pulse 40000 0 0).rd Reg.PWM_WACT 3 ≠ 0 ∧ (pulse 40000 0 0).vOn .csaTrip 3 = false ∧
      (pulse 40000 0 0).on Reg.CAL_STAT_BUSY = false ∧ (pulse 40000 0 0).vOn .sampDone 3 = false ∧ (pulse 40000 0 0).vOn .tripWait 3 = false ∧ (pulse 40000 0 0).rd Reg.PWM_OST 3 = ostLive ∧ (pulse 40000 0 0).converting 3 5 = false ∧
      (setVs [(.convEnd, 3, 80), (.convSlope, 3, 1)] (pulse 40000 0 0)).converting 3 79 = true ∧ (setVs [(.convEnd, 3, 80), (.convSlope, 3, 1)] (pulse 40000 0 0)).vOn .convSlope 3 = true) ∧
    ((pulse 40000 0 0).on Reg.CSA_SLOPE 3 = true) := by decide +kernel

/-- A judgement that runs, the taps' sums of one reading each. -/
def judged (va vb : Int) : State := setVs ((List.range 8).flatMap (fun i => [(.chkVa, i, va), (.chkVb, i, vb)])) (sby.wr Reg.VSC_STATUS_JUDGE 0 1)

def nearTap (s : State) (x : Var) (h : Int) : Prop := ((List.range 8).foldl (fun a i => a + s.v x i) 0 * 8000 - h * 65536).natAbs ≤ 96 * 65536

theorem witness_VoltageRowsAct :
    (sby.on Reg.VSC_STATUS_VABAD = false ∧ sby.on Reg.VSC_STATUS_VBBAD = false ∧ sby.on Reg.VSC_STATUS_SOLO = false ∧ sby.rd Reg.VSC_CHECK_CHKSRC = 0 ∧ sby.on Reg.CAL_STAT_BUSY = false ∧ sby.vOn .soloNow = false ∧ (sby.wr Reg.VSC_STATUS_SOLO 0 1).on Reg.VSC_STATUS_SOLO = true ∧
      (setF [(Reg.VSC_STATUS_VABAD, 0, 1), (Reg.CAL_STAT_BUSY, 0, 1)] sby).on Reg.VSC_STATUS_VABAD = true ∧
      (∀ f ∈ schedSlots[3]?, 1 ≤ (sby.wr f 0 1).rd f 0 ∧ (sby.wr f 0 1).rd f 0 < srcIib)) ∧
    ((judged 0 0).on Reg.VSC_STATUS_JUDGE = true ∧ nearTap (judged 0 0) .chkVa 0 ∧ nearTap (judged 0 0) .chkVb 0 ∧ ¬ nearTap (judged 1000 0) .chkVa 0 ∧ nearTap (judged 1000 0) .chkVb 0 ∧
      nearTap (judged 98 0) .chkVa 0 ∧ ¬ nearTap (judged 99 0) .chkVa 0 ∧ ¬ nearTap (judged 1000 1000) .chkVa 0 ∧ ¬ nearTap (judged 1000 1000) .chkVb 0) := by
  unfold nearTap; decide +kernel

theorem witness_SlowConvertersAct :
    ((sby.wr Reg.HKA_WEIGHT 11 1).rd Reg.HKA_WEIGHT 11 ≠ 0 ∧ (sby.wr Reg.HKA_WEIGHT 39 1).rd Reg.HKA_WEIGHT 39 ≠ 0 ∧ sby.on Reg.CCT_CTL_EN = true ∧ (sby.wr Reg.CCT_CTL_EN 0 0).on Reg.CCT_CTL_EN = false ∧ (sby.wr Reg.HKA_WEIGHT 39 0).rd Reg.HKA_WEIGHT 39 = 0 ∧
      sby.calStep 1200000 1520000 = false ∧ sby.calStep 1520000 1680000 = false ∧ ((sby.wr Reg.CAL_STAT_BUSY 0 1).setV .calAt 0 2).calStep 1200000 1520000 = false ∧
      (let s : State := (sby.wr Reg.CAL_STAT_BUSY 0 1).setV .calAt 0 1;
        { s with now := 1300000 }.calStep 1200000 1520000 = true ∧ { s with now := 1600000 }.calStep 1520000 1680000 = true)) ∧
    (let s := setF [(Reg.THM_WARNA, 0, 0), (Reg.THM_SDA, 0, 0)] sby;
      s.on Reg.THM_WARNA 0 = false ∧ s.on Reg.THM_THRA 0 = false ∧ s.on Reg.THM_SDA 0 = false ∧ degOf (s.rd Reg.THM_WARN 0) < degOf (s.rd Reg.THM_THR 0) ∧ degOf (s.rd Reg.THM_WARN 0) < degOf (s.rd Reg.THM_SD 0)) := by decide +kernel


/-! ### Ends of procedures, the loop engine, rails, phases -/

/-- Both images of an update, of length 0; the CRC of no bytes is 0. -/
def committing (crc : Nat) : Update := ⟨true, [⟨1, 1, 3, 1, 0, crc, 0⟩, ⟨2, 1, 3, 0, 0, 0, 0⟩], 1, 5, true, mStandby⟩

theorem witness_ProcedureEndsAct :
    ((List.replicate 38 (⟨0, 32768⟩ : CalFactor)).length = 38 ∧ (sby.wr Reg.CAL_STAT_BUSY 0 1).on Reg.CAL_STAT_BUSY = true ∧ (sby.setV .calStop 0 80000).vOn .calStop = true ∧ sby.on Reg.CAL_STAT_BUSY = false) ∧
    ((List.replicate 8 (⟨0, 0, 0, 0⟩ : BistResult)).length = 8 ∧ (reh.wr Reg.BIST_STAT_RUN 0 1).on Reg.BIST_STAT_RUN = true) ∧
    (({ inMode mUpdate with update := some (committing 1) } : State).commitStatus (committing 1) ≠ stOk ∧ ({ inMode mUpdate with update := some (committing 0) } : State).commitStatus (committing 0) = stOk ∧
      (committing 0).source ≠ mMinimal ∧ (committing 0).committing = true ∧ sby.update = none) := by decide +kernel

theorem witness_LoopRowsAct :
    sby.on Reg.LE_CTL_HALTED = false ∧ (sby.setV .inWait 0 1).vOn .inWait 0 = true ∧ (sby.setV .inWait 3 1).vOn .inWait 3 = true ∧ (sby.setV .inWait 4 1).vOn .inWait 4 = true ∧
    (sby.wr Reg.HAM_CTL_AMODE 0 1).rd Reg.HAM_CTL_AMODE ≠ 0 ∧ sby.vOn .inWait 0 = false ∧ (sby.setV .swapCopy 0 1).vOn .swapCopy = true ∧ 3 ∈ (rail 2).active 1 := by decide +kernel

theorem witness_RailRowsAct :
    ((setVs [(.tEndly, 1, 5)] (rail 1)).vn .tEndly 1 ≠ 0 ∧ (setVs [(.tPgdly, 1, 5)] (rail 1)).vn .tPgdly 1 ≠ 0 ∧ (rail 1).railState 1 = railRamp ∧ (rail 1).vOn .intEntry = false ∧ (rail 2).railState 1 = railRegulate ∧
      ((rail 2).wr Reg.SYS_RAILST_DOWN 0 2).rampingDown 1 = true ∧ ((rail 2).wr Reg.SYS_RAILST_DOWN 0 2).vOn .stopping 1 = false ∧ ((rail 2).wr Reg.SYS_RAILST_DOWN 0 2).v .refTgt 1 = 0 ∧ (setVs [(.tRetry, 1, 5)] (rail 2)).vn .tRetry 1 ≠ 0) ∧
    (let s := setVs [(.tHoff, 1, 5)] (rail 3);
      s.vn .tHoff 1 ≠ 0 ∧ s.lead 1 = some 3 ∧ s.on Reg.PWM_CEN 3 = true ∧ (s.wr Reg.PROT_HRETRY 1 0).rd Reg.PROT_HRETRY 1 = 0 ∧
        (setF [(Reg.PROT_HRETRY, 1, 4), (Reg.PROT_RETRYCNT, 1, 3)] s).rd Reg.PROT_RETRYCNT 1 < (setF [(Reg.PROT_HRETRY, 1, 4), (Reg.PROT_RETRYCNT, 1, 3)] s).rd Reg.PROT_HRETRY 1 ∧
        (setF [(Reg.PROT_HRETRY, 1, 4), (Reg.PROT_RETRYCNT, 1, 4)] s).rd Reg.PROT_HRETRY 1 ≤ (setF [(Reg.PROT_HRETRY, 1, 4), (Reg.PROT_RETRYCNT, 1, 4)] s).rd Reg.PROT_RETRYCNT 1) := by decide +kernel

theorem witness_ComparatorActs :
    (∀ i ∈ [0, 34, 37, 42, 43, 47], (setF [(Reg.CMP_EN, i, 1)] sby).on Reg.CMP_EN i = true) ∧
    (let s := setF [(Reg.CMP_EN, 34, 1), (Reg.CMP_OUT, 34, 0)] sby;
      s.vOn .cmpFilt 34 = false ∧ s.on Reg.CMP_OUT 34 = false ∧ sby.on Reg.CMP_OUT 34 = true ∧ s.vOn .cmpStart 34 = false ∧ (s.setV .cmpFilt 34 1).vOn .cmpFilt 34 = true ∧ (∀ c ∈ tripChannel 3, s.vOn .tripWait c = false) ∧ tripChannel 3 = some 3 ∧ tripChannel 34 = none ∧ (s.wr Reg.CMP_LMODE 34 0).rd Reg.CMP_LMODE 34 = 0 ∧
        (s.wr Reg.CMP_LMODE 34 1).rd Reg.CMP_LMODE 34 = 1) := by decide +kernel

/-- A shed condition whose dwell has run. -/
def shedding : State := setVs [(.tDwell, 1, 2000001)] (setF [(Reg.PHM_SHED_SHEN, 1, 1), (Reg.PHM_SHED_NMIN, 1, 1), (Reg.PHM_SHED_ISHED, 1, 500), (Reg.PHM_SHED_IADD, 1, 600)] (rail 2))

theorem witness_PhaseTimersAct :
    (let u := (shedding.upTo (shedding.vn .tDwell 1 - 1)).setV .tDwell 1 0;
      shedding.vn .tDwell 1 ≠ 0 ∧ u.shedCond 1 = true ∧ u.shedFrozen 1 = false ∧ shedding.throttled 1 = false ∧ u.departing 1 = none ∧ u.on Reg.PHM_LEDG_HOLDING 1 = false ∧ u.shedChoice 1 = some 3) ∧
    (setVs [(.tHold, 1, 5)] sby).vn .tHold 1 ≠ 0 ∧
    (let s := setF [(Reg.PHM_BAL_TRIMMAX, 1, 5)] (rail 2);
      s.on Reg.PHM_CTL_CBEN = true ∧ s.mismatch 0 = false ∧ s.on Reg.PHM_CTL_CBFL = false ∧ s.mismatch (10 ^ 14) = true ∧ s.allActive.filter s.trimAtLimit = [] ∧ (s.wr Reg.PHM_CTL_CBEN 0 0).on Reg.PHM_CTL_CBEN = false) := by decide +kernel

/-- A procedure whose turn is rail B's. -/
def charging : State := setF [(Reg.PHM_CHAR_RUN, 0, 1), (Reg.CAL_STAT_BANDS, 0, 255), (Reg.SYS_MODE_MODE, 0, mCharacterise)] (setVs [(.charMask, 0, 2), (.charLo, 0, 1), (.charHi, 0, 31), (.charTurn, 0, 2)] (rail 2))

theorem witness_TableRowsAct :
    ((sby.setV .tableDirty 0 1).vOn .tableDirty = true ∧ sby.vOn .tableDirty = false ∧ 0 < (setVs [(.lookups, 0, 4), (.goodLookups, 0, 2)] sby).vn .lookups ∧
      (setVs [(.lookups, 0, 4), (.goodLookups, 0, 2)] sby).vn .goodLookups ≤ (setVs [(.lookups, 0, 4), (.goodLookups, 0, 2)] sby).vn .lookups ∧ 100 * 2 < 75 * 4 ∧ ¬ 100 * 3 < 75 * 4) ∧
    ((sby.wr Reg.PHM_CHAR_RUN 0 1).on Reg.PHM_CHAR_RUN = true ∧ (sby.wr Reg.PHM_CHAR_RUN 0 1).band < 8 ∧ (sby.wr Reg.PHM_CHAR_RUN 0 1).charTakes 0 3 5 = false ∧ charging.on Reg.PHM_CHAR_RUN = true ∧ charging.charTakes (charging.rd Reg.PHM_RAIL 3) 3 5 = true) := by decide +kernel

/-! ### The Cue link -/

def negotiating : State := setF [(Reg.CUE_LINK_STATE, 0, linkNegot), (Reg.CUE_CTL_CUEVMAX, 0, 3), (Reg.CUE_CTL_CUEVMIN, 0, 1)] sby

theorem witness_CueTrainingAndCommandsAct :
    ((sby.wr Reg.CUE_LINK_STATE 0 linkWait).link = linkWait ∧ (sby.wr Reg.CUE_LINK_STATE 0 linkDeskew).link = linkDeskew ∧ negotiating.link = linkNegot ∧ negotiating.rd Reg.CUE_CTL_CUEVMIN ≤ min 15 (negotiating.rd Reg.CUE_CTL_CUEVMAX) ∧
      min 15 (negotiating.rd Reg.CUE_CTL_CUEVMAX) = 3 ∧ 1 ≤ min 15 3 ∧ min 15 3 < 4) ∧
    (linked.link = linkUp ∧ 1 ≤ linked.rd Reg.CUE_LINK_AV ∧ linked.rd Reg.LE_VSRC 1 ≠ 0 ∧ linked.railState 1 = railRegulate ∧ linked.rd Reg.LE_VMIN 1 ≤ linked.rd Reg.LE_VMAX 1 ∧ linked.rd Reg.LE_VMAX 1 < 4096 ∧
      (linked.wr Reg.LE_VSRC 0 0).rd Reg.LE_VSRC 0 = 0) := by decide +kernel

theorem witness_CueForecastsAct :
    linked.link = linkUp ∧ 3 ≤ linked.rd Reg.CUE_LINK_AV ∧ linked.on Reg.CUE_OPEN 1 = true ∧ linked.rd Reg.CUE_FID 1 = 5 ∧ max linked.now 2999999 < linked.vn .fcTa 1 ∧ linked.on Reg.CUE_OPEN 0 = false ∧ linked.rd Reg.CUE_FID 1 ≠ 4 ∧
    (linked.wr Reg.CUE_CTL_INTREQ 0 1).on Reg.CUE_CTL_INTREQ = true ∧ linked.mode = mActive ∧ linked.on Reg.SYS_MODE_TRANS = false ∧ (linked.wr Reg.SYS_MODE_MODE 0 mStandby).mode ≠ mActive ∧
    linked.on Reg.GAU_REST_QONLY = false ∧ linked.vn .tFcRamp 1 ≠ 0 ∧ (linked.upTo (linked.vn .fcClose 1 - 1)).arrived 1 false = false := by decide +kernel

theorem witness_CueReturnRowsAct :
    linked.link = linkUp ∧ (setF [(Reg.CUE_LINK_AV, 0, 1)] (linked.setV .trainDue 0 1)).vOn .trainDue = true ∧ (setF [(Reg.CUE_LINK_AV, 0, 1)] (linked.setV .trainDue 0 1)).rd Reg.CUE_LINK_AV = 1 ∧
    linked.vOn .trainDue = false ∧ (linked.setV .statusDue 0 2).vn .statusDue = 2 ∧ sby.link ≠ linkUp ∧ (linked.setV .tThr 0 5).vn .tThr ≠ 0 ∧ linked.vn .tThr = 0 ∧ (linked.wr Reg.CUE_CTL_TELPER 0 1).rd Reg.CUE_CTL_TELPER ≠ 0 ∧ (linked.setV .telemNext 0 1).vn .telemNext = 1 ∧ linked.railState 1 ≠ railDisabled ∧
    2 ≤ linked.rd Reg.CUE_LINK_AV ∧ (linked.wr Reg.CUE_CAP 3 900).rd Reg.CUE_CAP 3 ≠ capNone ∧ (linked.wr Reg.CUE_LINK_AV 0 1).rd Reg.CUE_LINK_AV < 2 := by decide +kernel

/-! ### The Hamper, the estimator, the store -/

theorem witness_HamperTimersAct :
    (sby.setV .tQual 0 5).vn .tQual ≠ 0 ∧ sby.vOn .ibLost = false ∧ sby.mode ≠ mMinimal ∧ sby.mode ≠ mHoldup ∧ (sby.wr Reg.PWM_CEN 32 1).on Reg.PWM_CEN 32 = true ∧
    (let s := setVs [(.tQual, 0, 1000005), (.ibLost, 0, 1), (.tHoldmax, 0, 1000006)] (inMode mHoldup);
      let u := ((s.upTo (s.vn .tQual - 1)).setV .tQual 0 0).setV .ibQual 0 1;
      s.vn .tQual ≠ 0 ∧ s.vOn .ibLost = true ∧ s.mode = mHoldup ∧ u.now + 1 < s.vn .tHoldmax) ∧ (setVs [(.tHoldmax, 0, 5)] (inMode mHoldup)).vn .tHoldmax ≠ 0 ∧ (inMode mHoldup).mode = mHoldup ∧
    (sby.setV .tGap 0 5).vn .tGap ≠ 0 ∧ (sby.setV .tHdr 0 5).vn .tHdr ≠ 0 := by decide +kernel

theorem witness_GaugeRowsAct :
    (sby.on Reg.GAU_STATE_ACTIVE = false ∧ (sby.wr Reg.GAU_STATE_ACTIVE 0 1).on Reg.GAU_STATE_ACTIVE = true ∧ (sby.wr Reg.DBG_STAT_ACHALTED 0 1).on Reg.DBG_STAT_ACHALTED = true ∧ sby.on Reg.DBG_STAT_ACHALTED = false) ∧
    (let s := setF [(Reg.GAU_STATE_GAPF, 0, 1), (Reg.GAU_STATE_ACTIVE, 0, 1), (Reg.SYS_BOOT_RSTCAUSE, 0, 0)] sby;
      s.on Reg.GAU_STATE_GAPF = true ∧ s.on Reg.GAU_STATE_ACTIVE = true ∧ s.newestSlot 75 = none ∧ s.rd Reg.SYS_BOOT_RSTCAUSE = 0 ∧ s.vOn .hamLeft = false ∧ (s.setV .hamLeft 0 1).vOn .hamLeft = true ∧ s.vn .tFinal = 0 ∧
        1000 * (((s.v .gStored / mC - s.v .recStored).natAbs : Nat) : Int) < (s.wr Reg.GAU_HLTH_CAP 0 1000).capMc ∧ (sby.wr Reg.GAU_STATE_GAPF 0 0).on Reg.GAU_STATE_GAPF = false ∧
        (s.setV .recStored 0 (10 ^ 9)).capMc ≤ 1000 * ((((s.setV .recStored 0 (10 ^ 9)).v .gStored / mC - (s.setV .recStored 0 (10 ^ 9)).v .recStored).natAbs : Nat) : Int)) ∧
    ((sby.setV .tRelax 0 5).vn .tRelax ≠ 0 ∧ (sby.setV .relaxDone 0 1).vn .relaxDone ≠ 0 ∧ sby.rd Reg.HAM_CTL_AMODE = 0 ∧ sby.vOn .restTaken = false ∧ (sby.setV .restTaken 0 1).vOn .restTaken = true ∧ sby.fullEmpty = none ∧
      (setVs ((.irvMa, 0, -5) :: (List.range 16).map (fun i => (.rvHist, i, 1))) sby).fullEmpty.isSome = true ∧
      (setF [(Reg.GAU_REST_PH, 0, 1), (Reg.GAU_REST_QONLY, 0, 0)] (inMode mActive)).rd Reg.GAU_REST_PH = 1 ∧ (inMode mActive).on Reg.GAU_REST_QONLY = false ∧ (inMode mActive).mode = mActive ∧
      (setF [(Reg.GAU_REST_PH, 0, 2)] (sby.setV .relaxDone 0 2)).rd Reg.GAU_REST_PH = 2 ∧ (setF [(Reg.GAU_REST_PH, 0, 2)] (sby.setV .relaxDone 0 2)).vn .relaxDone = 2 ∧ sby.rd Reg.GAU_REST_PH ≠ 2 ∧
      (sby.wr Reg.GAU_REST_QONLY 0 1).on Reg.GAU_REST_QONLY = true ∧ (sby.wr Reg.GAU_REST_QONLY 0 1).rd Reg.GAU_REST_PH = 0) := by decide +kernel

/-- A valid write of entry 3 with the last SEQ before it restarts. -/
def stored : State := { sby with slots := [(6, ⟨2 ^ 32 - 1, []⟩)] }

theorem witness_SlotWriteKeepsTwo : stored.newestSlot 3 = some (0, ⟨2 ^ 32 - 1, []⟩) ∧ 2 ^ 32 - 1 < 2 ^ 32 := by decide +kernel

theorem witness_StoreRowsAct :
    (sby.update = none ∧ (sby.wr Reg.NVS_STAT_BOWARN 0 1).on Reg.NVS_STAT_BOWARN = true ∧ sby.on Reg.NVS_STAT_BOWARN = false) ∧
    (({ sby with nvsRun := some ⟨3, []⟩ } : State).nvsRun = some ⟨3, []⟩ ∧ sby.nvsRun = none ∧ sby.acRuns = true ∧ sby.on Reg.NVS_STAT_BOWARN = false ∧ sby.on Reg.NVS_STAT_INHIBIT = false ∧ sby.nvsq = [] ∧
      ({ sby with nvsq := [⟨3, []⟩] } : State).nvsq ≠ []) ∧
    ((List.replicate 12 0#8).length ≤ 12 ∧ sby.events.length < 64 ∧ 64 ≤ ({ sby with events := List.replicate 64 ⟨1, 1, 1, 1, 1, []⟩ } : State).events.length) := by decide +kernel

theorem witness_LostEventsCount :
    64 ≤ ({ sby with events := List.replicate 64 ⟨1, 1, 1, 1, 1, []⟩ } : State).events.length ∧
    (let s : State := setF [(Reg.EVR_BOOK_RAISED, 0, 63), (Reg.EVR_BOOK_WRITTEN, 0, 2 ^ 32 - 1)] { sby with events := List.replicate 64 ⟨1, 1, 1, 1, 1, []⟩ };
      s.rd Reg.EVR_BOOK_RAISED = (s.rd Reg.EVR_BOOK_WRITTEN + s.rd Reg.EVR_BOOK_SUPPR + s.rd Reg.EVR_BOOK_LOSTT + s.events.length) % 2 ^ 32) := by decide +kernel

/-! ### Capture, identification, the stage bus -/

def transform (job : Nat) : Spectrum := ⟨1, 7, job, 5, 6, 1, 1, 0⟩

theorem witness_AnalysisRowsAct :
    (let s := setF [(Reg.CAP_HOLD, 15, holdJob), (Reg.CAP_JOB_STATE, 0, 3), (Reg.CAP_LEN, 15, 2)] (sby.setV .capAt 15 5);
      s.rd Reg.CAP_HOLD 15 = holdJob ∧ s.recording 15 = true ∧ s.vn .capNext 15 = 0) ∧
    (sby.wr Reg.DBG_STAT_ACHALTED 0 1).on Reg.DBG_STAT_ACHALTED = true ∧ sby.on Reg.DBG_STAT_ACHALTED = false ∧ (transform 15).job < 16 ∧ 16 ≤ (transform fftH).job ∧
    ({ sby with spectra := [transform 15] } : State).spectra = [transform 15] := by decide +kernel

def identifying (run : Nat) : State := setF [(Reg.IDENT_CFG_RAIL, 0, 1), (Reg.IDENT_CFG_AMP, 0, 8), (Reg.IDENT_STAT_RUN, 0, 1), (Reg.LE_PGLO, 1, 20), (Reg.LE_PGHI, 1, 20)] (setVs [(.identRunning, 0, run), (.lfsr, 0, 0x7FFF), (.identLive, 0, 2)] (rail 2))

/-- The same with its four channels, the first record of band H full. -/
def identified : State := setF ((List.range 4).map (fun c => (Reg.CAP_HOLD, c, holdIdent))) (setVs [(.capTot, 0, 4096), (.refTgt, 1, (identifying 1).ref 1)] (identifying 1))

theorem witness_IdentRowsAct :
    ((identifying 1).vn .identRunning = 1 ∧ (identifying 1).vn .identChips = 0 ∧ (identifying 1).vn .identChipAt = 0 ∧ (identifying 1).rd Reg.IDENT_CFG_RAIL < 4 ∧ (identifying 2).vn .identRunning ≠ 1 ∧
      ((identifying 2).setV .identChipAt 0 5).vn .identChipAt ≠ 0) ∧
    (identified.vn .identRunning = 1 ∧ identified.recordFull true = true ∧ identified.recordFull false = false ∧ identified.vn .identBad = 0 ∧ (identified.chipLook (identified.rd Reg.IDENT_CFG_RAIL)).vn .identBad = 0 ∧ (identifying 2).vn .identRunning = 2 ∧
      (identifying 2).on Reg.DBG_STAT_ACHALTED = false ∧ sby.vn .tAuto = 0 ∧
      (let s := setF [(Reg.IDENT_STAT_PROPV, 0, 1), (Reg.IDENT_CFG_RAIL, 0, 1), (Reg.LE_AUTO, 1, 1), (Reg.LE_LAW, 1, 0)] (sby.setV .tAuto 0 5);
        s.vn .tAuto ≠ 0 ∧ s.on Reg.DBG_STAT_ACHALTED = false ∧ (s.wr Reg.DBG_STAT_ACHALTED 0 1).on Reg.DBG_STAT_ACHALTED = true ∧ s.on Reg.IDENT_STAT_PROPV = true ∧ s.on Reg.IDENT_STAT_OOE = false ∧ (s.wr Reg.LE_AUTO 1 0).on Reg.LE_AUTO 1 = false ∧ s.on Reg.LE_AUTO 1 = true ∧ s.rd Reg.LE_LAW 1 = 0 ∧
          s.on Reg.LE_CTL_SWPEND = false ∧ s.vOn .bankTouched = false ∧ (s.wr Reg.IDENT_STAT_OOE 0 1).on Reg.IDENT_STAT_OOE = true)) ∧
    (let s := queued .hsp 0x58 0xFFFF [1#8, 8#8, 64#8, 0#8] (setF [(Reg.IDENT_STAT_RUN, 0, 0)] (identifying 0));
      s.mode = mActive ∧ s.railState 1 = railRegulate ∧ s.rampingDown 1 = false ∧ s.on Reg.IDENT_STAT_RUN = false ∧ s.on Reg.LE_CTL_SWPEND = false ∧ s.on Reg.ICU_CORE_FATAL 1 = false ∧
        ((s.taken .hsp).allocateAll holdIdent [8, 8, 8, 8]).isSome = true ∧ 8 ≤ min (s.rd Reg.LE_PGLO 1) (s.rd Reg.LE_PGHI 1) ∧ modesSes.contains s.mode = true ∧ modesCfg.contains s.mode = true ∧ 0x130 + 240 ≤ 0x220) := by decide +kernel

theorem witness_StageRowsAct :
    (let s := setF [(Reg.TWX_HXFR_STAT, 0, hxRunning)] sby;
      s.rd Reg.TWX_HXFR_STAT = hxRunning ∧ s.rd Reg.TWX_HXFR_NRD = 0 ∧ (s.setV .twxRestarts 0 2).vn .twxRestarts < (s.wr Reg.TWX_CTL_ARBN 0 3).rd Reg.TWX_CTL_ARBN ∧
        (s.wr Reg.TWX_CTL_ARBN 0 3).rd Reg.TWX_CTL_ARBN ≤ (s.setV .twxRestarts 0 3).vn .twxRestarts) ∧
    (sby.vOn .bootRun = true ∧ sby.coreRuns .sc = true ∧ (sby.wr Reg.TWX_STAT_DISC 0 1).on Reg.TWX_STAT_DISC = true ∧ sby.rd Reg.TWX_CTL_TPOLL ≠ 0 ∧ sby.on Reg.TWX_STAT_DISC = false ∧
      (List.replicate 34 (⟨true, List.replicate 16 0, 0⟩ : StageProbe)).length = 34 ∧ (List.replicate 34 (⟨true, 0, 0, 0, 0⟩ : TelemReading)).length = 34) := by decide +kernel

/-! ### Packets, ports, sessions -/

theorem admits_of (p : Port) (h : Hdr) (op : Nat) (pl : List Byte) (s : State) (hp : s.power = .running ∧ s.scStopped = false ∧ s.leaseOver = false ∧ (s.sess p).rx = [] ∧ op < 256 ∧ pl.length ≤ 248 ∧ bits h.verFlags.toNat 3 0 = 0 ∧
    (s.sess p).lastPkt ≠ some (h.seq.toNat, op, h.tag.toNat, rowCrc h op pl) ∧ s.admitCheck p h.verFlags.toNat op h.objId.toNat pl = none) : s.Admits p h op pl :=
  ⟨hp.1, hp.2.1, hp.2.2.1, hp.2.2.2.1, hp.2.2.2.2.1, hp.2.2.2.2.2.1, hp.2.2.2.2.2.2.1, fun _ => hp.2.2.2.2.2.2.2.1, hp.2.2.2.2.2.2.2.2⟩

theorem witness_PacketsAreAdmitted : (owned .twa sby).Admits .twa (hdr 0xFFFF) 0x21 [1#8] ∧ (owned .hsp sby).Admits .hsp (hdr 0xFFFF) 0x21 [1#8] ∧ actsAtAdmission 0x21 = false ∧ State.unknownAct 0x21 [1#8] = false :=
  ⟨admits_of _ _ _ _ _ (by decide +kernel), admits_of _ _ _ _ _ (by decide +kernel), by decide +kernel, by decide +kernel⟩

theorem witness_HelloOpensSession : sby.Admits .twb ⟨0x10#8, 7#8, 0xFFFF#16, 1#16⟩ 0x01 [15#8, 255#8, 1#8] ∧ (sby.sess .twb).isOpen = false ∧ (owned .hsp sby).Admits .hsp (hdr 0xFFFF) 0x01 [0#8, 0#8, 0#8] :=
  ⟨admits_of _ _ _ _ _ (by decide +kernel), by decide +kernel, admits_of _ _ _ _ _ (by decide +kernel)⟩

/-- A claim of another session. -/
def claimed (p q : Port) (s : State) : State := (owned p s).setSess q { opened with claim := some ⟨1, 0x04030201, 3, 4⟩, queue := [{ cmd 0x21 0xFFFF [1#8] with tag := 4 }] }

theorem witness_SessionRowsAct :
    ((owned .twa sby).Admits .twa (hdr 0xFFFF) 0x05 [] ∧ (owned .twa sby).Admits .twa (hdr 0xFFFF) 0x08 [0#8] ∧ (owned .hsp sby).Admits .hsp (hdr 0xFFFF) 0x08 [1#8] ∧ (owned .twb sby).Admits .twb (hdr 0xFFFF) 0x02 [9#8, 1#8, 2#8, 3#8, 4#8]) ∧
    ((owned .twa sby).Admits .twa (hdr 0xFFFF) 0x03 [0xFF#8] ∧ (claimed .twa .hsp sby).Admits .twa (hdr 0xFFFF) 0x03 [2#8] ∧ (claimed .twa .hsp sby).Admits .hsp (hdr 0xFFFF) 0x03 [2#8] ∧
      (claimed .twa .hsp sby).Admits .twa (hdr 0xFFFF) 0x04 [1#8, 2#8, 3#8, 4#8] ∧ (claimed .twa .hsp sby).Admits .hsp (hdr 0xFFFF) 0x07 [4#8]) :=
  ⟨⟨admits_of _ _ _ _ _ (by decide +kernel), admits_of _ _ _ _ _ (by decide +kernel), admits_of _ _ _ _ _ (by decide +kernel), admits_of _ _ _ _ _ (by decide +kernel)⟩,
    admits_of _ _ _ _ _ (by decide +kernel), admits_of _ _ _ _ _ (by decide +kernel), admits_of _ _ _ _ _ (by decide +kernel), admits_of _ _ _ _ _ (by decide +kernel), admits_of _ _ _ _ _ (by decide +kernel)⟩

theorem witness_SessionRowsAct_states :
    (owned .twa sby).owner = some .twa ∧ (claimed .twa .hsp sby).owner ≠ some .hsp ∧ ((claimed .twa .hsp sby).sess .hsp).claim.isSome = true ∧ (owned .twb sby |>.sess .twa).claim = none ∧
    (claimed .twa .hsp sby).bestClaim (fun d => d.nonce == leNat [1#8, 2#8, 3#8, 4#8]) = some .hsp ∧ (((claimed .twa .hsp sby).sess .hsp).queue.find? (fun d => d.tag == 4)).isSome = true := by decide +kernel

theorem witness_PortReadsAct :
    let r : Reply := ⟨0, 7, [1#8, 2#8]⟩
    let s : State := (owned .twa sby).updSess .twa (fun x => { x with credited := [r] })
    (sby.portBusy .twa = false ∧ run0.portBusy .twb = true ∧ (sby.wr Reg.TWI_PSTAT_PTR 0 0xF0).rd Reg.TWI_PSTAT_PTR 0 = 0xF0 ∧ (sby.wr Reg.TWI_PSTAT_PTR 1 0xF1).rd Reg.TWI_PSTAT_PTR 1 = 0xF1 ∧
      (sby.wr Reg.TWI_PSTAT_PTR 1 0xF3).rd Reg.TWI_PSTAT_PTR 1 = 0xF3 ∧ (sby.sess .twa).oldestReply = none ∧ ((s.sess .twa).oldestReply.map (fun x => x.1.bytes)) = some [1#8, 2#8]) := by decide +kernel

theorem witness_PortWritesAct :
    sby.portBusy .twa = false ∧ run0.portBusy .twb = true ∧ (List.replicate 9 0#8).length < 10 ∧ 258 < (List.replicate 259 0#8).length ∧ (sby.wr Reg.TWI_CFG_SMBTB 0 1).smbOn .twb = true ∧ sby.smbOn .twa = false := by decide +kernel

theorem witness_OwnershipTimersAct :
    ((owned .twa sby).sess .twa).isOpen = true ∧ (owned .twa sby).scStopped = false ∧ (sby.sess .twa).isOpen = false ∧ (owned .twa sby).owner = some .twa ∧ (owned .twa sby).granting = none ∧
    (owned .twa sby).on Reg.DBG_STAT_SCHALTED = false ∧ (owned .twa sby).update = none ∧ ((claimed .twa .hsp sby).sess .twa).queue = [] ∧ ((claimed .twa .hsp sby).sess .hsp).claim.isSome = true ∧ sby.retuning = none ∧
    ({ sby with draining := some .twa } : State).draining.isSome = true ∧ ({ sby with draining := some .twa } : State).drained = true ∧ sby.draining = none := by decide +kernel

/-! ### Buses, registers and opcodes -/

theorem witness_BusWritesAct :
    (sby.coreRuns .sc = true ∧ findObj 0xFFFF = none ∧ (∀ o ∈ findObj 0x1400, o.fam.obj / 256 = 0x14) ∧ (findObj 0x1400).isSome = true ∧
      (∀ o ∈ findObj 0x0D10, o.arrayed = false ∧ o.words ≤ 15 ∧ 0 < o.words ∧ o.fam.obj / 256 ≠ 0x14) ∧ (findObj 0x0D10).isSome = true ∧
      (∀ o ∈ findObj 0x01C1, o.arrayed = true ∧ o.fam.count ≤ 255 ∧ 33 < o.fam.count ∧ o.fam.obj / 256 ≠ 0x14) ∧ (findObj 0x01C1).isSome = true) ∧
    (sby.tapInstr ≠ 8 ∧ (sby.setV .tapIr 0 9).tapInstr = 8 ∧ 0x20000001 % 2 ^ 1 ≠ 0 ∧ 0x2007FFFC % 4 = 0 ∧ 0x4023FFFF < 0x40240000 ∧ 0x4023FFFF % 2 ^ 0 = 0 ∧ 0x90027FFE % 2 ^ 1 = 0 ∧ 0x90027FFE < 0x90028000 ∧ (sby.busBytes 0x80150000 4).isSome = true ∧ sby.busBytes 0x30000000 4 = none) := by decide +kernel

theorem witness_RegisterOpcodesRun :
    ((findObj 0x0D10).map (fun o => o.arrayed) = some false ∧ (findObj 0x01C1).map (fun o => o.arrayed) = some true ∧ objIl 0x0D10 ≤ sby.servedIl ∧ objIl 0x01C1 ≤ sby.servedIl ∧ objIl 0x0702 ≤ sby.servedIl) ∧
    (let pl := leBytes 4 1;
      (State.setData 0x1511 pl).all (fun x => ((queued .twb 0x11 0x1511 pl sby).taken .twb).setStatus 0x1511 x.1 x.2.1 x.2.2 == stOk) = true ∧ (State.setData 0x1511 pl).isSome = true ∧
        (State.setData 0x1500 pl).all (fun x => ((queued .twb 0x11 0x1500 pl sby).taken .twb).setStatus 0x1500 x.1 x.2.1 x.2.2 != stOk) = true ∧ (State.setData 0x1500 pl).isSome = true) ∧
    (((queued .twb 0x12 0x0702 (leBytes 4 8 ++ [4#8]) sby).taken .twb).capSync.blockBytes 0x0702 8 4).isSome = true ∧
    (0x1800 ≤ leNat ((leBytes 4 0x19FF ++ leBytes 4 7).take 4) ∧ leNat ((leBytes 4 0x19FF ++ leBytes 4 7).take 4) < 0x1A00 ∧ modesCfg.contains sby.mode = true ∧ sby.on Reg.BIST_STAT_RUN = false ∧ sby.on Reg.LE_CTL_SWPEND = false) ∧
    (((queued .twb 0x13 0x0702 (leBytes 4 8 ++ leBytes 4 16) (inMode mCharacterise)).taken .twb).setPhmMem 8 (leBytes 4 16)).2 = stOk ∧
    (sby.capSync.busBytes 0x80150000 8).isSome = true ∧ sby.mode ∈ [mStandby, mRehearsal, mCharacterise] ∧ leNat (leBytes 4 0x2007FFFC) < 0x20080000 := by decide +kernel

theorem witness_FieldWriteRowsRun :
    (1 ≤ sby.servedIl ∧ sby.mode ≠ mBoot ∧ sby.mode ≠ mMinimal ∧ modesCfg.contains sby.mode = true ∧ sby.rd Reg.LE_CTL_HALT = 0 ∧ (reh.wr Reg.LE_CTL_HALT 0 1).rd Reg.LE_CTL_HALT = 1 ∧ sby.on Reg.LE_CTL_SWPEND = false ∧
      reh.rd Reg.LE_CTL_HALT = b2n (!true) ∧ reh.mode = mRehearsal ∧ reh.stagesOff = true ∧ sby.rd Reg.CCT_CTL_EN = 1 ∧ (sby.wr Reg.CCT_CTL_EN 0 0).rd Reg.CCT_CTL_EN = 0 ∧
      (setF [(Reg.CAP_JOB_PORT, 7, 1), (Reg.CAP_JOB_TRIG, 7, 1)] sby).rd Reg.CAP_JOB_PORT 7 = Port.twb.idx ∧ (setF [(Reg.CAP_JOB_PORT, 7, 1), (Reg.CAP_JOB_TRIG, 7, 1)] sby).rd Reg.CAP_JOB_TRIG 7 = 1) ∧
    (sby.mode = mStandby ∧ sby.rd Reg.TWX_HXFR_STAT ≠ hxRunning ∧ sby.hxFree = true ∧ (findObj 0x0D10).any (fun o => fieldsOk 0x0D10 o 0 [sby.idleWord 0x0D10 + 1]) = true ∧
      (findObj 0x0D12).any (fun o => fieldsOk 0x0D12 o 0 [0x00320055 + 2 ^ 31, 0xAABBCCDD, 0x11223344, 5]) = true ∧ [1#32, 2#32].length ≠ 4) := by decide +kernel

/-- A RAIL_CFG of rail B with phases 3 and 4 and understudy 5, designed from a plant. -/
def cfgPayload : List Byte :=
  [1#8, 0#8] ++ leBytes 4 0x18 ++ leBytes 4 0x20 ++ leBytes 4 500000 ++ leBytes 2 1000 ++ leBytes 2 500 ++ leBytes 2 1500 ++ leBytes 2 100 ++ leBytes 2 10 ++ leBytes 2 10 ++ [20#8, 20#8, 1#8, 1#8, 1#8, 1#8] ++
    leBytes 2 0 ++ leBytes 2 100 ++ [100#8, 50#8] ++ leBytes 2 500 ++ leBytes 2 1000 ++ leBytes 2 50 ++ [48#8, 10#8] ++ leBytes 2 100

theorem witness_RailOpcodesRun :
    (let s := (setF [(Reg.SYS_RAILST_STATE_B, 0, 0), (Reg.LE_VSRC, 1, 0)] (rail 0));
      s.rd Reg.SYS_BOOT_LOOPSTAT < 2 ∧ railOnModes.contains s.mode = true ∧ s.railLive 1 = false ∧ s.railState 1 = railDisabled ∧ (schedSlots[3]?.all (fun f => (s.wr f 0 2).slotCount 2 != 0)) = true ∧ s.vn .onStaged 1 ≠ 1 ∧
        s.vn .onPub 1 ≠ 1 ∧ (rail 2).railState 1 ≠ railFaultOff ∧ (rail 2).railState 1 ≠ railDisabled ∧ (rail 2).rampingDown 1 = false ∧ (s.setV .onStaged 1 1).vn .onStaged 1 = 1 ∧ ((rail 2).wr Reg.SYS_RAILST_DOWN 0 2).rampingDown 1 = true ∧ (rail 4).railState 1 = railFaultOff ∧ s.published Reg.LE_VSRC 1 ≠ 1 ∧ (rail 2).published Reg.LE_VSRC 1 = 1 ∧
        s.stg Reg.LE_VMIN 1 ≤ 3000 ∧ 3000 ≤ s.stg Reg.LE_VMAX 1 ∧ s.on Reg.LE_CTL_SWPEND = false) ∧
    (let t := (queued .twa 0x20 0xFFFF cfgPayload sby).taken .twa;
      cfgPayload.length = 48 ∧ State.cfgFieldsOk cfgPayload = true ∧ t.mapStatus 1 [3, 4] [5] 0 0 800 = stOk ∧ layoutOk [3, 4] [5] = true ∧ t.schedClash 1 = false ∧ (∀ c ∈ [3, 4, 5], t.prdOk c 800 = true)) := by decide +kernel

/-- DESIGN 0 computes codes from the plant: they lie in the law's range, and its crossover above the output filter's. -/
theorem witness_RailOpcodesRun_codes :
    fcAboveF0 (State.plantOf cfgPayload) 2 = true ∧ lawCodesOk (designCodes (State.plantOf cfgPayload) 2 16) = true ∧ lawCodesOk (interHalf (designCodes (State.plantOf cfgPayload) 2 16)) = true := by decide +kernel

/-- Channels 3 and 4 are the phases of rail B as staged too; 5 is an understudy. -/
def mapped (us : Bool) : State :=
  let s := [3, 4].foldl (fun s c => ((s.stage Reg.PHM_ASSIGN c 1).stage Reg.PHM_RAIL c 1).stage Reg.PHM_USTUDY c 0) (rail 2)
  if us then ((s.stage Reg.PHM_ASSIGN 5 1).stage Reg.PHM_RAIL 5 1).stage Reg.PHM_USTUDY 5 1 else s

theorem witness_RailOpcodesRun_phases :
    (((queued .hsp 0x30 0xFFFF [] sby).taken .hsp).mapStatus 1 [3, 4] [5] 0 0 (((queued .hsp 0x30 0xFFFF [] sby).taken .hsp).mapPrd [3, 4]) = stOk ∧ modesCfg.contains sby.mode = true) ∧
    (findObj 0x0715).any (fun o => fieldsOk 0x0715 o o.base (sby.readObj o o.base)) = true ∧
    (let t := (queued .hsp 0x32 0xFFFF [0#8, 1#8, 5#8] (mapped false)).taken .hsp;
      (t.stgPhases 1 true).contains 5 = false ∧ t.rd Reg.PHM_ROLE 5 ≠ 1 ∧ t.rd Reg.PHM_ROLE 5 ≠ 2 ∧ t.heldElsewhere 1 5 = false ∧ t.atPref (t.mapPrd [3, 4]) = true ∧ t.stg Reg.PWM_OUTM 4 ≠ 1 ∧ t.stgPhases 1 false = [3, 4] ∧
        (t.setV .mapStaged 1 1).vOn .mapStaged 1 = true ∧ t.vOn .mapStaged 1 = false ∧ t.rd Reg.PHM_ROLE 4 = 1 ∧ t.railOf 4 = some 1 ∧ t.railState 1 ≠ railDisabled) ∧
    (((queued .hsp 0x32 0xFFFF [1#8, 1#8, 5#8] (mapped true)).taken .hsp).stgPhases 1 true).contains 5 = true ∧
    (let s := setF [(Reg.PHM_ASSIGN, 5, 1), (Reg.PHM_RAIL, 5, 1), (Reg.PHM_ROLE, 5, 3)] (mapped true);
      s.understudies 1 ≠ [] ∧ (s.active 1).contains 4 = true ∧ s.railState 1 = railRegulate) := by decide +kernel

theorem witness_ServiceOpcodesRun :
    (let pl := leBytes 4 500000 ++ leBytes 2 1000 ++ leBytes 2 100 ++ leBytes 2 200 ++ [1#8, 0#8];
      pl.length = 12 ∧ 134 ≤ rdiv 400000000 (fieldAt pl 0 4) ∧ rdiv 400000000 (fieldAt pl 0 4) ≤ 2666 ∧ sby.rd Reg.HAM_CTL_AMODE = 0 ∧ sby.prdOk 32 (rdiv 400000000 (fieldAt pl 0 4)).toNat = true ∧ 2 ≤ sby.servedIl) ∧
    (let l : List (BitVec 16) := [-64#16, 30#16, 50#16, 70#16, 90#16, 110#16, 191#16];
      bandsOk (l.map (fun x => (x.toInt + 64).toNat)) 15 = true ∧ l.all (fun x => decide (-64 ≤ x.toInt) && decide (x.toInt ≤ 191)) = true) ∧
    ((findObj 0x05C0).any (fun o => fieldsOk 0x05C0 o 34 [cmpWord 0 63 63]) = true ∧ dacCode 34 126 0 = 63 ∧ dacCode 33 1008 256 = 63 ∧ (-64#16 : BitVec 16).toInt < (0#16).toInt ∧ (0#16).toInt < (191#16).toInt) ∧
    (sby.on Reg.PROT_LATCH_HAMLAT = false ∧ (sby.wr Reg.PROT_LATCH_HAMLAT 0 1).on Reg.PROT_LATCH_HAMLAT = true ∧ (setF [(Reg.CMP_OUT, 46, 0), (Reg.CMP_OUT, 47, 0)] sby).on Reg.CMP_OUT 46 = false ∧
      (setF [(Reg.CMP_OUT, 46, 0), (Reg.CMP_OUT, 47, 0)] sby).on Reg.CMP_OUT 47 = false ∧ (sby.wr Reg.CMP_OUT 46 1).on Reg.CMP_OUT 46 = true) ∧
    ((rail railFaultOff).railState 1 = railFaultOff ∧ ((rail railFaultOff).wr Reg.CMP_OUT 35 0).on Reg.CMP_OUT 35 = false) ∧
    (let s := setF [(Reg.PROT_LATCH_CAUSE, 0, 0x20)] (inMode mSafestop);
      s.mode = mSafestop ∧ s.rd Reg.PROT_LATCH_CAUSE ≠ 0 ∧ (∀ b < 7, bit (s.rd Reg.PROT_LATCH_CAUSE) b = true → s.causeActive b = false) ∧
        bit ((setF [(Reg.PROT_LATCH_CAUSE, 0, 2), (Reg.THM_SDA, 3, 1)] s).rd Reg.PROT_LATCH_CAUSE) 1 = true ∧ (setF [(Reg.PROT_LATCH_CAUSE, 0, 2), (Reg.THM_SDA, 3, 1)] s).causeActive 1 = true) ∧
    (sby.mode ∈ [mStandby, mActive, mInter] ∧ 4 ≤ sby.servedIl ∧ (sby.wr Reg.SYS_IMAGE_EFFIL 0 1).servedIl < 2) := by decide +kernel

/-- Two channels of the CSA for a software-fired job. -/
def armPayload : List Byte := [1#8, 0#8, 2#8, 0#8, 0#8, 2#8, 0x10#8, 0#8, 2#8, 0#8, 0x11#8, 1#8, 3#8, 0#8]

/-- A job of the port TWB on channel 5 with its record complete. -/
def recorded : State :=
  setF [(Reg.CAP_JOB_STATE, 2, 4), (Reg.CAP_JOB_PORT, 2, 1), (Reg.CAP_JOB_TRIG, 2, 1), (Reg.CAP_JOB_CHMASK, 2, 0x20), (Reg.CAP_HOLD, 5, holdJob), (Reg.CAP_JOB, 5, 2), (Reg.CAP_NSAMP, 5, 64), (Reg.CAP_SRC, 5, 0x10), (Reg.CAP_LEN, 5, 2)] sby

theorem witness_CaptureOpcodesRun :
    (let t := (queued .twb 0x50 0xFFFF (0#8 :: armPayload) sby).taken .twb;
      modesSes.contains sby.mode = true ∧ armFieldsOk (0#8 :: armPayload) = true ∧ (0#8 :: armPayload).length = 7 + 4 * fieldAt (0#8 :: armPayload) 6 1 ∧ t.freeSlot = some 0 ∧
        (t.allocateAll holdJob ((armChans (0#8 :: armPayload)).map (fun x => x.len))).isSome = true ∧ t.overShare .twb 2 5 = false ∧ t.storeRate (armChans (0#8 :: armPayload)) ≤ 200000000 * 2 ^ 15) ∧
    (recorded.ownsJob .twb 2 = true ∧ recorded.ownsJob .twb 3 = false ∧ recorded.rd Reg.CAP_JOB_TRIG 2 = 1 ∧ (recorded.wr Reg.CAP_JOB_TRIG 2 0).rd Reg.CAP_JOB_TRIG 2 ≠ 1 ∧ recorded.rd Reg.CAP_JOB_STATE 2 = 4 ∧ (recorded.jobChans 2).contains 5 = true ∧ (recorded.setV .specBytes 5 4).vn .specBytes 5 ≠ 0) ∧
    ((1 + 1) * 2 ^ 6 / 2 ≤ recorded.rd Reg.CAP_NSAMP 5 ∧ cmpSource (recorded.rd Reg.CAP_SRC 5) = false ∧ recorded.capSync.spectra.length < 9 ∧ recorded.capSync.ownsJob .twb 2 = true ∧ (recorded.capSync.jobChans 2).contains 5 = true ∧ (recorded.freeSpectrum 5).overShare .twb 0 1 = false ∧ ((recorded.freeSpectrum 5).fitTokens 1).isSome = true) ∧
    ((maskList 32 (leNat (leBytes 4 0x00027FFF))).length = 16 ∧ (maskList 32 (leNat (leBytes 4 0x80003FFF))).length ≤ 15 ∧ 4 ≤ sby.servedIl ∧ sby.on Reg.CAP_ESR_ARMED 3 = false ∧ (sby.allocate holdEsr 8).isSome = true) := by decide +kernel

theorem witness_LogOpcodesRun :
    modesAny.contains (inMode mMinimal).mode = true ∧ (sby.sess .hsp).log = none ∧ ({ opened with log := some ⟨1, 1, 0, true⟩ } : Session).log.isSome = true ∧ (sby.mode = mStandby ∨ sby.mode = mRehearsal) ∧
    sby.on Reg.NVS_STAT_BOWARN = false ∧ sby.on Reg.NVS_STAT_INHIBIT = false ∧ (sby.wr Reg.NVS_STAT_INHIBIT 0 1).on Reg.NVS_STAT_INHIBIT = true ∧
    modesCfg.contains sby.mode = true ∧ sby.policyFull 0x3008 1 255 = false := by decide +kernel

theorem witness_SystemOpcodesRun :
    ((mStandby, mRehearsal) ∈ modeMoves ∧ (mStandby, mCharacterise) ∈ modeMoves ∧ (mRehearsal, mStandby) ∈ modeMoves ∧ (mActive, mInter) ∈ modeMoves ∧ (mInter, mActive) ∈ modeMoves ∧ (mActive, mCurtain) ∈ modeMoves ∧
      (mCharacterise, mStandby) ∈ modeMoves ∧ (mStandby, 11) ∉ modeMoves) ∧
    (sby.rd Reg.SYS_BOOT_LOOPSTAT < 2 ∧ sby.on Reg.SYS_MODE_TRANS = false ∧ sby.on Reg.BIST_STAT_RUN = false ∧ reh.on Reg.LE_CTL_HALTED = false ∧ sby.mode ≠ mCurtain ∧ sby.anyLive = false ∧ (rail 2).anyLive = true) ∧
    (15 < 16 ∧ bit 15 1 = true ∧ (0x1FF#16).toNat < 512) := by decide +kernel

theorem witness_MaintenanceOpcodesRun :
    (sby.on Reg.CAL_STAT_BUSY = false ∧ (∀ r < 4, sby.railState r = railDisabled) ∧ (sby.wr Reg.CAL_STAT_BUSY 0 1).on Reg.CAL_STAT_BUSY = true ∧ reh.bistBusy 255 = false ∧ (inMode mCharacterise).on Reg.PHM_CHAR_RUN = false ∧
      (∀ r < 4, bit 2 r = true → (setF [(Reg.PHM_ASSIGN, 3, 1), (Reg.PHM_RAIL, 3, 1)] (inMode mCharacterise)).assigned r ≠ [])) ∧
    (let pl := [3#8] ++ [1#8, 1#8, 3#8, 1#8] ++ leBytes 4 512 ++ leBytes 4 0 ++ [2#8, 1#8, 3#8, 0#8] ++ leBytes 4 0 ++ leBytes 4 0;
      pl.length = 1 + 12 * (beginImages pl).length ∧ beginImages pl ≠ [] ∧ (∀ m ∈ beginImages pl, imageOk m = true) ∧ (beginImages pl).length = 2) ∧
    ((committing 0).images.find? (fun x => x.type == 1) = some ⟨1, 1, 3, 1, 0, 0, 0⟩ ∧ ({ committing 0 with committing := false } : Update).committing = false ∧ (∀ m ∈ (committing 0).images, m.written = m.length)) := by decide +kernel

theorem witness_WrongLengthRefused : [1#8, 2#8].length ≠ 1 ∧ (hdr 0x1500).objId ≠ 0xFFFF#16 ∧ sby.power = .running ∧ sby.scStopped = false := by decide +kernel

theorem witness_ReadsHaveNoSideEffects : (sby.setV .tapIr 0 9).tapInstr = 8 ∧ (2#2 : BitVec 2) ≠ 3#2 ∧ 0x80150000 % 2 ^ 2 = 0 ∧ ((sby.setV .tapIr 0 9).busBytes 0x80150000 (2 ^ 2)).isSome = true := by decide +kernel

theorem witness_PacketReadsBack : 255 < 256 ∧ 65535 < 65536 ∧ (List.replicate 248 0#8).length ≤ 248 := by decide +kernel

/-- A command of one of the rows that keep the rest, where it acts. -/
theorem witness_RowsKeepTheRest : ∃ t, exec (.brownoutRelease) (sby.wr Reg.NVS_STAT_BOWARN 0 1) = .next t ∧ (sby.wr Reg.NVS_STAT_BOWARN 0 1).power = .running := ⟨_, rfl, by decide +kernel⟩

/-- A running block whose inputs follow, and with a command in front. -/
def followed : State := run0.settle
def following : State := { followed with pending := [.systemTick] }

theorem systemTick_answers (s : State) (h : s.power = .running) : Answers .systemTick s (fun t => t.power = .running) :=
  ⟨_, act_after (f := fun s => (s.upTo ((s.now / 400000 + 1) * 400000)).irq 122) h, by
    show State.power (State.after _) = _; rw [State.after_power, irq_power, upTo_power]; exact h⟩

theorem witness_InputsFollowKept : (∀ x ∈ following.icuInputs, following.icu.input.getLsbD x.1 = x.2) ∧ following.power = .running ∧ Answers .systemTick followed (fun t => t.power = .running) :=
  ⟨by decide +kernel, by decide +kernel, systemTick_answers _ (by decide +kernel)⟩

/-! ### Smoke test of the ill-formed lists -/

theorem smoke_judgementVerdict : (Instr.judgementVerdict []).wellFormed = false ∧ exec (.judgementVerdict []) run0 = .refused .illFormed := ⟨rfl, rfl⟩
theorem smoke_fineDelayMeasure : (Instr.fineDelayMeasure 3 [1#8]).wellFormed = false ∧ exec (.fineDelayMeasure 3 [1#8]) run0 = .refused .illFormed := ⟨rfl, rfl⟩
theorem smoke_calAdcDone : (Instr.calAdcDone []).wellFormed = false ∧ exec (.calAdcDone []) run0 = .refused .illFormed := ⟨rfl, rfl⟩
theorem smoke_bistDone : (Instr.bistDone []).wellFormed = false ∧ exec (.bistDone []) run0 = .refused .illFormed := ⟨rfl, rfl⟩
theorem smoke_discoveryDone : (Instr.discoveryDone []).wellFormed = false ∧ exec (.discoveryDone []) run0 = .refused .illFormed := ⟨rfl, rfl⟩
theorem smoke_telemetryPoll : (Instr.telemetryPoll [] true).wellFormed = false ∧ exec (.telemetryPoll [] true) run0 = .refused .illFormed := ⟨rfl, rfl⟩
theorem smoke_twxHxfrGo : (Instr.twxHxfrGo .twa (hdr 0) [1#32]).wellFormed = false ∧ exec (.twxHxfrGo .twa (hdr 0) [1#32]) run0 = .refused .illFormed := ⟨rfl, rfl⟩

/-! ### Tests: the expected values stand in the spec, or are worked out by hand from it -/

/-- The field of a command's answer. -/
def after1 (c : Instr) (s : State) (f : State → Nat) : Option Nat := match exec c s with
  | .next t => some (f t)
  | _ => none

/-- The check value of the CRC over the digits 1 to 9 (R353). -/
theorem test_crc16_check : crc16 [0x31#8, 0x32#8, 0x33#8, 0x34#8, 0x35#8, 0x36#8, 0x37#8, 0x38#8, 0x39#8] = 0x29B1 := by decide +kernel

/-- An address strap in bin 0 gives the lowest address of each port (R407). -/
theorem test_strap_addresses : (sby.latchStraps 0 0 0).rd Reg.TWI_PSTAT_ADDR 0 = 0x60 ∧ (sby.latchStraps 0 0 0).rd Reg.TWI_PSTAT_ADDR 1 = 0x68 := by decide +kernel

/-- The identification register of the first die revision is built from 0x3296 (R33). -/
theorem test_part_number : fldReset Reg.SYS_ID_PART 0 = 0x3296 := by decide +kernel

/-- The watchdog's key with a TMO of 50 ms restarts the count with it (R447). -/
theorem test_watchdog_kick : after1 (.watchdogKick .ac 0x5A3C0032#32) sby (fun t => t.vn .wdtTmo 1) = some 50 := by decide +kernel

/-- Without the key the TMO only waits (R447). -/
theorem test_watchdog_no_key : after1 (.watchdogKick .ac 0x00000032#32) sby (fun t => t.vn .wdtTmo 1) = some 100 := by decide +kernel

/-- An EOI with an empty stack counts (R440). -/
theorem test_eoi_empty : after1 (.icuEoi .sc 5#8) sby (fun t => t.rd Reg.ICU_CORE_EOIERRCNT 0) = some 1 := by decide +kernel

/-- A width under the floor of 6144 is stretched to it under STRETCH, dropped under DROP (R110). -/
theorem test_stretch : ((pulse 3000 0 1).reloadWidth 3).rd Reg.PWM_WACT 3 = 6144 := by decide +kernel
theorem test_drop : ((pulse 3000 0 0).reloadWidth 3).rd Reg.PWM_WACT 3 = 0 := by decide +kernel

/-- DEFER keeps the width in ACC and delivers it with the next (R110). -/
theorem test_defer : ((pulse 3000 500 2).reloadWidth 3).rd Reg.PWM_ACC 3 = 3500 ∧ ((pulse 3000 4000 2).reloadWidth 3).rd Reg.PWM_WACT 3 = 7000 := by decide +kernel

/-- A VID above VMAX is clamped (R225). -/
theorem test_vcmd_clamps : after1 (.cueVcmd 5#4 1#2 3200#12 9#8) linked (fun t => t.rd Reg.LE_TGTNOW 1) = some 3000 := by decide +kernel

/-- A PING asks for an ECHO of its TOKEN (R227). -/
theorem test_ping : after1 (.cuePing 5#4 77#8) linked (fun t => t.vn .echoVal) = some 77 := by decide +kernel

/-- 74 % of good lookups raise STALE, 75 % do not (R202). -/
theorem test_stale : after1 .staleCheck (setVs [(.lookups, 0, 100), (.goodLookups, 0, 74)] sby) (fun t => t.rd Reg.PHM_TAB_STALE) = some 1 ∧
    after1 .staleCheck (setVs [(.lookups, 0, 100), (.goodLookups, 0, 75)] sby) (fun t => t.rd Reg.PHM_TAB_STALE) = some 0 := by decide +kernel

/-- The SEQ after 0xFFFF_FFFF is 1 (R454). -/
theorem test_slot_seq_wraps : stored.nextSlotSeq 3 = 1 := by decide +kernel

/-- Three restarts at ARBN = 3 end a transaction (R414). -/
theorem test_arbitration_fails : after1 .twxArbLost (setF [(Reg.TWX_HXFR_STAT, 0, hxRunning), (Reg.TWX_CTL_ARBN, 0, 3)] (sby.setV .twxRestarts 0 3)) (fun t => t.rd Reg.TWX_STAT_ARBFAIL) = some 1 := by decide +kernel

/-- A write of a debug access to MRAM is discarded and flagged (R28). -/
theorem test_mram_write_discarded : after1 (.tapDbgacc 0x40000000#32 1#32 2#2 true) (sby.setV .tapIr 0 9) (fun t => t.rd Reg.NVS_STAT_DISCF) = some 1 := by decide +kernel

/-- A staged field is not in force before publication (R8). -/
theorem test_staged : after1 (.registerWrite false 0x0D10#16 0#8 0#4 0x00005600#32) sby (fun t => t.rd Reg.TWX_CTL_TPOLL + 256 * t.stg Reg.TWX_CTL_TPOLL) = some (10 + 256 * 0x56) := by decide +kernel

/-- HELLO of a host that knows version 2 agrees on 2 (R361). -/
theorem test_hello_version : after1 (.hello .twa ⟨0x10#8, 7#8, 0xFFFF#16, 1#16⟩ [2#8, 0#8, 0#8]) sby (fun t => (t.sess .twa).av) = some 2 := by decide +kernel

/-- A wrong length is BAD_PARAM, the status byte 5 behind the reply's header (R354, R384). -/
theorem test_wrong_length : (match exec (.setv .twa (hdr 0xFFFF) [1#8]) (queued .twa 0x23 0xFFFF [1#8] sby) with
    | .next t => ((t.sess .twa).credited.head?).bind (fun r => r.bytes[8]?)
    | _ => none) = some 5#8 := by decide +kernel

end Sys2Proof.Tests
end

section
/-!
PROOF. Reset by the pin: what it leaves of the registers, the sessions and the stores (R10, R26, R48, R49).
-/

namespace Sys2Proof.Proofs

open Machine Machine.State

/-- Settles O7: the pin's reset is neither a power-on nor a fatal fault, so it spares FAILCNT alone and names itself. -/
theorem resetPinKeepsStore : Obligations.ResetPinKeepsStore := by
  intro s hs
  refine ⟨s.devReset rstPin, congrArg Host.Outcome.next (if_neg hs), devReset_power .., devReset_cause .., s.devReset_failcnt rstPin (by decide), fun f i hf => ?_,
    fun _ => devReset_sess .., devReset_owner .., devReset_slots .., devReset_boot .., devReset_recSeq .., fun a => s.devReset_mram rstPin⟩
  simp only [List.mem_cons, List.not_mem_nil, or_false, not_or] at hf
  exact s.devReset_rd rstPin hf.1 (.inl hf.2) (.inr (by decide))

end Sys2Proof.Proofs
end

section
/-!
PROOF. Memory and the bytes of the last bus read, through the shared operations: support for the accesses on the buses.
-/

namespace Sys2Proof.Machine.State

@[simp] theorem event_mem (s : State) (c sev : Nat) (d : List Byte) : (s.event c sev d).mem = s.mem := by
  unfold State.event; dsimp only; split <;> rfl
@[simp] theorem irq_busOut (s : State) (n : Nat) : (s.irq n).busOut = s.busOut := by obtain ⟨u, h⟩ := s.irq_eq n; rw [h]
@[simp] theorem after_busOut (s : State) : s.after.busOut = s.busOut := by rcases s.after_cases with h | h <;> simp [h]
@[simp] theorem after_staged (s : State) : s.after.staged = s.staged := by rcases s.after_cases with h | h <;> simp [h]

/-- A byte reads alike where the memory and the loads of the RAMs do. -/
theorem byteAt_of_mem {s t : State} (hm : t.mem = s.mem) (hv : ∀ (x : Var) (i : Nat), x ≠ .wakeAt → i < 1024 → t.v x i = s.v x i) (a : Nat) : t.byteAt a = s.byteAt a := by
  have hn : ∀ (x : Var) (i : Nat), x ≠ .wakeAt → i < 1024 → t.vn x i = s.vn x i := fun x i hx hi => congrArg Int.toNat (hv x i hx hi)
  have hk : t.contentKey a = s.contentKey a := by
    unfold State.contentKey
    rw [hn .sramEpoch 0 nofun (by decide), hn .leEpoch 0 nofun (by decide)]
    split
    · rfl
    · split
      · rw [hn .tokEpoch _ nofun (by omega)]
      · rfl
  unfold State.byteAt
  rw [hm, hk]

/-- What follows a command changes no byte. -/
@[simp] theorem after_byteAt (s : State) (a : Nat) : s.after.byteAt a = s.byteAt a := byteAt_of_mem s.after_mem (fun _ _ => s.after_v) a

/-- A value that stands in the staging store is the field's staged value. -/
theorem stg_of_staged {s : State} {f : Fld} {i n : Nat} (h : kvFind (f.key i) s.staged = some n) : s.stg f i = n := by unfold State.stg; rw [h]; rfl

end Sys2Proof.Machine.State
end

section
/-!
PROOF. Register writes on the peripheral bus: which object and word takes the write (R29 to R31, R485), and what the word of TWX_CTL does (R6, R8, R426).
-/

namespace Sys2Proof.Machine.State

/-- REGISTER_WRITE of a running block. -/
theorem exec_registerWrite {s : State} (hp : s.power = .running) (dbg : Bool) (obj : BitVec 16) (inst : Byte) (word : BitVec 4) (w : Word) :
    exec (.registerWrite dbg obj inst word w) s = .next (s.registerWrite dbg obj.toNat inst.toNat word.toNat w.toNat).after :=
  act_after (f := fun t => t.registerWrite dbg obj.toNat inst.toNat word.toNat w.toNat) hp

/-- An ID that names no object takes nothing. -/
theorem registerWrite_none {obj : Nat} (s : State) (dbg : Bool) (inst word w : Nat) (h : findObj obj = none) : s.registerWrite dbg obj inst word w = s := by
  unfold State.registerWrite; rw [h]; dsimp only; split <;> rfl

/-- A write by debug access, or by a core that runs, goes to the word of the object, where the object has it. -/
theorem registerWrite_some {s : State} {dbg : Bool} {obj : Nat} {o : Obj} (inst word w : Nat) (hm : dbg = true ∨ s.coreRuns .sc = true ∨ s.coreRuns .ac = true) (h : findObj obj = some o) :
    s.registerWrite dbg obj inst word w =
      if o.arrayed then if inst < o.fam.count ∧ word = 0 then s.busWord dbg o.fam inst o.word w else s
      else if word < o.words then s.busWord dbg o.fam o.base word w else s := by
  have hb : ¬ (¬ dbg = true ∧ ¬ s.coreRuns .sc = true ∧ ¬ s.coreRuns .ac = true) := by tauto
  unfold State.registerWrite; rw [if_neg hb, h]

/-- An object of DBG takes no write by a core (R485). -/
theorem busWord_dbg_of_core (s : State) {fm : Fam} (i k w : Nat) (h : fm.obj / 256 = 0x14) : s.busWord false fm i k w = s := if_pos ⟨h, by decide⟩

/-- Outside the DBG block a written word acts by its access codes. -/
theorem busWord_eq_writeWord (s : State) (dbg : Bool) {fm : Fam} (i k w : Nat) (h : fm.obj / 256 ≠ 0x14) : s.busWord dbg fm i k w = s.writeWord dbg fm i k w := by
  unfold State.busWord
  rw [if_neg (fun c => h c.1), if_neg (by omega), if_neg (by omega), if_neg (by omega)]

/-- A write of DBG by a core, or of a place that the object does not have, takes nothing. -/
theorem registerWrite_discarded {s : State} {dbg : Bool} {obj inst word w : Nat} {o : Obj} (hm : dbg = true ∨ s.coreRuns .sc = true ∨ s.coreRuns .ac = true) (ho : findObj obj = some o)
    (h : o.fam.obj / 256 = 0x14 ∧ dbg = false ∨ (o.arrayed = false ∧ o.words ≤ word) ∨ (o.arrayed = true ∧ (o.fam.count ≤ inst ∨ word ≠ 0))) : s.registerWrite dbg obj inst word w = s := by
  rw [registerWrite_some inst word w hm ho]
  rcases h with ⟨hd, rfl⟩ | ⟨ha, hw⟩ | ⟨ha, hi⟩
  · rw [busWord_dbg_of_core s _ _ _ hd, busWord_dbg_of_core s _ _ _ hd]; simp only [ite_self]
  · rw [ha, if_neg (by decide), if_neg (by omega)]
  · rw [ha, if_pos rfl, if_neg (by omega)]

/-- The staged fields of TWX_CTL, staged from a word. -/
def stageTwxCtl (s : State) (w : Nat) : State :=
  [Reg.TWX_CTL_STBASE, Reg.TWX_CTL_LOWTO, Reg.TWX_CTL_TPOLL, Reg.TWX_CTL_RATE, Reg.TWX_CTL_FILT, Reg.TWX_CTL_ARBN].foldl (fun t f => t.stage f 0 (fldOf f w)) s

/-- The object 0x0D10 is TWX_CTL, of one word. -/
theorem findObj_twxCtl : findObj 0x0D10 = some ⟨Reg.fam_TWX_CTL, 0, 0, 1⟩ := rfl

/-- A written word of TWX_CTL stages its fields, then REDISC acts. -/
theorem writeWord_twxCtl (s : State) (dbg : Bool) (w : Nat) : s.writeWord dbg Reg.fam_TWX_CTL 0 0 w = (s.stageTwxCtl w).woAct Reg.TWX_CTL_REDISC 0 (fldOf Reg.TWX_CTL_REDISC w) := rfl

/-- REDISC asks for discovery in STANDBY, and acts nowhere else (R421). -/
theorem woAct_redisc (s : State) (x : Nat) : s.woAct Reg.TWX_CTL_REDISC 0 x = if x = 0 then s else if s.mode = mStandby then s.redisc else s := rfl

theorem redisc_staged (s : State) : s.redisc.staged = s.staged := by unfold State.redisc; split <;> rfl

/-- Asking for discovery changes no field but DISC. -/
theorem rd_redisc (s : State) {f : Fld} {i : Nat} (h : f.base ≠ Reg.TWX_STAT_DISC.base) (hi : i < 256) : s.redisc.rd f i = s.rd f i := by
  unfold State.redisc; split
  · exact rd_setV ..
  · exact rd_wr_ne _ _ (Ne.symm h) (by decide) hi

theorem writeWord_twxCtl_staged (s : State) (dbg : Bool) (w : Nat) : (s.writeWord dbg Reg.fam_TWX_CTL 0 0 w).staged = (s.stageTwxCtl w).staged := by
  rw [writeWord_twxCtl, woAct_redisc]
  split
  · rfl
  · split
    · exact redisc_staged _
    · rfl

/-- A written word of TWX_CTL changes no field in force but DISC (R8). -/
theorem rd_writeWord_twxCtl (s : State) (dbg : Bool) (w : Nat) {f : Fld} {i : Nat} (h : f.base ≠ Reg.TWX_STAT_DISC.base) (hi : i < 256) :
    (s.writeWord dbg Reg.fam_TWX_CTL 0 0 w).rd f i = s.rd f i := by
  rw [writeWord_twxCtl, woAct_redisc]
  split
  · rfl
  · split
    · exact rd_redisc _ h hi
    · rfl

/-- The staged TPOLL is what the word carries for it. -/
theorem kvFind_stageTwxCtl_tpoll (s : State) (w : Nat) : kvFind (Reg.TWX_CTL_TPOLL.key 0) (s.stageTwxCtl w).staged = some (bits w 15 8) := by
  have e : bits w 15 8 % 2 ^ Reg.TWX_CTL_TPOLL.width = bits w 15 8 := Nat.mod_mod _ _
  simp only [stageTwxCtl, List.foldl_cons, List.foldl_nil, State.stage]
  rw [kvFind_kvPut_ne _ (Fld.key_ne (by decide) (by decide) (by decide)), kvFind_kvPut_ne _ (Fld.key_ne (by decide) (by decide) (by decide)),
    kvFind_kvPut_ne _ (Fld.key_ne (by decide) (by decide) (by decide)), kvFind_kvPut_same]
  exact congrArg some e

/-- A word of TWX_CTL stages TPOLL and leaves the one in force. -/
theorem registerWrite_twxCtl_tpoll {s : State} {dbg : Bool} (inst w : Nat) (hm : dbg = true ∨ s.coreRuns .sc = true ∨ s.coreRuns .ac = true) :
    let t := (s.registerWrite dbg 0x0D10 inst 0 w).after
    t.stg Reg.TWX_CTL_TPOLL = bits w 15 8 ∧ t.rd Reg.TWX_CTL_TPOLL = s.rd Reg.TWX_CTL_TPOLL := by
  have e : s.registerWrite dbg 0x0D10 inst 0 w = s.writeWord dbg Reg.fam_TWX_CTL 0 0 w := by
    rw [registerWrite_some inst 0 w hm findObj_twxCtl]
    exact busWord_eq_writeWord s dbg (fm := Reg.fam_TWX_CTL) 0 0 w (by decide)
  rw [e]
  refine ⟨stg_of_staged ?_, ?_⟩
  · rw [after_staged, writeWord_twxCtl_staged]; exact s.kvFind_stageTwxCtl_tpoll w
  · exact (after_rd _ (by decide) (by decide) (by decide)).trans (s.rd_writeWord_twxCtl dbg w (by decide) (by decide))

end Sys2Proof.Machine.State
end

section
/-!
PROOF. Debug accesses: which address is read, written or an error (R27, R28, R484; the size and alignment by log entry 26).
-/

namespace Sys2Proof.Machine

/-- The low bytes of a number that has no more spell it (R3). -/
theorem leNat_leBytes {n d : Nat} (h : d < 256 ^ n) : leNat (leBytes n d) = d := by
  induction n generalizing d with
  | zero => simpa [leBytes, leNat, eq_comm] using h
  | succ n ih =>
    have hd : d / 256 < 256 ^ n := Nat.div_lt_of_lt_mul (by rwa [← Nat.pow_succ'])
    rw [leBytes, leNat, ih hd, BitVec.toNat_ofNat]
    exact Nat.mod_add_div d 256

namespace State

/-- TAP_DBGACC of a running block. -/
theorem exec_tapDbgacc {s : State} (hp : s.power = .running) (a d : Word) (sz : BitVec 2) (wr : Bool) :
    exec (.tapDbgacc a d sz wr) s = .next (s.dbgAcc a.toNat d.toNat sz.toNat wr).after :=
  act_after (f := fun t => t.dbgAcc a.toNat d.toNat sz.toNat wr) hp

/-- Under another TAP instruction nothing happens. -/
theorem dbgAcc_of_instr {s : State} (a d size : Nat) (wr : Bool) (h : s.tapInstr ≠ 8) : s.dbgAcc a d size wr = s := if_pos h

/-- A size or an address that does not fit is an error. -/
theorem dbgAcc_misfit {s : State} {a size : Nat} (d : Nat) (wr : Bool) (hi : s.tapInstr = 8) (h : 2 < size ∨ a % 2 ^ size ≠ 0) : s.dbgAcc a d size wr = s.accError := by
  unfold State.dbgAcc; rw [if_neg (not_not.2 hi)]; exact if_pos h

/-- A write that fits. -/
theorem dbgAcc_write {s : State} {a size : Nat} (d : Nat) (hi : s.tapInstr = 8) (hs : size ≤ 2) (ha : a % 2 ^ size = 0) : s.dbgAcc a d size true = s.dbgWrite a (2 ^ size) d := by
  unfold State.dbgAcc; rw [if_neg (not_not.2 hi), if_neg (by omega)]; exact if_pos rfl

/-- A read that fits returns the bus's bytes, where all of them exist. -/
theorem dbgAcc_read_some {s : State} {a size : Nat} {b : List Byte} (d : Nat) (hi : s.tapInstr = 8) (hs : size ≤ 2) (ha : a % 2 ^ size = 0) (hb : s.busBytes a (2 ^ size) = some b) :
    s.dbgAcc a d size false = { s with busOut := b } := by
  unfold State.dbgAcc; rw [if_neg (not_not.2 hi), if_neg (by omega), if_neg Bool.false_ne_true, hb]

/-- A read where a byte is missing is an error. -/
theorem dbgAcc_read_none {s : State} {a size : Nat} (d : Nat) (hi : s.tapInstr = 8) (hs : size ≤ 2) (ha : a % 2 ^ size = 0) (hb : s.busBytes a (2 ^ size) = none) :
    s.dbgAcc a d size false = s.accError := by
  unfold State.dbgAcc; rw [if_neg (not_not.2 hi), if_neg (by omega), if_neg Bool.false_ne_true, hb]

/-- A whole word replaces all bytes of the old one. -/
theorem mergeWord_whole {a d : Nat} (old : List Byte) (ha : a % 4 = 0) (hd : d < 2 ^ 32) : mergeWord old a 4 d = d := by
  have e : mergeWord old a 4 d = leNat (leBytes 4 d) := by simp [mergeWord, leBytes, ha, List.range_succ, Nat.div_div_eq_div_mul]
  rw [e, leNat_leBytes hd]

/-- An aligned word of SRAM is written. -/
theorem dbgWrite_sram {a d : Nat} (s : State) (ha : a % 4 = 0) (h1 : 0x20000000 ≤ a) (h2 : a < 0x20080000) (hd : d < 2 ^ 32) : s.dbgWrite a 4 d = s.putWord a d := by
  have e : s.memWord a (mergeWord (s.bytesAt a 4) a 4 d) = (s.putWord a d, stOk) := by
    rw [mergeWord_whole _ ha hd]; exact if_pos ⟨h1, h2⟩
  unfold State.dbgWrite
  rw [if_neg (by omega), if_neg (by omega), if_neg (by omega), ha, Nat.sub_zero, e]
  rfl

/-- A write to MRAM is discarded and an error. -/
theorem dbgWrite_mram {a : Nat} (s : State) (n d : Nat) (h1 : 0x40000000 ≤ a) (h2 : a < 0x40240000) : s.dbgWrite a n d = s.mramDiscard.accError := if_pos ⟨h1, h2⟩

/-- A write to the phase table is an error. -/
theorem dbgWrite_table {a : Nat} (s : State) (n d : Nat) (h1 : 0x90020000 ≤ a) (h2 : a < 0x90028000) : s.dbgWrite a n d = s.accError := by
  unfold State.dbgWrite
  rw [if_neg (by omega), if_neg (by omega), if_pos ⟨h1, h2⟩]

/-! ### What an access error and a discarded MRAM write leave -/

theorem rd_accError_accerr (s : State) : s.accError.rd Reg.DBG_STAT_ACCERR = 1 := (rd_irq ..).trans (rd_wr_same ..)

/-- An access error changes no field but ACCERR. -/
theorem rd_accError (s : State) {f : Fld} {i : Nat} (h : f.base ≠ Reg.DBG_STAT_ACCERR.base) (hi : i < 256) : s.accError.rd f i = s.rd f i :=
  (rd_irq ..).trans ((rd_wr_ne _ _ (Ne.symm h) (by decide) hi).trans (rd_of_regs rfl f i))

@[simp] theorem accError_busOut (s : State) : s.accError.busOut = [0#8, 0#8, 0#8, 0#8] := irq_busOut ..
@[simp] theorem accError_mem (s : State) : s.accError.mem = s.mem := irq_mem ..
@[simp] theorem v_accError (s : State) (x : Var) (i : Nat) : s.accError.v x i = s.v x i := v_irq ..

theorem rd_mramDiscard_discf (s : State) : s.mramDiscard.rd Reg.NVS_STAT_DISCF = 1 := (rd_event _ _ _ _ (by decide) (by decide)).trans ((rd_irq ..).trans (rd_wr_same ..))
@[simp] theorem mramDiscard_mem (s : State) : s.mramDiscard.mem = s.mem := (event_mem ..).trans (irq_mem ..)
@[simp] theorem v_mramDiscard (s : State) (x : Var) (i : Nat) : s.mramDiscard.v x i = s.v x i := (v_event ..).trans (v_irq ..)

/-- ACCERR stands after an access error. -/
theorem after_accError_accerr (s : State) : s.accError.after.rd Reg.DBG_STAT_ACCERR = 1 := (after_rd _ (by decide) (by decide) (by decide)).trans s.rd_accError_accerr

/-- DISCF stands after a discarded MRAM write. -/
theorem after_mramDiscard_accError_discf (s : State) : s.mramDiscard.accError.after.rd Reg.NVS_STAT_DISCF = 1 :=
  (after_rd _ (by decide) (by decide) (by decide)).trans ((rd_accError _ (by decide) (by decide)).trans s.rd_mramDiscard_discf)

/-- A discarded MRAM write changes no byte of memory. -/
theorem mramDiscard_accError_sameMemory (s : State) : s.SameMemory s.mramDiscard.accError.after := fun a =>
  (after_byteAt _ a).trans (byteAt_of_mem ((accError_mem _).trans (mramDiscard_mem s)) (fun x i _ _ => (v_accError _ x i).trans (v_mramDiscard s x i)) a)

end State

end Sys2Proof.Machine
end

section
/-!
PROOF. Writes and debug accesses on the buses, from the rules for each.
-/

namespace Sys2Proof.Proofs

open Machine Machine.State

/-- A size code that is not 3 is at most 2. -/
theorem size_le_two {sz : BitVec 2} (h : sz ≠ 3#2) : sz.toNat ≤ 2 := by
  have h3 : sz.toNat ≠ 3 := fun e => h (BitVec.eq_of_toNat_eq e)
  omega

/-- Settles O48: each write and each access by the rule for its object or its address; that a size or alignment that does not fit is an error is the model's choice (log entry 26). -/
theorem busWritesAct : Obligations.BusWritesAct := by
  refine ⟨fun dbg obj inst word w s hp hm => ⟨fun h => ?_, fun o ho h => ?_, fun o ho hd ha hw => ?_, fun o ho hd ha hw hi => ?_, ?_⟩,
    fun a d sz wr s hp => ⟨fun hi => ?_, fun hi h => ?_, fun b hi hs ha hb => ?_, fun hi hs ha hb => ?_, fun hi ha h1 h2 => ?_, fun hi hs ha h1 h2 => ?_, fun hi hs ha h1 h2 => ?_⟩⟩
  · rw [exec_registerWrite hp, registerWrite_none _ _ _ _ _ h]
  · rw [exec_registerWrite hp, registerWrite_discarded hm ho]
    simpa only [ne_eq, BitVec.toNat_eq, BitVec.toNat_ofNat, Nat.zero_mod] using h
  · rw [exec_registerWrite hp, registerWrite_some _ _ _ hm ho, ha, if_neg Bool.false_ne_true, if_pos hw, busWord_eq_writeWord _ _ _ _ _ hd]
  · rw [exec_registerWrite hp, registerWrite_some _ _ _ hm ho, ha, if_pos rfl, if_pos ⟨hi, congrArg BitVec.toNat hw⟩, busWord_eq_writeWord _ _ _ _ _ hd]
  · rintro rfl rfl
    exact ⟨_, exec_registerWrite hp .., registerWrite_twxCtl_tpoll inst.toNat w.toNat hm⟩
  · rw [exec_tapDbgacc hp, dbgAcc_of_instr _ _ _ _ hi]
  · have hmis : 2 < sz.toNat ∨ a.toNat % 2 ^ sz.toNat ≠ 0 := h.imp_left (fun e => by rw [e]; decide)
    refine ⟨_, exec_tapDbgacc hp .., ?_⟩
    rw [dbgAcc_misfit _ _ hi hmis]
    exact ⟨after_accError_accerr s, (after_busOut _).trans (accError_busOut s)⟩
  · rw [exec_tapDbgacc hp, dbgAcc_read_some _ hi (size_le_two hs) ha hb]
  · refine ⟨_, exec_tapDbgacc hp .., ?_⟩
    rw [dbgAcc_read_none _ hi (size_le_two hs) ha hb]
    exact after_accError_accerr s
  · have hw : s.dbgAcc a.toNat d.toNat 2 true = s.putWord a.toNat d.toNat := (dbgAcc_write _ hi le_rfl ha).trans (dbgWrite_sram s ha h1 h2 d.isLt)
    exact (exec_tapDbgacc hp ..).trans (congrArg (fun t : State => Host.Outcome.next t.after) hw)
  · refine ⟨_, exec_tapDbgacc hp .., ?_⟩
    rw [dbgAcc_write _ hi (size_le_two hs) ha, dbgWrite_mram s _ _ h1 h2]
    exact ⟨after_mramDiscard_accError_discf s, after_accError_accerr _, mramDiscard_accError_sameMemory s⟩
  · rw [exec_tapDbgacc hp, dbgAcc_write _ hi (size_le_two hs) ha, dbgWrite_table s _ _ h1 h2]

end Sys2Proof.Proofs
end

section
/-!
PROOF. The idle tick (R329, log entry 2), and reads without a side effect (R15; the capture samples by log entry 46).
-/

namespace Sys2Proof.Machine.State

/-- A channel that follows no comparator takes no sample. -/
theorem cmpFill_off {s : State} {c : Nat} (h : s.vOn .capNext c = false) : s.cmpFill c = s := if_neg (by simp [h])

/-- Where no channel follows a comparator nothing is sampled. -/
theorem capSync_off {s : State} (h : ∀ c < 16, s.vOn .capNext c = false) : s.capSync = s := by
  have key : ∀ l : List Nat, (∀ c ∈ l, s.vOn .capNext c = false) → l.foldl (fun s c => s.cmpFill c) s = s := by
    intro l
    induction l with
    | nil => exact fun _ => rfl
    | cons c l ih =>
      intro hl
      rw [List.foldl_cons, cmpFill_off (hl c (List.mem_cons_self ..))]
      exact ih fun d hd => hl d (List.mem_cons_of_mem _ hd)
  exact key _ fun c hc => h c (List.mem_range.1 hc)

/-- With an empty queue the step is the idle tick. -/
theorem step_idle {s : State} (h : s.pending = []) : step s = .next s.idle := by unfold step; rw [h]

/-- Whatever GET answers, it leaves the state with the samples taken. -/
theorem getBody_fst (s : State) (p : Port) (c : Cmd) : (s.getBody p c).1 = s.capSync := by
  unfold State.getBody; generalize s.capSync = t; dsimp only; split
  · rfl
  · simp only [apply_ite Prod.fst, ite_self]

/-- Whatever GETBLK answers, it leaves the state with the samples taken. -/
theorem getblkBody_fst (s : State) (p : Port) (c : Cmd) : (s.getblkBody p c).1 = s.capSync := by
  unfold State.getblkBody; generalize s.capSync = t; dsimp only; split
  · rfl
  · split
    · rfl
    · split <;> rfl

/-- Whatever PEEK answers, it leaves the state with the samples taken. -/
theorem peekBody_fst (s : State) (p : Port) (c : Cmd) : (s.peekBody p c).1 = s.capSync := by
  unfold State.peekBody; generalize s.capSync = t; dsimp only; split
  · rfl
  · split <;> rfl

/-- A read looks at the object and the payload of its command and at nothing else of it. -/
theorem getBody_congr (s : State) (p : Port) {c d : Cmd} (ho : c.obj = d.obj) (hp : c.payload = d.payload) : s.getBody p c = s.getBody p d := by
  unfold State.getBody; rw [ho, hp]
theorem getblkBody_congr (s : State) (p : Port) {c d : Cmd} (ho : c.obj = d.obj) (hp : c.payload = d.payload) : s.getblkBody p c = s.getblkBody p d := by
  unfold State.getblkBody; rw [ho, hp]
theorem peekBody_congr (s : State) (p : Port) {c d : Cmd} (ho : c.obj = d.obj) (hp : c.payload = d.payload) : s.peekBody p c = s.peekBody p d := by
  unfold State.peekBody; rw [ho, hp]

end Sys2Proof.Machine.State

namespace Sys2Proof.Proofs

open Machine Machine.State

/-- A row whose body only takes the capture samples answers with a status and data that the row's operands and the state fix. -/
theorem runs_read {i : Instr} {s : State} {p : Port} {h : Hdr} {pl : List Byte} {op : Nat} {f : State → Port → Cmd → State.Result}
    (hx : exec i s = act s (hostRow op p h pl f)) (hf : ∀ (t : State) c, (f t p c).1 = t.capSync)
    (hc : ∀ (t : State) (c d : Cmd), c.obj = d.obj → c.payload = d.payload → f t p c = f t p d) : ∃ st data, Runs i s p h pl op (fun t _ => (t.capSync, st, data)) := by
  let r := f (s.taken p) p ⟨op, 0, 0, h.objId.toNat, 0, pl, false, false, false⟩
  refine ⟨r.2.1, r.2.2, fun c w => ?_⟩
  obtain ⟨hp, -, -, -, -, -, -, -, hobj, hpl⟩ := id w
  have e : f (s.taken p) p c = ((s.taken p).capSync, r.2.1, r.2.2) := by
    rw [hc _ c ⟨op, 0, 0, h.objId.toNat, 0, pl, false, false, false⟩ hobj hpl, ← hf]
  rw [hx, act_after hp, Laws.hostRow_waiting w, e]

/-- Settles O2: the queue decides that the step is a tick, and a channel that records nothing takes nothing; that the idle step is a tick is the model's choice (log entry 2). -/
theorem idleTick : Obligations.IdleTick := by
  intro s hs
  refine ⟨step_idle hs, fun h => ?_⟩
  rw [step_idle hs]
  exact congrArg Host.Outcome.next (capSync_off h)

/-- Settles O58: the reads of hosts leave the state with the samples taken, and a debug read that fits drives its bytes; that captured samples are entered when something looks at them is the model's choice (log entry 46). -/
theorem readsHaveNoSideEffects : Obligations.ReadsHaveNoSideEffects := by
  intro p h pl s
  refine ⟨fun x hx => ?_, fun a d sz b hp hi hs ha hb => ?_⟩
  · simp only [List.mem_cons, List.not_mem_nil, or_false] at hx
    rcases hx with rfl | rfl | rfl
    · exact runs_read (f := State.getBody) rfl (fun t => t.getBody_fst p) (fun t _ _ => t.getBody_congr p)
    · exact runs_read (f := State.getblkBody) rfl (fun t => t.getblkBody_fst p) (fun t _ _ => t.getblkBody_congr p)
    · exact runs_read (f := State.peekBody) rfl (fun t => t.peekBody_fst p) (fun t _ _ => t.peekBody_congr p)
  · rw [exec_tapDbgacc hp, dbgAcc_read_some _ hi (size_le_two hs) ha hb]

end Sys2Proof.Proofs
end

section
/-!
PROOF. CCT_ENABLE outside the modes of expert writes: CCT_CTL is an expert object, so a SET that changes EN is refused there with WRONG_MODE (R36, R97, R517).
-/

namespace Sys2Proof.Proofs

open Machine Machine.State

/-- The SET of CCT_CTL that writes EN 0, as the SC admits it. -/
def enOffCmd : Cmd := ⟨0x11, 0, 0, 0x0A00, 0, leBytes 4 0, false, false, false⟩

/-- A block in ACTIVE at interface level 1, its coulomb counter enabled, where that SET waits in the one open session. -/
def activeWithEnOff : State :=
  { (State.reset.wr Reg.SYS_MODE_MODE 0 mActive).wr Reg.SYS_IMAGE_EFFIL 0 1 with power := .running, twa := { Session.none with isOpen := true, queue := [enOffCmd] } }

theorem activeWithEnOff_waiting : activeWithEnOff.Waiting .twa ⟨0#8, 0#8, 0x0A00#16, 0#16⟩ (leBytes 4 0) 0x11 enOffCmd :=
  ⟨rfl, by decide +kernel, rfl, rfl, rfl, rfl, rfl, rfl, rfl, rfl⟩

/-- The register EN of CCT_CTL in the next state of an outcome. -/
def enAfter : Host.Outcome State Fault Refusal → Option Nat
  | .next t => some (t.rd Reg.CCT_CTL_EN)
  | _ => none

/-- Refutes O50: in ACTIVE, one of the modes named, CCT_ENABLE with EN 0 is no basic write of its expert object, so the SET is refused and EN stays 1. -/
theorem not_fieldWriteRowsRun : ¬ Obligations.FieldWriteRowsRun := by
  intro h
  obtain ⟨-, hcfg, -⟩ := h .twa ⟨0#8, 0#8, 0x0A00#16, 0#16⟩ activeWithEnOff (by decide +kernel)
  obtain ⟨-, -, -, -, -, hen, -⟩ := hcfg (by decide +kernel)
  have claimed := hen false enOffCmd activeWithEnOff_waiting
  have shown : enAfter (exec (.cctEnable .twa ⟨0#8, 0#8, 0x0A00#16, 0#16⟩ false) activeWithEnOff) = some 1 := by decide +kernel
  rw [claimed] at shown
  exact absurd shown (by decide +kernel)

end Sys2Proof.Proofs
end

section
/-!
PROOF. From PLL lock to STANDBY: where the boot ROM goes on after its accounting, and what the end of a start clears (R24, R50, R52, R53, R60, R407, R518).
-/

namespace Sys2Proof.Machine.State

/-- PLL_LOCK of a running block. -/
theorem exec_pllLock {s : State} (hp : s.power = .running) (a0 a1 sv : BitVec 16) : exec (.pllLock a0 a1 sv) s = .next (s.pllLock a0.toNat a1.toNat sv.toNat).after :=
  act_after (f := fun t => t.pllLock a0.toNat a1.toNat sv.toNat) hp

/-- BOOT_COMPLETE of a running block. -/
theorem exec_bootComplete {s : State} (hp : s.power = .running) : exec .bootComplete s = .next s.bootComplete.after := act_after hp

/-- The state as the PLL's lock shows it. -/
def pllShown (s : State) : State := (((s.wr Reg.CLK_STATUS_LOCK 0 1).wr Reg.CLK_STATUS_REFOK 0 1).wr Reg.CLK_STATUS_ONRC 0 0).setV .pllSeen 0 1

/-- The boot record and the straps at the choice of what runs: the first lock in BOOT latches the straps and accounts for the start (R39, R52). -/
def counted (s : State) (a0 a1 sv : Nat) : State := (s.pllShown.latchStraps a0 a1 sv).accounting

section
variable {s : State} {a0 a1 sv : Nat} (hm : s.mode = mBoot) (hv : s.vOn .pllSeen = false)
include hm hv

/-- The third failed start ends in MINIMAL (R53). -/
theorem pllLock_third (h : (s.counted a0 a1 sv).boot.streak = 3) : s.pllLock a0 a1 sv = (s.counted a0 a1 sv).enterMinimal 0x10 := by
  unfold State.pllLock
  rw [if_neg (by simp [hm, hv])]
  extract_lets _ u
  exact if_pos h

/-- With no bank to run the start ends in MINIMAL (R60). -/
theorem pllLock_noBank (h : (s.counted a0 a1 sv).boot.streak ≠ 3) (hb : (s.counted a0 a1 sv).selectBank.2 = none) :
    s.pllLock a0 a1 sv = (s.counted a0 a1 sv).selectBank.1.enterMinimal 0x20 := by
  unfold State.pllLock
  rw [if_neg (by simp [hm, hv])]
  extract_lets _ u x
  have hx : x.2 = none := hb
  refine (if_neg h).trans ?_
  rw [hx]
  rfl

/-- The chosen bank runs (R60). -/
theorem pllLock_bank {b : Bool} (h : (s.counted a0 a1 sv).boot.streak ≠ 3) (hb : (s.counted a0 a1 sv).selectBank.2 = some b) :
    s.pllLock a0 a1 sv = (s.counted a0 a1 sv).selectBank.1.runImage b := by
  unfold State.pllLock
  rw [if_neg (by simp [hm, hv])]
  extract_lets _ u x
  have hx : x.2 = some b := hb
  refine (if_neg h).trans ?_
  rw [hx]
  rfl

end

/-- There are eight strap bins. -/
theorem strapBin_le (x : Nat) : strapBin x ≤ 7 := List.length_filter_le ..

/-- Each port's address is its base and its strap's bin (R407). -/
theorem latchStraps_addr (s : State) (a0 a1 sv : Nat) :
    (s.latchStraps a0 a1 sv).rd Reg.TWI_PSTAT_ADDR 0 = 0x60 + strapBin a0 ∧ (s.latchStraps a0 a1 sv).rd Reg.TWI_PSTAT_ADDR 1 = 0x68 + strapBin a1 := by
  have h0 := strapBin_le a0
  have h1 := strapBin_le a1
  have hw : 2 ^ Reg.TWI_PSTAT_ADDR.width = 128 := rfl
  refine ⟨?_, ?_⟩
  · refine (rd_wr_inst _ _ (by decide)).trans ((rd_wr_same ..).trans ?_)
    rw [hw]; omega
  · refine (rd_wr_same ..).trans ?_
    rw [hw]; omega

/-- The boot record of a finished start has no streak and no marker (R52). -/
theorem startDone_boot (s : State) : s.startDone.boot = { s.boot with streak := 0, marker := false, pendingReason := 0 } := by
  unfold State.startDone; dsimp only; split <;> rfl

end Sys2Proof.Machine.State

namespace Sys2Proof.Proofs

open Machine Machine.State

/-- Settles O9: the boot ROM's path after the lock is read off the boot record and the chosen bank, and the end of a started image off its latch. -/
theorem startRowsAct : Obligations.StartRowsAct := by
  refine ⟨fun a0 a1 sv s hp hm hv => ?_, fun s hp hm hr hd => ?_⟩
  · intro locked u
    have hx := exec_pllLock hp a0 a1 sv
    refine ⟨fun h3 => ?_, fun h3 hb => ?_, fun b h3 hb => ?_, latchStraps_addr ..⟩
    · rw [hx, pllLock_third hm hv h3]; rfl
    · rw [hx, pllLock_noBank hm hv h3 hb]; rfl
    · rw [hx, pllLock_bank hm hv h3 hb]; rfl
  · have hs : ¬ (s.mode ≠ mBoot ∨ ¬ s.vOn .bootRun = true ∨ s.on Reg.TWX_STAT_DISC = true) := by rw [hm, hr, hd]; decide
    rw [exec_bootComplete hp, startDone_boot]
    unfold State.bootComplete
    rw [if_neg hs]
    exact ⟨fun hl => by rw [if_neg (by rw [hl]; decide)], fun hl => by rw [if_pos hl], rfl, rfl⟩

end Sys2Proof.Proofs
end

section
/-!
PROOF. The loop engine: when an update runs, the end of a swap copy, and a duty delivered to DOUT and to the shadow widths of the active phases (R21, R131, R133, R148, R184).
-/

namespace Sys2Proof.Machine.State

/-! ### Updates -/

/-- LE_UPDATE of a running block. -/
theorem exec_leUpdate {s : State} (hp : s.power = .running) (c : Fin 5) (t : Nat) : exec (.leUpdate c t) s = .next (s.leUpdate c t).after :=
  act_after (f := fun u => u.leUpdate c t) hp

/-- A halted engine, and a context without a result, does nothing (R21, R131). -/
theorem leUpdate_none {s : State} {c : Nat} (t : Nat) (h : s.on Reg.LE_CTL_HALTED = true ∨ s.vOn .inWait c = false) : s.leUpdate c t = s :=
  if_pos (by simpa using h)

/-- The result of a rail's context is taken by its update. -/
theorem leUpdate_rail {s : State} {c : Nat} (t : Nat) (hh : s.on Reg.LE_CTL_HALTED = false) (hw : s.vOn .inWait c = true) (hc : c ≠ 4) : s.leUpdate c t = (s.upTo t).railUpdate c := by
  unfold State.leUpdate; rw [if_neg (by rw [hh, hw]; decide), if_neg hc]

/-- The Hamper's result is taken by its update, unless the Hamper is isolated. -/
theorem leUpdate_ham {s : State} (t : Nat) (hh : s.on Reg.LE_CTL_HALTED = false) (hw : s.vOn .inWait 4 = true) (hm : s.rd Reg.HAM_CTL_AMODE ≠ 0) :
    s.leUpdate 4 t = (s.upTo t).hamUpdate := by
  unfold State.leUpdate; rw [if_neg (by rw [hh, hw]; decide), if_pos rfl]; exact if_neg hm

/-! ### The end of a swap copy -/

/-- The reply of a RETUNE changes no field. -/
@[simp] theorem rd_retuneReply (s : State) (f : Fld) (i : Nat) : s.retuneReply.rd f i = s.rd f i := by
  unfold State.retuneReply; split
  · rfl
  · dsimp only; split
    · exact rd_reply ..
    · rfl

/-- The reply of a RETUNE changes no variable. -/
@[simp] theorem v_retuneReply (s : State) (x : Var) (i : Nat) : s.retuneReply.v x i = s.v x i := by
  unfold State.retuneReply; split
  · rfl
  · dsimp only; split
    · exact v_reply ..
    · rfl

/-- What the end of a copy clears (R148). -/
theorem copyDone_clears {s : State} (h : s.vOn .swapCopy = true) :
    s.copyDone.rd Reg.LE_CTL_SWPEND = 0 ∧ s.copyDone.v .swapCopy = 0 ∧ s.copyDone.v .bankTouched = 0 := by
  unfold State.copyDone
  rw [if_pos h]
  extract_lets u
  have hu : u.v .swapCopy = 0 := (v_wr ..).trans (v_setV_same ..)
  refine ⟨(rd_retuneReply ..).trans ((rd_setV ..).trans ((rd_setV ..).trans (rd_wr_same ..))), (v_retuneReply ..).trans ?_, (v_retuneReply ..).trans (v_setV_same ..)⟩
  rw [v_setV_ne _ _ (by decide) (by decide) (by decide), v_setV_ne _ _ (by decide) (by decide) (by decide), hu]

/-! ### The delivery of a duty -/

/-- The states differ at most in what a delivered duty writes: DOUT, the shadow widths, and the notes of both. -/
def DutyFrame (s t : State) : Prop :=
  (∀ (f : Fld) (i : Nat), f.base ≠ Reg.PWM_WSH.base → f.base ≠ Reg.LE_DOUT.base → i < 256 → t.rd f i = s.rd f i) ∧
    ∀ (x : Var) (i : Nat), x.ctorIdx ≠ Var.shadowNew.ctorIdx → x.ctorIdx ≠ Var.dutyPrev.ctorIdx → i < 1024 → t.v x i = s.v x i

/-- A width written to a shadow stays in the frame. -/
theorem DutyFrame.writeShadow {s t : State} (h : DutyFrame s t) {c : Nat} (hc : c < 256) (w : Nat) : DutyFrame s (t.writeShadow c w) :=
  ⟨fun f i h1 h2 hi => (rd_wr_ne t w h1.symm hc hi).trans (h.1 f i h1 h2 hi), fun x i h1 h2 hi => (v_setV_ne _ _ h1.symm (by omega) hi).trans (h.2 x i h1 h2 hi)⟩

/-- DOUT and the note of the duty stay in the frame. -/
theorem dutyFrame_dout (s : State) {r : Nat} (hr : r < 256) (d n : Nat) : DutyFrame s ((s.wr Reg.LE_DOUT r d).setV .dutyPrev r n) :=
  ⟨fun _ _ _ h2 hi => rd_wr_ne s d h2.symm hr hi, fun _ _ _ h2 hi => v_setV_ne _ _ h2.symm (by omega) hi⟩

section
variable {s t : State} (h : DutyFrame s t)
include h

theorem DutyFrame.prefHalf : t.prefHalf = s.prefHalf := by
  unfold State.prefHalf State.vn
  rw [h.2 .prefHalf 0 (by decide) (by decide) (by decide), h.1 Reg.PWM_REF_PRD 0 (by decide) (by decide) (by decide)]

theorem DutyFrame.halfNow {c : Nat} (hc : c < 256) : t.vn .halfNow c = s.vn .halfNow c :=
  congrArg Int.toNat (h.2 .halfNow c (by decide) (by decide) (by omega))

/-- The half-period that a channel takes does not depend on duties. -/
theorem DutyFrame.srcHalf (c : Nat) : c < 256 → t.srcHalf c = s.srcHalf c := by
  induction c with
  | zero =>
    intro hc
    unfold State.srcHalf
    rw [h.prefHalf, h.1 Reg.PWM_SYNCSEL 0 (by decide) (by decide) hc, h.1 Reg.PWM_PRD 0 (by decide) (by decide) hc]
  | succ c ih =>
    intro hc
    unfold State.srcHalf
    rw [h.prefHalf, h.1 Reg.PWM_SYNCSEL _ (by decide) (by decide) hc, h.1 Reg.PWM_PRD _ (by decide) (by decide) hc, h.halfNow (by omega), ih (by omega)]

/-- The width of a phase for a duty does not depend on the widths delivered already (R184). -/
theorem DutyFrame.phaseWidth {r c : Nat} (hr : r < 256) (hc : c < 256) (d : Nat) : t.phaseWidth r c d = s.phaseWidth r c d := by
  have hrd : ∀ (f : Fld) (i : Nat), f.base ≠ Reg.PWM_WSH.base → f.base ≠ Reg.LE_DOUT.base → i < 256 → t.rd f i = s.rd f i := h.1
  have hshare : t.share r c = s.share r c := by
    unfold State.share State.on
    rw [hrd Reg.PHM_SHED_SHRAMP r (by decide) (by decide) hr, hrd Reg.PHM_DEPART c (by decide) (by decide) hc, h.2 .shedJ r (by decide) (by decide) (by omega)]
  have htrim : t.trim r c = s.trim r c := by
    unfold State.trim State.rdS
    rw [hrd Reg.PHM_BAL_TRIMMAX r (by decide) (by decide) hr, hrd Reg.PHM_TTAB c (by decide) (by decide) hc, hrd Reg.PHM_TINT c (by decide) (by decide) hc]
  have hhalf : t.half c = s.half c := by unfold State.half; rw [h.halfNow hc, h.srcHalf c hc]
  unfold State.phaseWidth
  rw [hshare, htrim, hhalf]

/-- The phases of a rail with a role do not depend on duties. -/
theorem DutyFrame.active (r : Nat) : t.active r = s.active r := by
  have hrd : ∀ (f : Fld) (i : Nat), f.base ≠ Reg.PWM_WSH.base → f.base ≠ Reg.LE_DOUT.base → i < 256 → t.rd f i = s.rd f i := h.1
  unfold State.active State.phasesIn State.assigned State.on
  rw [List.filter_filter, List.filter_filter]
  refine List.filter_congr fun c hmem => ?_
  have hc : c < 256 := by have := List.mem_range.1 hmem; omega
  rw [hrd Reg.PHM_ROLE c (by decide) (by decide) hc, hrd Reg.PHM_ASSIGN c (by decide) (by decide) hc, hrd Reg.PHM_RAIL c (by decide) (by decide) hc]

end

/-- The active phases of a rail are channels, each named once. -/
theorem active_lt {s : State} {r c : Nat} (h : c ∈ s.active r) : c < 256 := by
  have := List.mem_range.1 (List.mem_of_mem_filter (List.mem_of_mem_filter h)); omega

theorem active_nodup (s : State) (r : Nat) : (s.active r).Nodup := (List.nodup_range.filter _).filter _

/-- Widths delivered to phases, in turn. -/
def deliverTo (r d : Nat) (l : List Nat) (t : State) : State := l.foldl (fun s c => s.writeShadow c (s.phaseWidth r c d)) t

/-- Delivery to other phases leaves a shadow width alone. -/
theorem rd_deliverTo_ne (r d : Nat) {c : Nat} (l : List Nat) : c ∉ l → ∀ t : State, (deliverTo r d l t).rd Reg.PWM_WSH c = t.rd Reg.PWM_WSH c := by
  induction l with
  | nil => exact fun _ _ => rfl
  | cons a l ih =>
    intro hl t
    rw [List.mem_cons, not_or] at hl
    exact (ih hl.2 _).trans (rd_wr_inst t _ (Ne.symm hl.1))

/-- Delivery of widths leaves other fields alone. -/
theorem rd_deliverTo {f : Fld} {i : Nat} (r d : Nat) (hf : f.base ≠ Reg.PWM_WSH.base) (hi : i < 256) (l : List Nat) (hl : ∀ c ∈ l, c < 256) : ∀ t : State, (deliverTo r d l t).rd f i = t.rd f i := by
  induction l with
  | nil => exact fun _ => rfl
  | cons a l ih => exact fun t => (ih (fun c hc => hl c (List.mem_cons_of_mem _ hc)) _).trans (rd_wr_ne t _ hf.symm (hl a (List.mem_cons_self ..)) hi)

/-- Each phase of the list gets the share that the state before the delivery gives it. -/
theorem rd_deliverTo_mem {s : State} {r : Nat} (hr : r < 256) (d : Nat) {c : Nat} (l : List Nat) : l.Nodup → (∀ a ∈ l, a < 256) → c ∈ l → ∀ t, DutyFrame s t →
    (deliverTo r d l t).rd Reg.PWM_WSH c = s.phaseWidth r c d % 2 ^ Reg.PWM_WSH.width := by
  induction l with
  | nil => exact fun _ _ hc => absurd hc List.not_mem_nil
  | cons a l ih =>
    intro hn hl hc t ht
    obtain ⟨ha, hn⟩ := List.nodup_cons.1 hn
    have ha256 : a < 256 := hl a (List.mem_cons_self ..)
    rcases List.mem_cons.1 hc with rfl | hc
    · refine (rd_deliverTo_ne r d l ha _).trans ?_
      rw [← ht.phaseWidth hr ha256 d]
      exact rd_wr_same ..
    · exact ih hn (fun b hb => hl b (List.mem_cons_of_mem _ hb)) hc _ (ht.writeShadow ha256 _)

/-- A duty in UQ0.24 fits the field DOUT. -/
theorem duty_mod (d : Int) : (clamp 0 (2 ^ 24 - 1) d).toNat % 2 ^ Reg.LE_DOUT.width = (clamp 0 (2 ^ 24 - 1) d).toNat := by
  refine Nat.mod_eq_of_lt ?_
  have hw : 2 ^ Reg.LE_DOUT.width = 2 ^ 24 := rfl
  rw [hw]
  unfold clamp
  split_ifs <;> omega

/-- DOUT shows the delivered duty (R133). -/
theorem rd_deliverDuty_dout (s : State) {r : Nat} (hr : r < 256) (d : Int) : (s.deliverDuty r d).rd Reg.LE_DOUT r = (clamp 0 (2 ^ 24 - 1) (d / 16)).toNat := by
  unfold State.deliverDuty State.splitDuty
  extract_lets dq
  exact (rd_deliverTo r dq (by decide) hr _ (fun _ => active_lt) _).trans ((rd_setV ..).trans ((rd_wr_same ..).trans (duty_mod _)))

/-- Every active phase gets its share of the duty (R184). -/
theorem rd_deliverDuty_wsh {s : State} {r c : Nat} (hr : r < 256) (d : Int) (hc : c ∈ s.active r) :
    (s.deliverDuty r d).rd Reg.PWM_WSH c = s.phaseWidth r c (clamp 0 (2 ^ 24 - 1) (d / 16)).toNat % 2 ^ Reg.PWM_WSH.width := by
  unfold State.deliverDuty State.splitDuty
  extract_lets dq
  have ht := dutyFrame_dout s hr dq (dq * 16)
  exact rd_deliverTo_mem hr dq _ (active_nodup _ r) (fun _ => active_lt) (ht.active r ▸ hc) _ ht

end Sys2Proof.Machine.State

namespace Sys2Proof.Proofs

open Machine Machine.State

/-- Settles O24: the update of the engine by its two guards, the end of the copy by what it clears, and the delivery phase by phase, since no width depends on those delivered before it. -/
theorem loopRowsAct : Obligations.LoopRowsAct := by
  refine ⟨fun s hp => ⟨fun c t hh hw hc => ?_, fun t hh hw hm => ?_, fun c t h => ?_, fun h => ?_⟩, fun r d s => ⟨?_, fun c hc => ?_⟩⟩
  · rw [exec_leUpdate hp, leUpdate_rail t hh hw (by omega)]
  · exact (exec_leUpdate hp 4 t).trans (congrArg (fun u : State => Host.Outcome.next u.after) (leUpdate_ham t hh hw hm))
  · rw [exec_leUpdate hp, leUpdate_none t h]
  · obtain ⟨hr, hv, hb⟩ := copyDone_clears h
    refine ⟨_, act_after hp, ?_, ?_, ?_⟩
    · exact (after_rd _ (by decide) (by decide) (by decide)).trans hr
    · exact (after_v _ (x := .swapCopy) nofun (by decide)).trans hv
    · exact (after_v _ (x := .bankTouched) nofun (by decide)).trans hb
  · exact rd_deliverDuty_dout s (by omega) d
  · exact rd_deliverDuty_wsh (by omega) d hc

end Sys2Proof.Proofs
end

section
/-!
PROOF. The estimator: its update, the start-up reconciliation and the state record (R20, R268, R274, R282; that the reconciliation is made before the Hamper first leaves ISOLATE, and the movement between timers, by log entry 81).
-/

namespace Sys2Proof.Machine.State

/-! ### The update -/

/-- Inactive, the estimator does nothing (R268). -/
theorem gaugeUpdate_inactive {s : State} (h : s.on Reg.GAU_STATE_ACTIVE = false) : s.gaugeUpdate = s := if_pos (by rw [h]; decide)

/-- With the AC halted the update is missed and counted (R20). -/
theorem gaugeUpdate_missed {s : State} (ha : s.on Reg.GAU_STATE_ACTIVE = true) (hh : s.on Reg.DBG_STAT_ACHALTED = true) :
    s.gaugeUpdate = s.setV .gMissed 0 (s.v .gMissed + 1) := by
  unfold State.gaugeUpdate; rw [if_neg (not_not.2 ha), if_pos hh]

/-- The ledger after a look at the counter, with LSUSP where the request threshold has been passed (R268, R278). -/
def gaugeCounted (s : State) : State :=
  let a := ((s.cctSnapshot.count (s.v .gMissed + 1)).setV .gMissed 0 0).showGauge
  if a.ureq < a.v .gU then a.wr Reg.GAU_STATE_LSUSP 0 1 else a

/-- An update that is made counts, then anchors, warns and requests (R268). -/
theorem gaugeUpdate_runs {s : State} (ha : s.on Reg.GAU_STATE_ACTIVE = true) (hh : s.on Reg.DBG_STAT_ACHALTED = false) :
    s.gaugeUpdate = (((s.gaugeCounted.anchors.relaxCheck).showGauge).healthWarns).requestCheck := by
  unfold State.gaugeUpdate; rw [if_neg (not_not.2 ha), if_neg (by rw [hh]; decide)]; rfl

/-! ### The start-up reconciliation -/

/-- The insertion estimate of a start without a record and with no cause of reset: at the mean, with its own uncertainty, announced by INSF (R274). -/
def insertedAt (s : State) (uv : Int) : State :=
  let a := (s.wr Reg.GAU_HLTH_CAP 0 (s.rd Reg.GAU_CFG_CAPR)).wr Reg.GAU_STATE_CAPV 0 0
  ((a.insertion uv (1 * a.anchorU uv)).wr Reg.GAU_STATE_INSF 0 1).event 0x601A 1 []

/-- With no record the reconciliation is an insertion estimate (R274). -/
theorem reconcile_insertion {s : State} (mv : Nat) (hg : s.on Reg.GAU_STATE_GAPF = true) (ha : s.on Reg.GAU_STATE_ACTIVE = true) (hl : s.vOn .hamLeft = false)
    (hn : s.newestSlot 75 = none) (hr : s.rd Reg.SYS_BOOT_RSTCAUSE = 0) :
    s.reconcile mv = ((((s.insertedAt ((mv : Int) * 1000)).wr Reg.GAU_STATE_GAPF 0 0).setV .recStored 0 ((s.insertedAt ((mv : Int) * 1000)).v .gStored / mC)).showGauge) := by
  unfold State.reconcile
  rw [if_pos ⟨hg, ha, by rw [hl]; decide⟩, hn, hr]
  rfl

/-- There is a reconciliation only of an active estimate with a gap, before the Hamper first leaves ISOLATE (R274). -/
theorem reconcile_none {s : State} (mv : Nat) (h : s.on Reg.GAU_STATE_GAPF = false ∨ s.on Reg.GAU_STATE_ACTIVE = false ∨ s.vOn .hamLeft = true) : s.reconcile mv = s := by
  refine if_neg ?_
  rintro ⟨hg, ha, hl⟩
  rcases h with h | h | h
  · rw [h] at hg; exact absurd hg (by decide)
  · rw [h] at ha; exact absurd ha (by decide)
  · exact hl h

/-! ### The state record -/

/-- The movement of the charge since the timer before reaches a thousandth of the capacity (R282). -/
def movedAThousandth (s : State) : Prop := s.capMc ≤ 1000 * ((s.v .gStored / mC - s.v .recStored).natAbs : Int)

/-- A movement of a thousandth has the record written (R282). -/
theorem stateTimer_moved {s : State} (ha : s.on Reg.GAU_STATE_ACTIVE = true) (hf : s.vn .tFinal = 0) (h : s.movedAThousandth) :
    s.stateTimer = (s.queueSlot 75 s.gaugeBody).setV .recStored 0 (s.v .gStored / mC) := by
  have hrec : s.gaugeRecord = s.queueSlot 75 s.gaugeBody := if_pos ⟨ha, hf⟩
  unfold State.stateTimer
  rw [← hrec]
  exact congrArg (fun t : State => t.setV .recStored 0 (s.v .gStored / mC)) (if_pos h)

/-- A smaller movement is only noted (R282). -/
theorem stateTimer_still {s : State} (h : ¬ s.movedAThousandth) : s.stateTimer = s.setV .recStored 0 (s.v .gStored / mC) :=
  congrArg (fun t : State => t.setV .recStored 0 (s.v .gStored / mC)) (if_neg h)

end Sys2Proof.Machine.State
end

section
/-!
PROOF. The reservoir's rest: the relaxed flag, the reading, and the window from its grant to its end (R271, R272, R279, R280; that REQ falls at the window's end, by log entry 61).
-/

namespace Sys2Proof.Machine.State

/-! ### The reading -/

/-- RELAX elapses (R271). -/
theorem relaxed_runs {s : State} (h : s.vn .tRelax ≠ 0) : s.relaxed = ((s.upTo (s.vn .tRelax - 1)).setV .tRelax 0 0).setV .relaxDone 0 1 := if_neg h

section
variable {s : State} {mv : Nat} (hd : s.vn .relaxDone ≠ 0) (hm : s.rd Reg.HAM_CTL_AMODE = 0)
include hd hm

/-- A reading that takes no anchor: one is taken already, or there is no estimator (R271). -/
theorem restReading_none (h : s.vOn .restTaken = true ∨ s.on Reg.GAU_STATE_ACTIVE = false) : s.restReading mv = (s.setV .relaxDone 0 2).showGauge := by
  have h' : s.vOn .restTaken = true ∨ ¬ s.on Reg.GAU_STATE_ACTIVE = true := h.imp_right (fun e => by rw [e]; decide)
  unfold State.restReading
  rw [if_pos ⟨hd, hm⟩]
  extract_lets uv u
  have hu : u = s := if_pos h'
  rw [hu]

/-- With no full or empty anchor the rest anchor is taken (R271). -/
theorem restReading_rest (ht : s.vOn .restTaken = false) (ha : s.on Reg.GAU_STATE_ACTIVE = true) (hf : s.fullEmpty = none) :
    s.restReading mv = ((s.anchor 3 (s.vocUv ((mv : Int) * 1000))).setV .relaxDone 0 2).showGauge := by
  unfold State.restReading
  rw [if_pos ⟨hd, hm⟩, hf]
  extract_lets uv u
  have hu : u = s.anchor 3 uv := if_neg (by rw [ht, ha]; decide)
  rw [hu]

/-- A full or an empty anchor precedes the rest anchor where its doubled uncertainty is smaller (R272). -/
theorem restReading_fullEmpty (ht : s.vOn .restTaken = false) (ha : s.on Reg.GAU_STATE_ACTIVE = true) {k : Nat} {x : Int} (hf : s.fullEmpty = some (k, x)) :
    s.restReading mv = ((if 2 * s.anchorU x < s.anchorU (s.vocUv ((mv : Int) * 1000)) then s.anchor k x else s.anchor 3 (s.vocUv ((mv : Int) * 1000))).setV .relaxDone 0 2).showGauge := by
  unfold State.restReading
  rw [if_pos ⟨hd, hm⟩, hf]
  extract_lets uv u
  have hu : u = if 2 * s.anchorU x < s.anchorU uv then s.anchor k x else s.anchor 3 uv := if_neg (by rw [ht, ha]; decide)
  rw [hu]

end

/-! ### The window -/

/-- A notice to the load changes no field. -/
@[simp] theorem rd_restNotice (s : State) (ph : Nat) (f : Fld) (i : Nat) : (s.restNotice ph).rd f i = s.rd f i := by
  unfold State.restNotice; dsimp only; split
  · rfl
  · exact rd_setV ..

/-- A change of the window's phase shows in PH alone. -/
theorem rd_setRestPh (s : State) (ph : Nat) {f : Fld} {i : Nat} (h : f.base ≠ Reg.GAU_REST_PH.base) (hi : i < 256) : (s.setRestPh ph).rd f i = s.rd f i := by
  unfold State.setRestPh; split
  · rfl
  · exact (rd_restNotice ..).trans (rd_wr_ne _ _ (Ne.symm h) (by decide) hi)

/-- The Hamper isolated for the window, the owner's SMODE saved (R280). -/
def isolatedForRest (s : State) : State := (((s.setRestPh 2).setV .smodeSave 0 (s.rd Reg.HAM_CTL_SMODE + 1)).wr Reg.HAM_CTL_SMODE 0 0).hamAtOnce

/-- Isolating the Hamper for the window leaves the device mode alone. -/
theorem isolatedForRest_mode (s : State) : s.isolatedForRest.mode = s.mode := by
  unfold State.isolatedForRest
  rw [hamAtOnce_mode]
  exact (rd_wr_ne _ _ (by decide) (by decide) (by decide)).trans ((rd_setV ..).trans (rd_setRestPh _ _ (by decide) (by decide)))

/-- The window that has begun: its end is set, and its RELAX has not begun (R279, R280). -/
def restBegun (a : State) : State :=
  let b := ((a.setV .tRestStart 0 0).setV .tGrant 0 0).setV .tRest 0 (a.now + a.restLen * 4000000 + 1)
  ((b.setV .relaxDone 0 0).setV .tRelax 0 0).event 0x6012 0 []

theorem restBegun_mode (a : State) : a.restBegun.mode = a.mode := by
  unfold State.restBegun State.mode
  dsimp only
  rw [rd_event _ _ _ _ (by decide) (by decide), rd_setV, rd_setV, rd_setV, rd_setV, rd_setV]

/-- A scheduled window of an owner's grant starts in ACTIVE (R280). -/
theorem restStart_active {s : State} (hp : s.rd Reg.GAU_REST_PH = 1) (hq : s.on Reg.GAU_REST_QONLY = false) (hm : s.mode = mActive) : s.restStart = s.isolatedForRest.restBegun.relaxCheck := by
  have hmode : s.isolatedForRest.restBegun.mode = mActive := (restBegun_mode _).trans (s.isolatedForRest_mode.trans hm)
  unfold State.restStart
  rw [if_pos hp]
  extract_lets t a b c
  have ht : t = s := if_neg (by rw [hq]; decide)
  have hc : c = s.isolatedForRest.restBegun := by simp only [c, b, a, ht, State.isolatedForRest, State.restBegun]
  rw [hc]
  exact if_pos (.inr (.inl hmode))

/-- The owner's SMODE in force again, and the window's timer stopped (R280). -/
def smodeRestored (s : State) : State := ((s.wr Reg.HAM_CTL_SMODE 0 (s.vn .smodeSave - 1)).hamAtOnce.setV .smodeSave 0 0).setV .tRest 0 0

/-- A window ends after its reading, or with no estimator to read for (R267, R280). -/
theorem restEnd_runs {s : State} (hp : s.rd Reg.GAU_REST_PH = 2) (h : s.vn .relaxDone = 2 ∨ s.on Reg.GAU_STATE_ACTIVE = false) :
    s.restEnd = (((((s.smodeRestored.setRestPh 0).dropRestGrant.wr Reg.GAU_REST_REQ 0 0).bump Reg.GAU_REST_NREST 0).event 0x6013 0 []).gaugeRecord) :=
  if_pos ⟨hp, h.imp_right (fun e => by rw [e]; decide)⟩

/-- Outside a window, and before the reading of one, there is no end (R280). -/
theorem restEnd_none {s : State} (h : s.rd Reg.GAU_REST_PH ≠ 2 ∨ (s.vn .relaxDone ≠ 2 ∧ s.on Reg.GAU_STATE_ACTIVE = true)) : s.restEnd = s := by
  refine if_neg ?_
  rintro ⟨hp, hr⟩
  rcases h with h | ⟨h1, h2⟩
  · exact h hp
  · exact hr.elim h1 (fun hn => hn h2)

/-- A grant withdrawn: neither GRANTED nor QONLY stands, and no timer of it runs (R279). -/
theorem dropRestGrant_clears (s : State) : s.dropRestGrant.rd Reg.GAU_REST_GRANTED = 0 ∧ s.dropRestGrant.rd Reg.GAU_REST_QONLY = 0 ∧ s.dropRestGrant.v .tGrant = 0 := by
  unfold State.dropRestGrant
  extract_lets u
  refine ⟨?_, ?_, v_setV_same ..⟩
  · rw [rd_setV, rd_setV, rd_wr_ne _ _ (by decide) (by decide) (by decide), rd_wr_same]; rfl
  · rw [rd_setV, rd_setV, rd_wr_same]; rfl

/-- The fields that a refusal of rest writes, beside the counters of the recorder. -/
def refuseBases (f : Fld) : List Nat := [f.base, Reg.GAU_REST_NDENY.base, Reg.GAU_REST_REQ.base, Reg.GAU_STATE_LSUSP.base] ++ evrBases

/-- A refusal of rest touches its own fields only. -/
theorem rd_refuseRest (s : State) (f : Fld) {g : Fld} {i : Nat} (h : g.base ∉ refuseBases f) (hi : i < 256) : (s.refuseRest f).rd g i = s.rd g i := by
  simp only [refuseBases, List.cons_append, List.nil_append, List.mem_cons, not_or] at h
  obtain ⟨hf, hn, hr, hl, he⟩ := h
  unfold State.refuseRest
  exact (rd_event _ _ _ _ he hi).trans ((rd_setV ..).trans ((rd_wr_ne _ _ (Ne.symm hl) (by decide) hi).trans ((rd_wr_ne _ _ (Ne.symm hr) (by decide) hi).trans
    ((rd_wr_ne _ _ (Ne.symm hn) (by decide) hi).trans (rd_wr_ne _ _ (Ne.symm hf) (by decide) hi)))))

/-- A refusal of rest leaves the timers of the window alone. -/
theorem refuseRest_tGrant (s : State) (f : Fld) : (s.refuseRest f).v .tGrant = s.v .tGrant :=
  (v_event ..).trans ((v_setV_ne _ _ (by decide) (by decide) (by decide)).trans rfl)

/-- A lapse raises LAPSF and LSUSP and ends the request (R279). -/
theorem refuseRest_lapse (s : State) :
    (s.refuseRest Reg.GAU_REST_LAPSF).rd Reg.GAU_REST_LAPSF = 1 ∧ (s.refuseRest Reg.GAU_REST_LAPSF).rd Reg.GAU_REST_REQ = 0 ∧ (s.refuseRest Reg.GAU_REST_LAPSF).rd Reg.GAU_STATE_LSUSP = 1 := by
  unfold State.refuseRest
  extract_lets u
  refine ⟨?_, ?_, ?_⟩ <;> rw [rd_event _ _ _ _ (by decide) (by decide), rd_setV]
  · rw [rd_wr_ne _ _ (by decide) (by decide) (by decide), rd_wr_ne _ _ (by decide) (by decide) (by decide)]
    exact (rd_wr_ne _ _ (by decide) (by decide) (by decide)).trans (rd_wr_same ..)
  · exact (rd_wr_ne _ _ (by decide) (by decide) (by decide)).trans (rd_wr_same ..)
  · exact rd_wr_same ..

/-- A grant that waits for quiet lapses: it is withdrawn, and the request is refused with LAPSF (R279). -/
theorem restLapse_effect {s : State} (hq : s.on Reg.GAU_REST_QONLY = true) (hp : s.rd Reg.GAU_REST_PH = 0) :
    s.restLapse.rd Reg.GAU_REST_LAPSF = 1 ∧ s.restLapse.rd Reg.GAU_REST_REQ = 0 ∧ s.restLapse.rd Reg.GAU_STATE_LSUSP = 1 ∧
      s.restLapse.rd Reg.GAU_REST_GRANTED = 0 ∧ s.restLapse.rd Reg.GAU_REST_QONLY = 0 ∧ s.restLapse.v .tGrant = 0 := by
  have hx : s.restLapse = ((s.upTo (s.vn .tGrant - 1)).dropRestGrant).refuseRest Reg.GAU_REST_LAPSF := if_pos ⟨hq, hp⟩
  obtain ⟨hg, hqo, ht⟩ := (s.upTo (s.vn .tGrant - 1)).dropRestGrant_clears
  obtain ⟨hf, hr, hl⟩ := ((s.upTo (s.vn .tGrant - 1)).dropRestGrant).refuseRest_lapse
  rw [hx]
  exact ⟨hf, hr, hl, (rd_refuseRest _ _ (by decide) (by decide)).trans hg, (rd_refuseRest _ _ (by decide) (by decide)).trans hqo, (refuseRest_tGrant ..).trans ht⟩

end Sys2Proof.Machine.State

namespace Sys2Proof.Proofs

open Machine Machine.State

/-- Settles O34: each row of the estimator by its guards; REQ falling at the window's end and the missed updates are the model's choice (log entry 61), and so is the movement between timers and the time of the reconciliation (log entry 81). -/
theorem gaugeRowsAct : Obligations.GaugeRowsAct := by
  refine ⟨fun s hp => ⟨fun ha => ?_, fun ha hh => ?_, fun ha hh => ?_⟩,
    fun s hp => ⟨fun mv hg ha hl hn hr => ?_, fun h mv => ?_, fun ha hf h => ?_, fun h => ?_⟩,
    fun s hp => ⟨fun h => ?_, fun mv hd hm => ⟨fun ht ha => ⟨fun hf => ?_, fun k x hf => ?_⟩, fun h => ?_⟩, fun h hq hm => ?_, fun h hr => ?_, fun h => ?_, fun hq h => ?_⟩⟩
  · exact (act_after (f := State.gaugeUpdate) hp).trans (by rw [gaugeUpdate_inactive ha])
  · exact (act_after (f := State.gaugeUpdate) hp).trans (by rw [gaugeUpdate_missed ha hh])
  · exact (act_after (f := State.gaugeUpdate) hp).trans (by rw [gaugeUpdate_runs ha hh]; rfl)
  · exact (act_after (f := fun t => t.reconcile mv) hp).trans (by rw [reconcile_insertion mv hg ha hl hn hr]; rfl)
  · exact (act_after (f := fun t => t.reconcile mv) hp).trans (by rw [reconcile_none mv h])
  · exact (act_after (f := State.stateTimer) hp).trans (by rw [stateTimer_moved ha hf h])
  · exact (act_after (f := State.stateTimer) hp).trans (by rw [stateTimer_still (not_le.2 h)])
  · exact (act_after (f := State.relaxed) hp).trans (by rw [relaxed_runs h])
  · exact (act_after (f := fun t => t.restReading mv) hp).trans (by rw [restReading_rest hd hm ht ha hf])
  · exact (act_after (f := fun t => t.restReading mv) hp).trans (by rw [restReading_fullEmpty hd hm ht ha hf])
  · exact (act_after (f := fun t => t.restReading mv) hp).trans (by rw [restReading_none hd hm h])
  · exact (act_after (f := State.restStart) hp).trans (by rw [restStart_active h hq hm]; rfl)
  · exact (act_after (f := State.restEnd) hp).trans (by rw [restEnd_runs h hr]; rfl)
  · exact (act_after (f := State.restEnd) hp).trans (by rw [restEnd_none h])
  · obtain ⟨hf, hr, hl, hg, hqo, ht⟩ := restLapse_effect hq h
    refine ⟨_, act_after hp, ?_, ?_, ?_, ?_, ?_, ?_⟩
    · exact (after_rd _ (by decide) (by decide) (by decide)).trans hf
    · exact (after_rd _ (by decide) (by decide) (by decide)).trans hr
    · exact (after_rd _ (by decide) (by decide) (by decide)).trans hl
    · exact (after_rd _ (by decide) (by decide) (by decide)).trans hg
    · exact (after_rd _ (by decide) (by decide) (by decide)).trans hqo
    · exact (after_v _ (x := .tGrant) (by decide) (by decide)).trans ht

end Sys2Proof.Proofs
end

section
/-!
PROOF. What a row leaves alone: a relation between a state and its successor that holds of each shared operation and composes, and what it says of the bytes of memory.
-/

namespace Sys2Proof.Machine.State

/-- The parts of the state that the rows of few fields never touch: memory, the sessions, the owner, the boot record, the log and the queue of commands. -/
def kept (s : State) : List Host.Cell × Session × Session × Session × Option Port × BootRec × List (Nat × Record) × List Instr := (s.mem, s.twa, s.twb, s.hsp, s.owner, s.boot, s.ring, s.pending)

/-- The variables that count the loads of the memories: a byte that was never written reads by them. -/
def countsLoads (x : Var) : Bool := [Var.sramEpoch, .tokEpoch, .leEpoch].any (fun y => y.ctorIdx == x.ctorIdx)

/-- A variable that counts loads has another number than one that does not. -/
theorem ctorIdx_ne_of_countsLoads {x y : Var} (hx : countsLoads x = false) (hy : countsLoads y = true) : x.ctorIdx ≠ y.ctorIdx := by
  intro e
  unfold countsLoads at hx hy
  rw [e, hy] at hx
  cases hx

/-- The recorder's books: the fields that an event counts in (R461, R463, R465). -/
def bookKeys : List Nat := [Reg.EVR_BOOK_RAISED.key 0, Reg.EVR_STAT_LOST.key 0, Reg.EVR_BOOK_LOSTT.key 0]

/-- `t` differs from `s` in no field but those of the keys `l`, of the recorder's books and of what follows every command, in no load of a memory, and in none of the parts of `kept`. -/
structure KeepsRest (l : List Nat) (s t : State) : Prop where
  regs : s.SameRegs t (afterKeys ++ bookKeys ++ l)
  loads : ∀ x : Var, countsLoads x = true → ∀ i < 1024, t.v x i = s.v x i
  kept : t.kept = s.kept

/-- A byte reads alike where the memory and the loads of the RAMs do. -/
theorem byteAt_of_loads {s t : State} (hm : t.mem = s.mem) (hv : ∀ x : Var, countsLoads x = true → ∀ i < 1024, t.v x i = s.v x i) (a : Nat) : t.byteAt a = s.byteAt a := by
  have hn : ∀ x : Var, countsLoads x = true → ∀ i < 1024, t.vn x i = s.vn x i := fun x hx i hi => congrArg Int.toNat (hv x hx i hi)
  have hk : t.contentKey a = s.contentKey a := by
    unfold State.contentKey
    rw [hn .sramEpoch rfl 0 (by decide), hn .leEpoch rfl 0 (by decide)]
    split
    · rfl
    · split
      · rw [hn .tokEpoch rfl _ (by omega)]
      · rfl
  unfold State.byteAt
  rw [hm, hk]

namespace KeepsRest

variable {l : List Nat} {s t u : State}

theorem refl : KeepsRest l s s := ⟨fun _ _ _ => rfl, fun _ _ _ _ => rfl, rfl⟩

/-- One keeping after another. -/
theorem andThen (h2 : KeepsRest l t u) (h1 : KeepsRest l s t) : KeepsRest l s u :=
  ⟨fun f i hk => (h2.regs f i hk).trans (h1.regs f i hk), fun x hx i hi => (h2.loads x hx i hi).trans (h1.loads x hx i hi), h2.kept.trans h1.kept⟩

/-- A longer list of fields says less. -/
theorem mono {l' : List Nat} (h : KeepsRest l s t) (hl : l ⊆ l') : KeepsRest l' s t :=
  ⟨fun f i hk => h.regs f i (fun hm => hk (by simp only [List.mem_append] at hm ⊢; exact hm.imp_right (@hl _))), h.loads, h.kept⟩

/-- A choice keeps what both its sides keep. -/
theorem ite {c : Prop} [Decidable c] (h1 : c → KeepsRest l s t) (h2 : ¬ c → KeepsRest l s u) : KeepsRest l s (if c then t else u) := by
  split
  · exact h1 ‹_›
  · exact h2 ‹_›

/-- Parts of the state besides registers, variables and the kept ones may change. -/
theorem congr (h : KeepsRest l s t) (hr : u.regs = t.regs) (hv : u.vars = t.vars) (hk : u.kept = t.kept) : KeepsRest l s u :=
  andThen ⟨fun f i _ => rd_of_regs hr f i, fun x _ i _ => v_of_vars hv x i, hk⟩ h

/-! ### The shared operations -/

/-- A write of a field whose key is one of those that may change. -/
theorem wr_of_mem {f : Fld} {i n : Nat} (hk : f.key i ∈ afterKeys ++ bookKeys ++ l) (h : KeepsRest l s t) : KeepsRest l s (t.wr f i n) :=
  andThen ⟨fun _ _ hg => t.rd_wr_key n (fun e => hg (e ▸ hk)), fun _ _ _ _ => rfl, rfl⟩ h

theorem wr {f : Fld} {i n : Nat} (hk : f.key i ∈ l) (h : KeepsRest l s t) : KeepsRest l s (t.wr f i n) :=
  wr_of_mem (List.mem_append_right _ hk) h

theorem bump {f : Fld} {i n : Nat} (hk : f.key i ∈ l) (h : KeepsRest l s t) : KeepsRest l s (t.bump f i n) := wr hk h

/-- A variable that counts no load is set, at any index. -/
theorem setAt {x : Var} {i : Nat} {n : Int} (hx : countsLoads x = false) (hi : i < 1024) (h : KeepsRest l s t) : KeepsRest l s (t.setV x i n) :=
  andThen ⟨fun f j _ => t.rd_setV x i n f j, fun _ hy _ hj => t.v_setV_ne n (ctorIdx_ne_of_countsLoads hx hy) hi hj, rfl⟩ h

theorem setV {x : Var} {n : Int} (hx : countsLoads x = false) (h : KeepsRest l s t) : KeepsRest l s (t.setV x 0 n) := setAt hx (by decide) h

theorem upTo {n : Nat} (h : KeepsRest l s t) : KeepsRest l s (t.upTo n) := h.congr rfl rfl rfl

theorem irq {n : Nat} (h : KeepsRest l s t) : KeepsRest l s (t.irq n) := by
  obtain ⟨v, e⟩ := t.irq_eq n
  rw [e]; exact h.congr rfl rfl rfl

/-- An event that finds the queue full counts in the recorder's books (R463). -/
theorem loseEvent (h : KeepsRest l s t) : KeepsRest l s t.loseEvent := by
  unfold State.loseEvent
  extract_lets u
  have hu : KeepsRest l s u := wr_of_mem (by simp [bookKeys]) (wr_of_mem (by simp [bookKeys]) h)
  exact hu.congr rfl rfl rfl

/-- An event counts in the recorder's books, whether it finds room or is lost (R461, R463, R465). -/
theorem event {c v : Nat} {d : List Byte} (h : KeepsRest l s t) : KeepsRest l s (t.event c v d) := by
  have raised : KeepsRest l s (t.wr Reg.EVR_BOOK_RAISED 0 (t.rd Reg.EVR_BOOK_RAISED + 1)) := h.wr_of_mem (by simp [bookKeys])
  unfold State.event
  exact ite (fun _ => raised.congr rfl rfl rfl) fun _ => raised.loseEvent

theorem kickNvs (h : KeepsRest l s t) : KeepsRest l s t.kickNvs := by
  obtain ⟨w, q, m, r, hw, e⟩ := t.kickNvs_cases
  rw [e]
  have hk : KeepsRest l s w := by
    rcases hw with rfl | rfl | rfl
    · exact h
    · exact setV rfl h
    · exact setV rfl (setV rfl h)
  exact hk.congr rfl rfl rfl

theorem queueSlot {d : Nat} {b : List Byte} (h : KeepsRest l s t) : KeepsRest l s (t.queueSlot d b) := kickNvs (h.congr rfl rfl rfl)

/-- A fold of steps that each keep the rest. -/
theorem foldl {α : Type} {f : State → α → State} {xs : List α} (h : KeepsRest l s t) (hf : ∀ (u : State) (a : α), a ∈ xs → KeepsRest l u (f u a)) : KeepsRest l s (xs.foldl f t) := by
  induction xs generalizing t with
  | nil => exact h
  | cons a xs ih => exact ih ((hf t a List.mem_cons_self).andThen h) fun u b hb => hf u b (List.mem_cons_of_mem a hb)

/-! ### What follows every command -/

theorem wakeCheck {c : CoreId} (h : KeepsRest l s t) : KeepsRest l s (t.wakeCheck c) := by
  have hc : c.idx < 2 := by cases c <;> decide
  rcases t.wakeCheck_cases c with e | e <;> rw [e]
  · exact h
  · refine setAt rfl (by omega) (wr_of_mem ?_ h)
    simp only [afterKeys, List.mem_append, List.mem_map, List.mem_range]
    exact .inl (.inl (.inr ⟨_, hc, rfl⟩))

theorem rateCheck (h : KeepsRest l s t) : KeepsRest l s t.rateCheck := by
  refine h.foldl fun u c hc => ite (fun _ => refl.wr_of_mem ?_) fun _ => refl
  simp only [afterKeys, List.mem_append, List.mem_map]
  exact .inl (.inl (.inl ⟨c, hc, rfl⟩))

theorem settle (h : KeepsRest l s t) : KeepsRest l s t.settle := by
  have hr : KeepsRest l s t.rateCheck := h.rateCheck
  unfold State.settle
  generalize t.rateCheck = r at hr
  exact wakeCheck (wakeCheck (hr.congr rfl rfl rfl))

theorem after (h : KeepsRest l s t) : KeepsRest l s t.after := by
  rcases t.after_cases with e | e <;> rw [e]
  · exact h.settle
  · exact h

/-! ### What the relation says of a state -/

theorem sameMemory (h : KeepsRest l s t) : s.SameMemory t := byteAt_of_loads (congrArg Prod.fst h.kept) h.loads

theorem sess (h : KeepsRest l s t) (p : Port) : t.sess p = s.sess p := by
  obtain ⟨_, htwa, htwb, hhsp, _⟩ := by simpa only [State.kept, Prod.mk.injEq] using h.kept
  cases p
  · exact htwa
  · exact htwb
  · exact hhsp

end KeepsRest

end Sys2Proof.Machine.State
end

section
/-!
PROOF. The rows of few fields, each by the operations it is made of: watchdogs, interrupts, debug, synchronisation, samples and the rails' timers.
-/

namespace Sys2Proof.Machine.State

/-- The phase chosen to be shed is an active one of the rail (R188). -/
theorem shedChoice_mem {s : State} {r c : Nat} (h : s.shedChoice r = some c) : c ∈ s.active r := by
  have key : ∀ d, s.shedChoice r = some d → d ∈ s.active r := by
    refine List.foldlRecOn (motive := fun a => ∀ d, a = some d → d ∈ s.active r) _ _ nofun fun a ha b hb => ?_
    have hb' : ∀ d, some b = some d → d ∈ s.active r := fun d e => Option.some.inj e ▸ hb
    split
    · exact hb'
    · split
      · exact hb'
      · exact ha
  exact key c h

theorem phasesIn_lt {s : State} {r k c : Nat} (h : c ∈ s.phasesIn r k) : c < 32 := List.mem_range.1 (List.mem_of_mem_filter (List.mem_of_mem_filter h))

namespace KeepsRest

variable {l : List Nat} {s : State}

/-! ### Watchdogs, interrupts and debug -/

theorem of_wdtStart (c : CoreId) : KeepsRest l s (s.wdtStart c) := by
  have hi : c.idx < 1024 := (CoreId_idx_lt c).trans (by decide)
  exact setAt rfl hi (setAt rfl hi (setAt rfl hi refl))

theorem of_wdtWrite (c : CoreId) (w : Nat) : KeepsRest [(prefFld c).key 0, (tmoFld c).key 0] s (s.wdtWrite c w) := by
  unfold State.wdtWrite
  extract_lets s1 t s2
  have h1 : KeepsRest [(prefFld c).key 0, (tmoFld c).key 0] s s1 := ite (fun _ => wr (by simp) refl) fun _ => refl
  have h2 : KeepsRest [(prefFld c).key 0, (tmoFld c).key 0] s s2 := ite (fun _ => wr (by simp) h1) fun _ => h1
  exact ite (fun _ => (of_wdtStart c).andThen h2) fun _ => h2

theorem of_badEoi (c : CoreId) (n top : Nat) : KeepsRest [Reg.ICU_CORE_EOIERRF.key c.idx, Reg.ICU_CORE_EOIERRCNT.key c.idx] s (s.badEoi c n top) :=
  event (irq (bump (by simp) (wr (by simp) refl)))

theorem of_eoi (c : CoreId) (n : Nat) : KeepsRest [Reg.ICU_CORE_EOIERRF.key c.idx, Reg.ICU_CORE_EOIERRCNT.key c.idx] s (s.eoi c n) := by
  unfold State.eoi
  split
  · refine ite (fun _ => ?_) fun _ => of_badEoi ..
    cases c <;> exact refl.congr rfl rfl rfl
  · exact of_badEoi ..

theorem of_fallback {n : Nat} (hn : n < 128) : KeepsRest [Reg.ICU_CORE_FBCNT.key 0, Reg.ICU_CORE_FBCNT.key 1] s (s.fallback n) := by
  unfold State.fallback
  extract_lets c
  have hc : Reg.ICU_CORE_FBCNT.key c.idx ∈ [Reg.ICU_CORE_FBCNT.key 0, Reg.ICU_CORE_FBCNT.key 1] := by cases c <;> simp [CoreId.idx]
  exact ite (fun _ => event (bump hc (setAt rfl (by omega) (upTo refl)))) fun _ => refl

theorem of_haltCore (c : CoreId) (cause : Nat) : KeepsRest [(haltedFld c).key 0, (causeFld c).key 0] s (s.haltCore c cause) := by
  have hi : c.idx < 1024 := (CoreId_idx_lt c).trans (by decide)
  unfold State.haltCore
  refine ite (fun _ => refl) fun _ => ?_
  extract_lets s1
  have h1 : KeepsRest [(haltedFld c).key 0, (causeFld c).key 0] s s1 := setAt rfl hi (wr (by simp) (wr (by simp) refl))
  exact ite (fun _ => setV rfl h1) fun _ => h1

theorem of_bpHit (i : Nat) : KeepsRest [Reg.DBGBP_HITS.key i, (haltedFld (bpCore i)).key 0, (causeFld (bpCore i)).key 0] s (s.bpHit i) := by
  unfold State.bpHit
  extract_lets c stepped s1 cause
  show KeepsRest [Reg.DBGBP_HITS.key i, (haltedFld c).key 0, (causeFld c).key 0] s _
  refine ite (fun _ => ?_) fun _ => refl
  have h1 : KeepsRest [Reg.DBGBP_HITS.key i, (haltedFld c).key 0, (causeFld c).key 0] s s1 := bump (by simp) refl
  exact ite (fun _ => h1) fun _ => ite (fun _ => wr (by simp) h1) fun _ => ((of_haltCore c cause).mono (by simp)).andThen h1

theorem of_leHaltShow : KeepsRest [Reg.LE_CTL_HALTED.key 0] s s.leHaltShow := by
  unfold State.leHaltShow
  extract_lets h
  refine ite (fun _ => refl) fun _ => foldl (wr (by simp) refl) fun u c hc => ?_
  have hi : c < 1024 := (List.mem_range.1 hc).trans (by decide)
  exact ite (fun _ => setAt rfl hi refl) fun _ => setAt rfl hi (setAt rfl hi refl)

theorem of_leHaltReq (h : Bool) : KeepsRest [Reg.DBG_STAT_LEHREJ.key 0, Reg.DBG_LE_HALTREQ.key 0, Reg.LE_CTL_HALTED.key 0] s (s.leHaltReq h) :=
  ite (fun _ => wr (by simp) refl) fun _ => (of_leHaltShow.mono (by simp)).andThen (wr (by simp) refl)

theorem of_tapIrWrite (ir : Nat) : KeepsRest [Reg.DBG_STAT_BSREJ.key 0] s (s.tapIrWrite ir) := by
  unfold State.tapIrWrite
  extract_lets s1
  have h1 : KeepsRest [Reg.DBG_STAT_BSREJ.key 0] s s1 := setV rfl (setV rfl refl)
  exact ite (fun _ => ite (fun _ => setV rfl h1) fun _ => event (wr (by simp) h1)) fun _ => h1

/-! ### Channels: the peak reload, synchronisation, fine delays and samples -/

theorem of_setFall {c : Nat} (hc : c < 34) (wf : Nat) : KeepsRest l s (s.setFall c wf) := by
  have hi : c < 1024 := hc.trans (by decide)
  unfold State.setFall
  exact setAt rfl hi (setAt rfl hi (setAt rfl hi (setAt rfl hi refl)))

theorem of_peakReload {c : Nat} (hc : c < 34) : KeepsRest [Reg.PWM_WACT.key c] s (s.peakReload c) := by
  unfold State.peakReload
  extract_lets wr limit
  exact ite (fun _ => refl) fun _ => setAt rfl (by omega) ((of_setFall hc _).andThen (KeepsRest.wr (by simp) refl))

theorem of_syncEvent {c : Nat} (hc : c < 34) (carrier : Nat) : KeepsRest [Reg.PWM_SLEWING.key c] s (s.syncEvent c carrier) := by
  have hi : c < 1024 := hc.trans (by decide)
  unfold State.syncEvent
  exact ite (fun _ => refl) fun _ => ite (fun _ => wr (by simp) (setAt rfl hi refl)) fun _ => wr (by simp) (setAt rfl hi refl)

/-- The fields of SYNCI. -/
def synciKeys : List Nat := [Reg.PWM_SYNCST_MEAS.key 0, Reg.PWM_SYNCST_LOCK.key 0, Reg.PWM_SYNCST_LOSTF.key 0, Reg.PWM_SYNCST_RANGEF.key 0, Reg.PWM_SYNCST_SLEWING.key 0]

theorem of_synciLost (range : Bool) : KeepsRest synciKeys s (s.synciLost range) := by
  unfold State.synciLost
  extract_lets s1 s2
  have h1 : KeepsRest synciKeys s s1 := wr (by simp [synciKeys]) (wr (by simp [synciKeys]) refl)
  have h2 : KeepsRest synciKeys s s2 := ite (fun _ => wr (by simp [synciKeys]) h1) fun _ => h1
  exact event (setV rfl (setV rfl (setV rfl h2)))

theorem of_synciEdge (carrier t : Nat) : KeepsRest synciKeys s (s.synciEdge carrier t) := by
  unfold State.synciEdge
  refine ite (fun _ => refl) fun _ => ?_
  extract_lets last prev s1 m s2 inRange k s3 err near base s4 s5
  have h1 : KeepsRest synciKeys s s1 := setV rfl refl
  have h2 : KeepsRest synciKeys s s2 := wr (by simp [synciKeys]) (setV rfl h1)
  have h3 : KeepsRest synciKeys s s3 := setV rfl h2
  have h4 : KeepsRest synciKeys s s4 := setV rfl (setV rfl (setV rfl h3))
  have h5 : KeepsRest synciKeys s s5 := setV rfl (wr (by simp [synciKeys]) h4)
  exact ite (fun _ => h1) fun _ => ite (fun _ => (of_synciLost _).andThen h2) fun _ => ite (fun _ => h3) fun _ =>
    ite (fun _ => irq (wr (by simp [synciKeys]) h5)) fun _ => h5

/-- A missing edge touches no field of the range, the period or the slewing. -/
theorem of_synciLoss : KeepsRest [Reg.PWM_SYNCST_LOCK.key 0, Reg.PWM_SYNCST_LOSTF.key 0] s s.synciLoss :=
  ite (fun _ => refl) fun _ => setV rfl (event (setV rfl (setV rfl (setV rfl (wr (by simp) (wr (by simp) refl))))))

theorem of_fineDelay {c : Nat} (hc : c < 34) {m : List Byte} (hm : m.length = 16) : KeepsRest [Reg.PWM_FDSTALE.key c] s (s.fineDelay c m) := by
  unfold State.fineDelay
  refine ite (fun _ => wr (by simp) (setAt rfl (by omega) (foldl refl fun u x hx => ?_))) fun _ => refl
  have hk : x.2 < 16 := by have := List.snd_lt_of_mem_zipIdx hx; omega
  exact setAt rfl (by omega) refl

theorem of_slopeSample {c : Nat} (hc : c < 34) (raw : Int) (toff t : Nat) :
    KeepsRest [Reg.CSA_SLOPESKIP.key c, Reg.CSA_MISSCNT.key c, Reg.CSA_SATF.key c, Reg.CSA_S1.key c] s (s.slopeSample c false raw toff t) := by
  have hi : c < 1024 := hc.trans (by decide)
  unfold State.slopeSample
  refine ite (fun _ => refl) fun _ => ite (fun _ => ite (fun _ => refl) fun _ => bump (by simp) refl) fun _ => ite (fun _ => bump (by simp) refl) fun _ => ?_
  extract_lets cur s1 s2
  have h1 : KeepsRest [Reg.CSA_SLOPESKIP.key c, Reg.CSA_MISSCNT.key c, Reg.CSA_SATF.key c, Reg.CSA_S1.key c] s s1 := ite (fun _ => wr (by simp) refl) fun _ => refl
  have h2 : KeepsRest [Reg.CSA_SLOPESKIP.key c, Reg.CSA_MISSCNT.key c, Reg.CSA_SATF.key c, Reg.CSA_S1.key c] s s2 := setAt rfl hi (setAt rfl hi (setAt rfl hi h1))
  rw [if_pos (by decide)]
  exact setAt rfl hi (wr (by simp) h2)

/-! ### References and timers of a rail -/

theorem of_fixRef {r : Nat} (hr : r < 4) : KeepsRest l s (s.fixRef r) := setAt rfl (by omega) (setAt rfl (by omega) refl)
theorem of_slewRef {r : Nat} (hr : r < 4) (c : Nat) : KeepsRest l s (s.slewRef r c) := setAt rfl (by omega) (of_fixRef hr)
theorem of_identSpoil (r : Nat) : KeepsRest l s (s.identSpoil r) := ite (fun _ => setV rfl refl) fun _ => refl
theorem of_aimRef {r : Nat} (hr : r < 4) (t : Int) : KeepsRest l s (s.aimRef r t) := by
  unfold State.aimRef
  extract_lets s1
  have h1 : KeepsRest l s s1 := setAt rfl (by omega) (of_fixRef hr)
  exact ite (fun _ => h1) fun _ => (of_identSpoil r).andThen h1

/-- Outputs of phases of a rail are armed. -/
theorem of_armOsts {cs : List Nat} (hcs : ∀ c ∈ cs, c < 32) (o : Nat) : KeepsRest l s (cs.foldl (fun s c => s.armOst c o) s) := by
  refine foldl refl fun u c hc => ?_
  exact setAt rfl ((hcs c hc).trans (by decide)) refl

theorem of_wakeEnds {r : Nat} (hr : r < 4) : KeepsRest [] s (s.wakeEnds r) := by
  unfold State.wakeEnds
  refine ite (fun _ => refl) fun _ => ?_
  extract_lets s1 s2 s3
  have h1 : KeepsRest [] s s1 := setAt rfl (by omega) (setAt rfl (by omega) (upTo refl))
  have h2 : KeepsRest [] s s2 := (of_armOsts (fun c hc => (List.mem_append.1 hc).elim phasesIn_lt phasesIn_lt) _).andThen h1
  have h3 : KeepsRest [] s s3 := (of_armOsts (fun c hc => phasesIn_lt hc) _).andThen h2
  exact (of_aimRef hr _).andThen ((of_slewRef hr _).andThen h3)

theorem of_fcRamp {r : Nat} (hr : r < 4) : KeepsRest [] s (s.fcRamp r) := by
  have hi : r < 1024 := hr.trans (by decide)
  unfold State.fcRamp State.liftTo
  exact ite (fun _ => refl) fun _ => setAt rfl hi (setAt rfl hi (setAt rfl hi (setAt rfl hi (setAt rfl hi (upTo refl)))))

/-- A shed marks one phase of the rail, and the rail's ledger (R189). -/
theorem of_startShed {r : Nat} (hr : r < 4) : KeepsRest (Reg.PHM_LEDG_SHEDDING.key r :: (List.range 32).map Reg.PHM_DEPART.key) s (s.startShed r) := by
  unfold State.startShed
  split
  · exact refl
  case _ c hc =>
    have hk : Reg.PHM_DEPART.key c ∈ (List.range 32).map Reg.PHM_DEPART.key := List.mem_map_of_mem (List.mem_range.2 (phasesIn_lt (shedChoice_mem hc)))
    exact setAt rfl (by omega) (setAt rfl (by omega) (wr List.mem_cons_self (wr (List.mem_cons_of_mem _ hk) refl)))

theorem of_dwellEnds {r : Nat} (hr : r < 4) : KeepsRest (Reg.PHM_LEDG_SHEDDING.key r :: (List.range 32).map Reg.PHM_DEPART.key) s (s.dwellEnds r) := by
  unfold State.dwellEnds
  refine ite (fun _ => refl) fun _ => ?_
  extract_lets s1
  have h1 : KeepsRest (Reg.PHM_LEDG_SHEDDING.key r :: (List.range 32).map Reg.PHM_DEPART.key) s s1 := setAt rfl (by omega) (upTo refl)
  exact ite (fun _ => (of_startShed hr).andThen h1) fun _ => h1

/-! ### The phase table -/

theorem of_saveTable : KeepsRest [Reg.PHM_TAB_SAVEPEND.key 0] s s.saveTable :=
  wr (by simp) (setV rfl (foldl refl fun _ _ _ => queueSlot refl))

theorem of_staleCheck : KeepsRest [Reg.PHM_TAB_HITPCT.key 0, Reg.PHM_TAB_STALE.key 0] s s.staleCheck := by
  unfold State.staleCheck
  extract_lets n g s1 s2
  have h1 : KeepsRest [Reg.PHM_TAB_HITPCT.key 0, Reg.PHM_TAB_STALE.key 0] s s1 := ite (fun _ => refl) fun _ => wr (by simp) refl
  have h2 : KeepsRest [Reg.PHM_TAB_HITPCT.key 0, Reg.PHM_TAB_STALE.key 0] s s2 := ite (fun _ => wr (by simp) h1) fun _ => h1
  exact setV rfl (setV rfl h2)

end KeepsRest

end Sys2Proof.Machine.State
end

section
/-!
PROOF. The rows of few fields: the Cue, the rest grant, the store and the stage bus; and every row of the statement.
-/

namespace Sys2Proof.Machine.State

/-- The fields that a Cue packet may count in before its command runs. -/
def cueKeys : List Nat := [Reg.CUE_ERR_SEQERR.key 0, Reg.CUE_ERR_FMTERR.key 0, Reg.CUE_ERR_TYPEERR.key 0]

/-- The fields that the end of a host transaction on the stage bus may change. -/
def twxKeys : List Nat := [Reg.TWX_HXFR_STAT.key 0, Reg.TWX_STAT_DISC.key 0, Reg.TWX_STAT_CLEARS.key 0, Reg.TWX_STAT_BUSSTUCK.key 0] ++ (List.range 34).map Reg.STAGE_FAILCNT.key

/-- A host transaction on the stage bus concerns one of the 34 stages, if any. -/
theorem hxStage_lt {s : State} {n : Nat} (h : s.hxStage = some n) : n < 34 := by
  unfold State.hxStage at h
  dsimp only at h
  split at h
  · cases h; omega
  · cases h

namespace KeepsRest

variable {l : List Nat} {s : State}

/-! ### The Cue -/

theorem of_throttleTimer : KeepsRest l s s.throttleTimer :=
  ite (fun _ => setV rfl refl) fun _ => ite (fun _ => setV rfl refl) fun _ => refl

theorem of_throttleTick : KeepsRest l s s.throttleTick := by
  unfold State.throttleTick
  refine ite (fun _ => refl) fun _ => ?_
  extract_lets s1 s2
  have h2 : KeepsRest l s s2 := of_throttleTimer.andThen (setV rfl (upTo refl))
  refine ite (fun _ => h2) fun _ => foldl h2 fun u r hr => ite (fun _ => refl) fun _ => ?_
  exact setAt rfl ((List.mem_range.1 hr).trans (by decide)) refl

theorem of_cueDiscard {f : Fld} (hf : f.key 0 ∈ l) (err : Nat) : KeepsRest l s (s.cueDiscard f err) := by
  unfold State.cueDiscard
  extract_lets s1
  have h1 : KeepsRest l s s1 := ite (fun _ => setV rfl (setV rfl refl)) fun _ => refl
  exact event (irq (bump hf h1))

theorem of_cueSeq (hl : cueKeys ⊆ l) (q : Nat) : KeepsRest l s (s.cueSeq q) := by
  unfold State.cueSeq
  extract_lets s1
  have h1 : KeepsRest l s s1 := ite (fun _ => bump (hl (by simp [cueKeys])) refl) fun _ => refl
  exact setV rfl (setV rfl h1)

/-- A packet is discarded with its count, or its command runs. -/
theorem of_cuePacket {f : State → State} (hl : cueKeys ⊆ l) (q av : Nat) (fmt : Bool) (hf : ∀ u : State, KeepsRest l u (f u)) : KeepsRest l s (s.cuePacket q av fmt f) := by
  have hfmt : Reg.CUE_ERR_FMTERR.key 0 ∈ l := hl (by simp [cueKeys])
  have htype : Reg.CUE_ERR_TYPEERR.key 0 ∈ l := hl (by simp [cueKeys])
  exact ite (fun _ => refl) fun _ => ite (fun _ => of_cueDiscard hfmt 4) fun _ => ite (fun _ => of_cueDiscard htype 3) fun _ =>
    ite (fun _ => of_cueDiscard hfmt 4) fun _ => (hf _).andThen (of_cueSeq hl q)

theorem of_cuePing (q token : Nat) :
    KeepsRest cueKeys s (s.cuePacket q 1 true (fun s => if s.link = linkUp then (s.setV .echoDue 0 1).setV .echoVal 0 token else s)) :=
  of_cuePacket (List.Subset.refl _) _ _ _ fun _ => ite (fun _ => setV rfl (setV rfl refl)) fun _ => refl

theorem of_cueSlewCmd {r : Nat} (hr : r < 4) (hl : Reg.LE_CMDREJ.key r ∈ l) (c : Nat) : KeepsRest l s (s.cueSlewCmd r c) := by
  unfold State.cueSlewCmd
  exact ite (fun _ => bump hl refl) fun _ => ite (fun _ => (of_slewRef hr _).andThen (setAt rfl (by omega) refl)) fun _ => setAt rfl (by omega) refl

theorem of_setTarget {r : Nat} (hr : r < 4) (hl : Reg.LE_TGTNOW.key r ∈ l) (c : Nat) : KeepsRest l s (s.setTarget r c) := by
  unfold State.setTarget
  extract_lets s1
  have h1 : KeepsRest l s s1 := wr hl refl
  exact ite (fun _ => h1) fun _ => ite (fun _ => (of_aimRef hr _).andThen h1) fun _ => h1

theorem of_vcmd {r : Nat} (hr : r < 4) (hl : [Reg.LE_CMDREJ.key r, Reg.LE_CLAMPF.key r, Reg.LE_TGTNOW.key r] ⊆ l) (c vid : Nat) : KeepsRest l s (s.vcmd r c vid) := by
  have hrej : Reg.LE_CMDREJ.key r ∈ l := hl (by simp)
  unfold State.vcmd
  refine ite (fun _ => bump hrej refl) fun _ => ite (fun _ => event (bump hrej refl)) fun _ => ?_
  extract_lets c' s1
  have h1 : KeepsRest l s s1 := ite (fun _ => refl) fun _ => wr (hl (by simp)) refl
  exact setAt rfl (by omega) ((of_setTarget hr (hl (by simp)) _).andThen h1)

/-! ### The rest grant -/

theorem of_dropRestGrant (h : s.rd Reg.GAU_REST_PH ≠ 1) : KeepsRest [Reg.GAU_REST_GRANTED.key 0, Reg.GAU_REST_QONLY.key 0] s s.dropRestGrant := by
  unfold State.dropRestGrant
  rw [if_neg h]
  exact setV rfl (setV rfl (wr (by simp) (wr (by simp) refl)))

theorem of_refuseRest {f : Fld} : KeepsRest [f.key 0, Reg.GAU_REST_NDENY.key 0, Reg.GAU_REST_REQ.key 0, Reg.GAU_STATE_LSUSP.key 0] s (s.refuseRest f) :=
  event (setV rfl (wr (by simp) (wr (by simp) (bump (by simp) (wr (by simp) refl)))))

/-- A grant that waits for quiet lapses outside a window, so the phase of the window stays (R279). -/
theorem of_restLapse : KeepsRest [Reg.GAU_REST_LAPSF.key 0, Reg.GAU_REST_NDENY.key 0, Reg.GAU_REST_REQ.key 0, Reg.GAU_STATE_LSUSP.key 0, Reg.GAU_REST_GRANTED.key 0, Reg.GAU_REST_QONLY.key 0]
    s s.restLapse := by
  refine ite (fun ⟨_, hph⟩ => ?_) fun _ => refl
  have hdrop := of_dropRestGrant (s := s.upTo (s.vn .tGrant - 1)) (fun e => absurd (hph.symm.trans e) (by decide))
  exact (of_refuseRest.mono (by simp)).andThen ((hdrop.mono (by simp)).andThen (upTo refl))

/-! ### The store -/

theorem of_brownRelease : KeepsRest [Reg.NVS_STAT_BOWARN.key 0, Reg.NVS_STAT_INHIBIT.key 0] s s.brownRelease :=
  ite (fun _ => kickNvs (event (wr (by simp) (wr (by simp) refl)))) fun _ => refl

theorem of_refill (c : Nat) : KeepsRest l s (s.refill c) := by
  unfold State.refill
  extract_lets b s1
  have h1 : KeepsRest l s s1 := ite (fun _ => refl) fun _ => upTo refl
  exact h1.congr rfl rfl rfl

/-! ### The stage bus -/

theorem of_busStuck (hl : twxKeys ⊆ l) : KeepsRest l s s.busStuck := event (wr (hl (by simp [twxKeys])) refl)

theorem of_endTransaction (hl : twxKeys ⊆ l) (stat : Nat) : KeepsRest l s (s.endTransaction stat) := by
  unfold State.endTransaction
  extract_lets s1 s2 s3
  have h1 : KeepsRest l s s1 := irq (setV rfl refl)
  have h2 : KeepsRest l s s2 := wr (hl (by simp [twxKeys])) h1
  have h3 : KeepsRest l s s3 := by
    unfold s3
    split
    case _ n hn =>
      have hk : Reg.STAGE_FAILCNT.key n ∈ l := hl (List.mem_append_right _ (List.mem_map_of_mem (List.mem_range.2 (hxStage_lt hn))))
      exact ite (fun _ => h2) fun _ => bump hk h2
    · exact h2
  exact ite (fun _ => ite (fun _ => wr (hl (by simp [twxKeys])) (setV rfl h3)) fun _ => h3) fun _ => h1

theorem of_transactionEnd (how : TwxEnd) (cleared : Bool) (data : Nat) : KeepsRest (Reg.TWX_HXFR_RD.key 0 :: twxKeys) s (s.transactionEnd how cleared data) := by
  have hl : twxKeys ⊆ Reg.TWX_HXFR_RD.key 0 :: twxKeys := List.subset_cons_self ..
  unfold State.transactionEnd
  refine ite (fun _ => refl) fun _ => ?_
  extract_lets s1
  have h1 : KeepsRest (Reg.TWX_HXFR_RD.key 0 :: twxKeys) s s1 := ite (fun _ => bump (hl (by simp [twxKeys])) refl) fun _ => refl
  cases how with
  | ok => exact (of_endTransaction hl _).andThen (ite (fun _ => wr (by simp) h1) fun _ => h1)
  | nack => exact (of_endTransaction hl _).andThen h1
  | stuck => exact (of_endTransaction hl _).andThen ((of_busStuck hl).andThen h1)

theorem of_arbLost : KeepsRest ([Reg.TWX_STAT_ARBLOST.key 0, Reg.TWX_STAT_ARBFAIL.key 0] ++ twxKeys) s s.arbLost := by
  unfold State.arbLost
  refine ite (fun _ => refl) fun _ => ?_
  extract_lets s1
  have h1 : KeepsRest ([Reg.TWX_STAT_ARBLOST.key 0, Reg.TWX_STAT_ARBFAIL.key 0] ++ twxKeys) s s1 := bump (by simp) refl
  exact ite (fun _ => (of_endTransaction (List.subset_append_right ..) _).andThen (wr (by simp) h1)) fun _ => setV rfl h1

theorem of_lowTimeout (freed : Bool) : KeepsRest (Reg.TWX_STAT_LOWTOF.key 0 :: twxKeys) s (s.lowTimeout freed) := by
  have hl : twxKeys ⊆ Reg.TWX_STAT_LOWTOF.key 0 :: twxKeys := List.subset_cons_self ..
  unfold State.lowTimeout
  refine ite (fun _ => refl) fun _ => ?_
  extract_lets s1
  have h1 : KeepsRest (Reg.TWX_STAT_LOWTOF.key 0 :: twxKeys) s s1 := (of_endTransaction hl _).andThen (wr (by simp) refl)
  exact ite (fun _ => bump (hl (by simp [twxKeys])) h1) fun _ => (of_busStuck hl).andThen h1

theorem of_busyTimeout : KeepsRest (Reg.TWX_STAT_BUSYF.key 0 :: twxKeys) s s.busyTimeout :=
  ite (fun _ => refl) fun _ => (of_endTransaction (List.subset_cons_self ..) _).andThen (wr (by simp) refl)

end KeepsRest

end Sys2Proof.Machine.State
end

section
/-!
PROOF. The rows that change a few fields change only those: each row's effect keeps the rest, and so does what follows it.
-/

namespace Sys2Proof.Machine.State

/-- What the statement says of a row, with the fields that it may change. -/
def RowKeeps (s t : State) (y : Instr × List Nat) : Prop :=
  exec y.1 s = .next t → s.SameRegs t (afterKeys ++ bookKeys ++ y.2) ∧ s.SameMemory t ∧ (∀ p, t.sess p = s.sess p) ∧ t.owner = s.owner ∧ t.boot = s.boot ∧ t.ring = s.ring ∧ t.pending = s.pending

theorem KeepsRest.rowKeeps {i : Instr} {l : List Nat} {s u t : State} (h : KeepsRest l s u) (hu : exec i s = .next u) : RowKeeps s t (i, l) := by
  intro ht
  cases hu.symm.trans ht
  obtain ⟨_, _, _, _, howner, hboot, hring, hpending⟩ := by simpa only [State.kept, Prod.mk.injEq] using h.kept
  exact ⟨h.regs, h.sameMemory, h.sess, howner, hboot, hring, hpending⟩

/-- A row of a running block: its effect keeps the rest, and what follows it does too. -/
theorem rowKeeps_of_act {i : Instr} {f : State → State} {l : List Nat} {s t : State} (hp : s.power = .running) (hi : exec i s = act s f) (h : KeepsRest l s (f s)) : RowKeeps s t (i, l) :=
  h.after.rowKeeps (hi.trans (act_after hp))

/-- The row of the fine delays is turned away where its list does not have one entry per tap. -/
theorem rowKeeps_fineDelay {s : State} (t : State) (hp : s.power = .running) (ch : Chan) (m : List Byte) : RowKeeps s t (.fineDelayMeasure ch m, [Reg.PWM_FDSTALE.key ch]) := by
  by_cases hm : m.length = 16
  · exact rowKeeps_of_act hp (if_pos hm) (KeepsRest.of_fineDelay ch.isLt hm)
  · intro ht
    cases (if_neg hm).symm.trans ht

/-- The row of the TAP is taken with or without supply, and nothing follows it. -/
theorem rowKeeps_tapUpdateIr (s t : State) (ir : BitVec 5) : RowKeeps s t (.tapUpdateIr ir, [Reg.DBG_STAT_BSREJ.key 0]) :=
  (KeepsRest.ite (c := s.power = .off) (fun _ => .refl) fun _ => .of_tapIrWrite ir.toNat).rowKeeps rfl

end Sys2Proof.Machine.State

namespace Sys2Proof.Proofs

open Machine Machine.State

/-- Settles O4, row by row: each effect is made of writes of the row's own fields, of events, and of operations that touch no field at all. -/
theorem rowsKeepTheRest : Obligations.RowsKeepTheRest := by
  intro k w bp ch carrier cref n k1 m raw req freed cleared r q r2 code slew a b how src ir s t hp book cue twx rows
  show ∀ y ∈ rows, RowKeeps s t y
  simp only [rows, List.forall_mem_append, List.forall_mem_cons, List.not_mem_nil, false_implies, implies_true, and_true]
  have hr2 : r2.toNat < 4 := r2.isLt
  refine ⟨⟨⟨?_, ?_, ?_, ?_, ?_, ?_, ?_, ?_, ?_, ?_, ?_, ?_⟩, ?_, ?_, ?_, ?_, ?_, ?_, ?_, ?_, ?_⟩, ?_, ?_, ?_, ?_, ?_, ?_, ?_⟩
  · exact rowKeeps_of_act (f := fun u => u.wdtWrite k w.toNat) hp rfl (.of_wdtWrite k _)
  · exact rowKeeps_of_act (f := fun u => u.eoi k a.toNat) hp rfl (.of_eoi k _)
  · exact rowKeeps_of_act (f := fun u => u.fallback src) hp rfl (.of_fallback src.isLt)
  · exact rowKeeps_of_act (f := fun u => u.bpHit bp) hp rfl (.of_bpHit bp)
  · exact rowKeeps_of_act (f := fun u => u.leHaltReq req) hp rfl (.of_leHaltReq req)
  · exact rowKeeps_tapUpdateIr s t ir
  · exact rowKeeps_of_act (f := fun u => u.peakReload ch) hp rfl (.of_peakReload ch.isLt)
  · exact rowKeeps_of_act (f := fun u => u.syncEvent ch carrier.toNat) hp rfl (.of_syncEvent ch.isLt _)
  · exact rowKeeps_of_act (f := fun u => u.synciEdge cref.toNat n) hp rfl (.of_synciEdge _ n)
  · exact rowKeeps_of_act (f := State.synciLoss) hp rfl .of_synciLoss
  · exact rowKeeps_fineDelay t hp ch m
  · exact rowKeeps_of_act (f := fun u => u.slopeSample ch false raw.toInt n k1) hp rfl (.of_slopeSample ch.isLt _ n k1)
  · exact rowKeeps_of_act (f := fun u => u.wakeEnds r) hp rfl (.of_wakeEnds r.isLt)
  · exact rowKeeps_of_act (f := fun u => u.fcRamp r) hp rfl (.of_fcRamp r.isLt)
  · exact rowKeeps_of_act (f := fun u => u.dwellEnds r) hp rfl (.of_dwellEnds r.isLt)
  · exact rowKeeps_of_act (f := fun u => if u.vOn .tableDirty then u.saveTable else u) hp rfl (.ite (fun _ => .of_saveTable) fun _ => .refl)
  · exact rowKeeps_of_act (f := State.staleCheck) hp rfl .of_staleCheck
  · exact rowKeeps_of_act (f := State.throttleTick) hp rfl .of_throttleTick
  · exact rowKeeps_of_act (f := fun u => u.cuePacket q.toNat 1 true fun u => if u.link = linkUp then (u.setV .echoDue 0 1).setV .echoVal 0 a.toNat else u) hp rfl (.of_cuePing _ _)
  · exact rowKeeps_of_act (f := fun u => u.cuePacket q.toNat 1 (slew != 0 && decide (slew.toNat ≤ 1000)) fun u => u.cueSlewCmd r2.toNat slew.toNat) hp rfl (.of_cuePacket (List.subset_cons_self ..) _ _ _ fun _ => .of_cueSlewCmd hr2 List.mem_cons_self _)
  · exact rowKeeps_of_act (f := fun u => u.cuePacket q.toNat 1 true fun u => u.vcmd r2.toNat code.toNat a.toNat) hp rfl (.of_cuePacket (List.subset_append_right ..) _ _ _ fun _ => .of_vcmd hr2 (List.subset_append_left ..) _ _)
  · exact rowKeeps_of_act (f := State.restLapse) hp rfl .of_restLapse
  · exact rowKeeps_of_act (f := State.brownRelease) hp rfl .of_brownRelease
  · exact rowKeeps_of_act (f := fun u => u.refill (a ++ b).toNat) hp rfl (.of_refill _)
  · exact rowKeeps_of_act (f := fun u => u.transactionEnd how cleared w.toNat) hp rfl (.of_transactionEnd how cleared _)
  · exact rowKeeps_of_act (f := State.arbLost) hp rfl .of_arbLost
  · exact rowKeeps_of_act (f := fun u => u.lowTimeout freed) hp rfl (.of_lowTimeout freed)
  · exact rowKeeps_of_act (f := State.busyTimeout) hp rfl .of_busyTimeout

end Sys2Proof.Proofs
end

section
/-!
PROOF. Supply, the reset pin and the release of reset: what the loss of the supply keeps, and the starting state in which the boot ROM finds every protective output (R42, R48, R50, R71, R491).
-/

namespace Sys2Proof.Machine.State

/-- Setting one variable at every index below `n` sets each of those. -/
theorem v_setV_range (s : State) (x : Var) (a : Int) {n i : Nat} (hi : i < n) : ((List.range n).foldl (fun s i => s.setV x i a) s).v x i = a := by
  induction n with
  | zero => exact absurd hi (Nat.not_lt_zero i)
  | succ n ih =>
    rw [List.range_succ, List.foldl_append]
    by_cases h : n = i
    · subst h; exact v_setV_same ..
    · exact (v_setV_inst _ _ h).trans (ih (by omega))

/-- Setting a variable at several indices leaves the parts that are no variable. -/
theorem foldl_setV (s : State) (x : Var) (a : Int) (l : List Nat) : ∃ vars, l.foldl (fun s i => s.setV x i a) s = { s with vars := vars } :=
  foldl_keeps (P := fun t : State => ∃ vars, t = { s with vars := vars }) _ (by rintro t i ⟨vars, rfl⟩; exact ⟨_, rfl⟩) l s ⟨s.vars, rfl⟩

/-- The boot ROM starts at time 0, with every comparator's output in its starting state (R50, R71). -/
theorem bootStart_starts (s : State) : s.bootStart.power = .running ∧ s.bootStart.now = 0 ∧ ∀ i < 48, s.bootStart.v .cmpStart i = 1 := by
  obtain ⟨vars, e⟩ := foldl_setV { s with power := .running, now := 0 } .cmpStart 1 (List.range 48)
  unfold State.bootStart
  refine ⟨?_, ?_, fun i hi => ?_⟩
  · simp only [event_power, irq_power, setV_power, e]
  · simp only [event_now, irq_now, setV_now, e]
  · have other : ∀ (t : State) {x : Var}, x.ctorIdx ≠ Var.cmpStart.ctorIdx → (t.setV x 0 1).v .cmpStart i = t.v .cmpStart i :=
      fun t _ h => t.v_setV_ne 1 h (by decide) (by omega)
    simp only [v_event, v_irq]
    rw [other _ (by decide), other _ (by decide), other _ (by decide), other _ (by decide)]
    exact v_setV_range _ _ _ hi

end Sys2Proof.Machine.State

namespace Sys2Proof.Proofs

open Machine Machine.State

/-- Settles O6: the supply and the pin act on a held block too, and the release is the start of the boot ROM with what follows a command. -/
theorem supplyRowsAct : Obligations.SupplyRowsAct := by
  refine fun s => ⟨fun hoff => congrArg Host.Outcome.next (if_pos hoff), fun hon => ?_, fun hon => congrArg Host.Outcome.next (if_neg hon), fun hheld => ?_⟩
  · exact ⟨_, congrArg Host.Outcome.next (if_neg hon), rfl, devReset_slots .., devReset_boot ..⟩
  · obtain ⟨hpower, hnow, hstart⟩ := s.bootStart_starts
    exact ⟨_, congrArg Host.Outcome.next (if_pos hheld), (settle_power _).trans hpower, (settle_now _).trans hnow, fun i hi => (settle_v _ (by decide) (by omega)).trans (hstart i hi)⟩

end Sys2Proof.Proofs
end

section
/-!
PROOF. A block that does not run takes no command but those of the supply, the reset and the TAP (R48).
-/

namespace Sys2Proof.Proofs

open Machine Machine.State

/-- A row that acts on the part once its list has its length: on a block that does not run it changes nothing, and a list of another length is turned away. -/
theorem held_of_length {n m : Nat} {s : State} {f : State → State} (hp : s.power ≠ .running) :
    (if n = m then act s f else .refused .illFormed) = .next s ∨ (if n = m then act s f else .refused .illFormed) = .refused .illFormed := by
  split
  · exact .inl (act_held hp)
  · exact .inr rfl

/-- Settles O5: the rows named aside, every row acts through `act`, which a block that does not run leaves as it is; the rows with a list look at its length first. -/
theorem heldBlockTakesNothing : Obligations.HeldBlockTakesNothing := by
  intro c s hp hheld htap
  cases c with
  | powerOn | supplyLoss | resetNAssert | resetRelease | tapReset => exact absurd (by decide) hheld
  | tapUpdateIr ir => exact absurd rfl (htap ir)
  | judgementVerdict | fineDelayMeasure | calAdcDone | bistDone | discoveryDone | telemetryPoll => exact held_of_length hp
  | twxHxfrGo p h words =>
    match words with
    | [_, _, _, _] => exact .inl (act_held hp)
    | [] | [_] | [_, _] | [_, _, _] | _ :: _ :: _ :: _ :: _ :: _ => exact .inr rfl
  | _ => exact .inl (if_neg hp)

end Sys2Proof.Proofs
end

section
/-!
PROOF. Failed starts, called resets, clock failures and read errors of the MRAM (R24, R25, R42, R50, R52, R53, R450, R453, R484).
-/

namespace Sys2Proof.Machine.State

@[simp] theorem event_boot (s : State) (c sev : Nat) (d : List Byte) : (s.event c sev d).boot = s.boot := by
  unfold State.event; dsimp only; split <;> rfl
@[simp] theorem event_slots (s : State) (c sev : Nat) (d : List Byte) : (s.event c sev d).slots = s.slots := by
  unfold State.event; dsimp only; split <;> rfl
@[simp] theorem irq_slots (s : State) (n : Nat) : (s.irq n).slots = s.slots := by obtain ⟨u, h⟩ := s.irq_eq n; rw [h]

@[simp] theorem showBoot_boot (s : State) : s.showBoot.boot = s.boot := rfl

/-- A reset ends its command: nothing follows it. -/
theorem after_devReset (s : State) (r : Nat) : (s.devReset r).after = s.devReset r := after_of_held (by rw [devReset_power]; decide)

/-! ### Starts that fail -/

/-- A start that the marker shows unfinished, and that no supply failure excuses, counts: the streak grows and its reason enters the failure log; the marker stands and no reason is pending (R52, R53). -/
theorem accounting_boot_counted {s : State} (hm : s.boot.marker = true) (hs : s.boot.streak < 2) (h0 : s.rd Reg.SYS_BOOT_RSTCAUSE ≠ rstPowerOn) (h6 : s.rd Reg.SYS_BOOT_RSTCAUSE ≠ rstBrownOut) :
    s.accounting.boot =
      { s.boot with
        bootn := (s.boot.bootn + 1) % 65536
        streak := s.boot.streak + 1
        marker := true
        pendingReason := 0
        reason0 := if s.boot.pendingReason ≠ 0 then s.boot.pendingReason else startReason (s.rd Reg.SYS_BOOT_RSTCAUSE) (s.on Reg.ICU_CORE_FATAL 1)
        reason1 := s.boot.reason0
        reason2 := s.boot.reason1 } := by
  unfold State.accounting
  extract_lets rst b0 b counted reason shifted b1 b2 u w
  have hc : counted = true := by simp [counted, b, b0, rst, hm, h0, h6]
  have hw : w.boot = b2 := by
    simp only [w]
    split
    · exact event_boot ..
    · split
      · exact event_boot ..
      · rfl
  have hmin : min (s.boot.streak + 1) 3 = s.boot.streak + 1 := by omega
  rw [showBoot_boot, wr_boot, wr_boot, hw]
  simp [b2, b1, hc, b, b0, reason, shifted, rst, BootRec.shift, hm, hmin]

/-- Without a lock in time a start that has not failed three times is accounted for, and the boot ROM resets itself (R24, R52). -/
theorem pllTimeout_resets {s : State} (hm : s.mode = mBoot) (hv : s.vOn .pllSeen = false) (h : (s.upTo 800000).accounting.boot.streak ≠ 3) :
    s.pllTimeout = (s.upTo 800000).accounting.devReset rstRom := by
  unfold State.pllTimeout
  rw [if_neg (by rw [hm, hv]; decide)]
  exact if_neg h

/-! ### The reference clock -/

/-- A clock failure is flagged and counted (R25). -/
def clockCounted (s : State) : State := ((s.wr Reg.CLK_STATUS_CLKFAIL 0 1).bump Reg.CLK_STATUS_FAILCNT 0).irq 0

/-- What a clock failure shows before the part goes safe: the lock or the reference is gone, and the RC oscillator runs (R25). -/
def clockShown (s : State) (why : ClockFault) : State :=
  ((match why with
    | .lockDrop => (s.clockCounted.wr Reg.CLK_STATUS_LOCK 0 0).irq 1
    | _ => s.clockCounted.wr Reg.CLK_STATUS_REFOK 0 0).wr Reg.CLK_STATUS_ONRC 0 1).setV .pinAct 0 0

/-- Showing a failure changes no field of the count. -/
theorem rd_clockShown (s : State) (why : ClockFault) {f : Fld} {i : Nat} (h1 : f.base ≠ Reg.CLK_STATUS_LOCK.base) (h2 : f.base ≠ Reg.CLK_STATUS_REFOK.base)
    (h3 : f.base ≠ Reg.CLK_STATUS_ONRC.base) (hi : i < 256) : (s.clockShown why).rd f i = s.clockCounted.rd f i := by
  refine (rd_setV ..).trans ((rd_wr_ne _ _ (Ne.symm h3) (by decide) hi).trans ?_)
  cases why with
  | lockDrop => exact (rd_irq ..).trans (rd_wr_ne _ _ (Ne.symm h1) (by decide) hi)
  | noEdge | countOut => exact rd_wr_ne _ _ (Ne.symm h2) (by decide) hi

theorem clockShown_mode (s : State) (why : ClockFault) : (s.clockShown why).mode = s.mode :=
  (s.rd_clockShown why (by decide) (by decide) (by decide) (by decide)).trans
    ((rd_irq ..).trans ((rd_wr_ne _ _ (by decide) (by decide) (by decide)).trans (rd_wr_ne _ _ (by decide) (by decide) (by decide))))

/-- FAILCNT counts the failure and stays at its top (R25, R26). -/
theorem clockShown_failcnt (s : State) (why : ClockFault) :
    (s.clockShown why).rd Reg.CLK_STATUS_FAILCNT = min (s.rd Reg.CLK_STATUS_FAILCNT + 1) (2 ^ Reg.CLK_STATUS_FAILCNT.width - 1) := by
  have hcount : (s.wr Reg.CLK_STATUS_CLKFAIL 0 1).rd Reg.CLK_STATUS_FAILCNT = s.rd Reg.CLK_STATUS_FAILCNT := rd_wr_ne _ _ (by decide) (by decide) (by decide)
  refine (s.rd_clockShown why (by decide) (by decide) (by decide) (by decide)).trans ((rd_irq ..).trans ((rd_wr_same ..).trans ?_))
  rw [hcount]
  exact Nat.mod_eq_of_lt (lt_of_le_of_lt (min_le_right ..) (by decide))

section
variable {s : State} (why : ClockFault) (hv : s.vOn .pllSeen = true)
include hv

/-- In BOOT a clock failure resets the part (R25). -/
theorem clockFailure_boot (hm : s.mode = mBoot) : s.clockFailure why = (s.clockShown why).devReset rstRom := by
  unfold State.clockFailure
  rw [if_neg (by rw [hv]; decide)]
  exact if_pos ((s.clockShown_mode why).trans hm)

/-- Out of BOOT and SAFESTOP a clock failure latches cause 0 of SAFESTOP (R25). -/
theorem clockFailure_safestop (hm : s.mode ≠ mBoot) (hs : s.mode ≠ mSafestop) : s.clockFailure why = (s.clockShown why).safestop 0 none := by
  have hsafe : (if (s.clockShown why).mode = mSafestop then (s.clockShown why).allOff true else s.clockShown why) = s.clockShown why := if_neg ((s.clockShown_mode why).trans_ne hs)
  unfold State.clockFailure
  rw [if_neg (by rw [hv]; decide)]
  refine (if_neg ((s.clockShown_mode why).trans_ne hm)).trans ?_
  exact congrArg (fun u : State => u.safestop 0 none) hsafe

/-- After a failure the reference's return shows in REFOK and LOCK (R25). -/
theorem refRecovery_shows : s.refRecovery = (s.wr Reg.CLK_STATUS_REFOK 0 1).wr Reg.CLK_STATUS_LOCK 0 1 := if_pos hv

end

/-! ### Read errors of the MRAM -/

/-- What a read error shows: its flag, its address, source 115 and a record (R450). -/
def readShown (s : State) (a : Nat) : State := (((s.wr Reg.NVS_STAT_RDERRF 0 1).wr Reg.NVS_STAT_ERRADDR 0 a).irq 115).event 0x9003 2 (leBytes 4 a)

/-! The data store's slots are no part of what a register read or `KeepsRest` looks at. -/

theorem rd_withSlots (s : State) (l : List (Nat × Slot)) (f : Fld) (i : Nat) : ({ s with slots := l } : State).rd f i = s.rd f i := rfl
theorem KeepsRest.withSlots {l : List Nat} {s t : State} (h : KeepsRest l s t) (m : List (Nat × Slot)) : KeepsRest l s { t with slots := m } := h.congr rfl rfl rfl
theorem ite_withSlots (s : State) (c : Prop) [Decidable c] (l : List (Nat × Slot)) : (if c then { s with slots := l } else s) = ({ s with slots := if c then l else s.slots } : State) := by
  split <;> rfl

/-- A read error is shown, and the slot that holds the word is no longer valid (R450, R453). -/
theorem readError_eq (s : State) (a : Nat) :
    s.readError a = { s.readShown a with slots := if 0x40220000 ≤ a ∧ a < 0x40233DA0 then kvErase ((a - 0x40220000) / 0x210) s.slots else s.slots } := by
  have hslots : (s.readShown a).slots = s.slots := (event_slots ..).trans (irq_slots ..)
  rw [← hslots]
  exact ite_withSlots (s.readShown a) ..

/-- A read error reads its flag and its address, and changes no other field but the recorder's books. -/
theorem rd_readError (s : State) (a : Nat) {f : Fld} {i : Nat} (h : f.base ∉ evrBases) (hi : i < 256) :
    (s.readError a).rd f i = ((s.wr Reg.NVS_STAT_RDERRF 0 1).wr Reg.NVS_STAT_ERRADDR 0 a).rd f i := by
  rw [readError_eq]
  exact (rd_withSlots ..).trans ((rd_event _ _ _ _ h hi).trans (rd_irq ..))

theorem readError_mode (s : State) (a : Nat) : (s.readError a).mode = s.mode :=
  (s.rd_readError a (by decide) (by decide)).trans ((rd_wr_ne _ _ (by decide) (by decide) (by decide)).trans (rd_wr_ne _ _ (by decide) (by decide) (by decide)))

theorem keepsRest_readError (s : State) (a : Nat) : KeepsRest [Reg.NVS_STAT_RDERRF.key 0, Reg.NVS_STAT_ERRADDR.key 0] s (s.readError a) := by
  have shown : KeepsRest [Reg.NVS_STAT_RDERRF.key 0, Reg.NVS_STAT_ERRADDR.key 0] s (s.readShown a) :=
    .event (.irq (.wr (by simp) (.wr (by simp) .refl)))
  rw [readError_eq]
  exact shown.withSlots _

/-- Outside BOOT an uncorrectable read is a read error and nothing else (R450). -/
theorem mramError_running {s : State} (a : Nat) (hm : s.mode ≠ mBoot) : s.mramError a = s.readError a :=
  if_neg fun h => hm ((s.readError_mode a).symm.trans h.1)

/-! ### The rows -/

/-- MRAM_READ_ERROR of a read that is not corrected. -/
theorem exec_mramReadError {s : State} (hp : s.power = .running) (hm : s.mode ≠ mBoot) (a : Word) : exec (.mramReadError ⟨a, false⟩) s = .next (s.readError a.toNat).after := by
  rw [← mramError_running a.toNat hm]
  exact act_after (f := fun u => u.mramError a.toNat) hp

end Sys2Proof.Machine.State

namespace Sys2Proof.Proofs

open Machine Machine.State

/-- A row whose effect on a running block is a reset answers with the reset. -/
theorem exec_of_devReset {i : Instr} {f : State → State} {s u : State} {r : Nat} (hx : exec i s = act s f) (hp : s.power = .running) (hf : f s = u.devReset r) : exec i s = .next (u.devReset r) := by
  rw [hx, act_after hp, hf, after_devReset]

/-- The boot timer, the debugger and the delay after a CURTAIN reset the device with their cause. -/
theorem resets_called {s : State} (hp : s.power = .running) :
    (s.mode = mBoot → exec .bootTimerExpiry s = .next (s.devReset rstBootTimer)) ∧
    exec .dbgDrst s = .next (s.devReset rstDebug) ∧
    (s.vn .tReset ≠ 0 → s.vn .curReset ≠ 0 → exec .deferredReset s = .next (s.devReset (s.vn .curReset - 1))) :=
  ⟨fun hm => exec_of_devReset (f := fun u => if u.mode = mBoot then u.devReset rstBootTimer else u) rfl hp (if_pos hm),
    exec_of_devReset (f := fun u => u.devReset rstDebug) rfl hp rfl,
    fun ht hc => exec_of_devReset (f := fun u => if u.vn .tReset = 0 ∨ u.vn .curReset = 0 then u else u.devReset (u.vn .curReset - 1)) rfl hp (if_neg (by simp [ht, hc]))⟩

/-- Settles O8: each of these rows is a reset with its cause, or shows its failure; the accounting's record and the frame of a read error are lemmas of their own. -/
theorem failureRowsAct : Obligations.FailureRowsAct := by
  refine ⟨fun s hp => resets_called hp, fun s hp hm hv hmark hstr h0 h6 => ?_, fun s hp hv => ⟨fun why hm => ?_, fun hm hs => ?_, ?_⟩, fun a s hp hm => ⟨?_, ?_, ?_⟩⟩
  · have hb := accounting_boot_counted (s := s.upTo 800000) hmark hstr h0 h6
    have hx : exec .pllLockTimeout s = .next ((s.upTo 800000).accounting.devReset rstRom) :=
      exec_of_devReset (f := State.pllTimeout) rfl hp (pllTimeout_resets hm hv (by rw [hb]; show s.boot.streak + 1 ≠ 3; omega))
    refine ⟨_, hx, devReset_power .., devReset_cause .., ?_⟩
    rw [devReset_boot, hb]
    exact ⟨rfl, rfl, rfl, rfl, rfl, rfl, fun hne => if_pos hne⟩
  · have hx : exec (.clockFailure why) s = .next ((s.clockShown why).devReset rstRom) :=
      exec_of_devReset (f := fun u => u.clockFailure why) rfl hp (clockFailure_boot why hv hm)
    refine ⟨_, hx, devReset_power .., devReset_cause .., ?_⟩
    rw [devReset_failcnt _ _ (by decide), clockShown_failcnt]
    exact Nat.mod_eq_of_lt (lt_of_le_of_lt (min_le_right ..) (by decide))
  · have hx : exec (.clockFailure .noEdge) s = .next (s.clockFailure .noEdge).after := act_after (f := fun u => u.clockFailure .noEdge) hp
    rw [hx, clockFailure_safestop .noEdge hv hm hs]; rfl
  · rw [← refRecovery_shows hv]
    exact act_after hp
  · exact act_after (f := fun u => u.bump Reg.NVS_STAT_CORRCNT 0) hp
  · rw [exec_mramReadError hp hm, readError_eq]; rfl
  · have flag : ∀ {f : Fld}, f.base ∉ evrBases → f.base ≠ Reg.CAP_RATECHG.base → f.base ≠ Reg.ICU_CORE_WAKEREQ.base →
        (s.readError a.toNat).after.rd f = ((s.wr Reg.NVS_STAT_RDERRF 0 1).wr Reg.NVS_STAT_ERRADDR 0 a.toNat).rd f :=
      fun h h1 h2 => (after_rd _ h1 h2 (by decide)).trans (s.rd_readError _ h (by decide))
    refine ⟨_, exec_mramReadError hp hm a, ?_, ?_, fun f i hk => (s.keepsRest_readError a.toNat).after.regs f i ?_⟩
    · rw [flag (by decide) (by decide) (by decide), rd_wr_ne _ _ (by decide) (by decide) (by decide), rd_wr_same]; rfl
    · rw [flag (by decide) (by decide) (by decide), rd_wr_same]
      exact Nat.mod_eq_of_lt a.isLt
    · simp only [bookKeys, List.mem_append, List.mem_cons, List.not_mem_nil, or_false, not_or] at hk ⊢
      obtain ⟨hafter, hflag, haddr, hraised, hlost, htime⟩ := hk
      exact ⟨⟨hafter, hraised, hlost, htime⟩, hflag, haddr⟩

end Sys2Proof.Proofs
end

section
/-!
PROOF. Comparators: what an assertion, a release and a raw edge do in each state that one can be in (R71, R117, R118, R295 to R298).
-/

namespace Sys2Proof.Machine.State

/-- COMPARATOR_ASSERT of a running block. -/
theorem exec_comparatorAssert {s : State} (hp : s.power = .running) (i : Fin 48) (t : Nat) : exec (.comparatorAssert ⟨i, t⟩) s = .next (s.cmpAssert i t).after :=
  act_after (f := fun u => u.cmpAssert i t) hp

/-- COMPARATOR_RELEASE of a running block. -/
theorem exec_comparatorRelease {s : State} (hp : s.power = .running) (i : Fin 48) (t : Nat) : exec (.comparatorRelease ⟨i, t⟩) s = .next (s.cmpRelease i t).after :=
  act_after (f := fun u => u.cmpRelease i t) hp

/-- COMPARATOR_RAW_EDGE of a running block. -/
theorem exec_comparatorRawEdge {s : State} (hp : s.power = .running) (i : Fin 48) (passed : Bool) : exec (.comparatorRawEdge i passed) s = .next (s.rawEdge i passed).after :=
  act_after (f := fun u => u.rawEdge i passed) hp

/-- What every assertion of a released filter does: RAW, LAT, the count, OUT, and the trip of the channel (R118, R295, R296). -/
def raised (s : State) (i t : Nat) : State :=
  (((((((s.setV .cmpFilt i 1).setV .cmpStart i 0).wr Reg.CMP_RAW i 1).wr Reg.CMP_LAT i 1).bump Reg.CMP_ASSERTCNT i).wr Reg.CMP_OUT i 1)).cmpTrip i t

/-- What every release of an asserted filter does first: RAW falls (R296). -/
def fallen (s : State) (i : Nat) : State := (s.setV .cmpFilt i 0).wr Reg.CMP_RAW i 0

section
variable {s : State} {i : Nat} (hen : s.on Reg.CMP_EN i = true)
include hen

/-- An assertion that finds the filter released raises the comparator, and acts unless OUT stands past its starting state (R71, R295, R298). -/
theorem cmpAssert_released (t : Nat) (hf : s.vOn .cmpFilt i = false) :
    s.cmpAssert i t = if !s.on Reg.CMP_OUT i || s.vOn .cmpStart i then (s.raised i t).outAsserted i else s.raised i t := by
  unfold State.cmpAssert
  rw [if_neg (by rw [hen, hf]; decide)]
  rfl

/-- A filter that releases past its starting state drops RAW, and OUT with it where LMODE does not hold it (R296). -/
theorem cmpFalls_asserted (hi : i < 256) (hf : s.vOn .cmpFilt i = true) (hs : s.vOn .cmpStart i = false) :
    s.cmpFalls i = if s.rd Reg.CMP_LMODE i = 0 ∨ (s.rd Reg.CMP_LMODE i = 2 ∧ ¬ s.on Reg.CMP_LAT i) then (s.fallen i).dropOut i else s.fallen i := by
  have hmode : (s.fallen i).rd Reg.CMP_LMODE i = s.rd Reg.CMP_LMODE i := rd_wr_ne _ _ (by decide) hi hi
  have hlat : (s.fallen i).rd Reg.CMP_LAT i = s.rd Reg.CMP_LAT i := rd_wr_ne _ _ (by decide) hi hi
  unfold State.cmpFalls
  rw [if_neg (by rw [hen]; decide), if_neg (by rw [hs]; decide), if_pos hf, on_eq, ← hmode, ← hlat]
  rfl

/-- A raw rising edge of a privileged comparator counts; one that the filter passes sets RAW, one that it stops is recorded (R297). -/
theorem rawEdge_privileged (passed : Bool) (h : (34 ≤ i ∧ i ≤ 37) ∨ i = 42 ∨ i = 43) :
    s.rawEdge i passed = if passed then ((s.wr Reg.CMP_EDGEF i 1).bump Reg.CMP_EDGECNT i).wr Reg.CMP_RAW i 1
      else ((s.wr Reg.CMP_EDGEF i 1).bump Reg.CMP_EDGECNT i).event 0x3009 1 (leBytes 1 i) := if_pos ⟨h, hen⟩

end

/-- An assertion that finds the filter asserted does nothing (R295). -/
theorem cmpAssert_asserted {s : State} {i : Nat} (t : Nat) (hf : s.vOn .cmpFilt i = true) : s.cmpAssert i t = s := if_pos (.inr hf)

/-- Where no trip waits for the end of the blanking, none is due (R117). -/
theorem cmpTripDue_none {s : State} {i : Nat} (t : Nat) (h : ∀ c, tripChannel i = some c → s.vOn .tripWait c = false) : s.cmpTripDue i t = s := by
  unfold State.cmpTripDue
  cases hc : tripChannel i with
  | none => rfl
  | some c => exact if_neg (by rw [h c hc]; simp)

end Sys2Proof.Machine.State

namespace Sys2Proof.Proofs

open Machine Machine.State

/-- Settles O27: the filter's state decides whether an edge counts, OUT whether an assertion acts, LMODE whether a release reaches OUT; the DATA byte of a stopped edge's record is the model's choice (log entry 15). -/
theorem comparatorActs : Obligations.ComparatorActs := by
  intro i t s hp hen up down
  have hi : i.val < 256 := by omega
  refine ⟨fun hf hout => ?_, fun hf hout hs => ?_, fun hf => ?_, fun hwait hf hs => ?_, fun h => ?_⟩
  · rw [exec_comparatorAssert hp, cmpAssert_released hen t hf, if_pos (by rw [hout]; rfl)]; rfl
  · rw [exec_comparatorAssert hp, cmpAssert_released hen t hf, if_neg (by rw [hout, hs]; decide)]; rfl
  · rw [exec_comparatorAssert hp, cmpAssert_asserted t hf]
  · have falls := cmpFalls_asserted hen hi hf hs
    rw [exec_comparatorRelease hp, State.cmpRelease, cmpTripDue_none t hwait]
    refine ⟨fun hm => ?_, fun hm => ?_⟩
    · rw [falls, if_pos (.inl hm)]; rfl
    · rw [falls, if_neg (by simp [hm])]; rfl
  · refine ⟨?_, ?_⟩
    · rw [exec_comparatorRawEdge hp, rawEdge_privileged hen true h]; rfl
    · rw [exec_comparatorRawEdge hp, rawEdge_privileged hen false h]; rfl

end Sys2Proof.Proofs
end

section
/-!
PROOF. The checks of a host command and the fields of its payload: what each finds in a command that fits (R384, R520).
-/

namespace Sys2Proof.Machine

theorem leBytes_length (n x : Nat) : (leBytes n x).length = n := by
  induction n generalizing x with
  | zero => rfl
  | succ n ih => exact congrArg Nat.succ (ih (x / 256))

/-- A field that the payload spells out reads as what it spells. -/
theorem fieldAt_leBytes {n x : Nat} (pre post : List Byte) (hx : x < 256 ^ n) : fieldAt (pre ++ (leBytes n x ++ post)) pre.length n = x := by
  have htake : (leBytes n x ++ post).take n = leBytes n x := List.take_left' (leBytes_length n x)
  unfold fieldAt
  rw [List.drop_left, htake, leNat_leBytes hx]

/-- The last field of a payload reads as what it spells. -/
theorem fieldAt_leBytes_last {n x : Nat} (pre : List Byte) (hx : x < 256 ^ n) : fieldAt (pre ++ leBytes n x) pre.length n = x := by
  have h := fieldAt_leBytes pre [] hx
  rwa [List.append_nil] at h

/-- A field of one byte is that byte. -/
theorem fieldAt_byte (pre post : List Byte) (b : Byte) : fieldAt (pre ++ b :: post) pre.length 1 = b.toNat := by
  unfold fieldAt
  rw [List.drop_left]
  rfl

/-- A command that fits its length, names no object, has its fields in range and comes in one of its modes passes the checks (R520). -/
theorem checkCmd_ok {c : Cmd} {len fields : Bool} {modes : List Nat} {s : State} (hl : len = true) (ho : c.obj = 0xFFFF) (hf : fields = true) (hm : modes.contains s.mode = true) :
    checkCmd c len fields modes s = stOk := by
  unfold checkCmd
  rw [hl, hf, if_neg (by simp [ho]), if_pos hm]

/-- Checks of which the first does not fail come to what the others come to (R520). -/
theorem firstFail_false (st : Nat) (l : List (Bool × Nat)) : firstFail ((false, st) :: l) = firstFail l := rfl

end Sys2Proof.Machine

end

section
/-!
PROOF. The system opcodes: where MODE goes, what RESET does with and without a live rail, what IDENTIFY and STATUS report (R42, R43, R46, R378, R402).
-/

namespace Sys2Proof.Machine.State

/-! ### MODE -/

/-- Every transition that a MODE command may name starts outside CURTAIN, and names one of the eleven modes (R42, R43). -/
theorem modeMoves_range : ∀ x ∈ modeMoves, x.1 ≠ mCurtain ∧ x.2 ≤ 11 := by decide

/-- Nothing keeps a MODE command that names `m` from its transition: its operands and its mode are allowed, and nothing is under way (R43, R63, R476). -/
structure ModeReady (t : State) (m : Nat) : Prop where
  any : modesAny.contains t.mode = true
  range : m ≤ 11
  loop : t.rd Reg.SYS_BOOT_LOOPSTAT < 2
  trans : t.on Reg.SYS_MODE_TRANS = false
  bist : t.on Reg.BIST_STAT_RUN = false
  curtain : t.mode ≠ mCurtain

theorem ModeReady.taken {s : State} {m : Nat} (h : s.ModeReady m) (p : Port) : (s.taken p).ModeReady m where
  any := by rw [Laws.taken_mode]; exact h.any
  range := h.range
  loop := by rw [Laws.taken_rd]; exact h.loop
  trans := by rw [Laws.taken_on]; exact h.trans
  bist := by rw [Laws.taken_on]; exact h.bist
  curtain := by rw [Laws.taken_mode]; exact h.curtain

section
variable {t : State} (p : Port) {c : Cmd} {m : Byte} (hpl : c.payload = [m]) (ho : c.obj = 0xFFFF) (hr : t.ModeReady m.toNat)
include hpl ho hr

/-- A MODE command that nothing keeps busy goes on to the transition it names, or is refused for naming none; in REHEARSAL the loop engine must run (R43, R63, R476). -/
theorem modeBody_eq : t.modeBody p c =
    let st := firstFail [(!modeMoves.contains (t.mode, m.toNat), stWrongMode), (t.mode == mRehearsal && t.on Reg.LE_CTL_HALTED, stBusy)]
    if st ≠ stOk then (t, st, []) else ((t.commandMode p c.tag m.toNat).1, (t.commandMode p c.tag m.toNat).2, []) := by
  obtain ⟨hany, hm, hloop, htrans, hbist, hcur⟩ := hr
  have hfield : fieldAt c.payload 0 1 = m.toNat := by rw [hpl]; exact fieldAt_byte [] [] m
  have hcheck : checkCmd c (decide (c.payload.length = 1)) (decide (m.toNat ≤ 11)) modesAny t = stOk := checkCmd_ok (by rw [hpl]; rfl) ho (decide_eq_true hm) hany
  have hboot : t.mode ≠ mBoot := fun e => by rw [e] at hany; exact absurd hany (by decide)
  have hbusy : (t.on Reg.SYS_MODE_TRANS || t.mode == mBoot || t.mode == mCurtain || t.on Reg.BIST_STAT_RUN) = false := by
    rw [htrans, hbist, beq_false_of_ne hboot, beq_false_of_ne hcur]; rfl
  unfold State.modeBody
  dsimp only
  rw [hfield, hcheck, if_neg (c := _ ∧ _) (by omega), if_neg (not_not.2 rfl), hbusy, firstFail_false]

/-- A transition of the table is made (R43). -/
theorem modeBody_move (hmove : (t.mode, m.toNat) ∈ modeMoves) (hhalt : t.mode = mRehearsal → t.on Reg.LE_CTL_HALTED = false) :
    t.modeBody p c = ((t.commandMode p c.tag m.toNat).1, (t.commandMode p c.tag m.toNat).2, []) := by
  have hbusy : (t.mode == mRehearsal && t.on Reg.LE_CTL_HALTED) = false := by simpa using hhalt
  have hlisted : (!modeMoves.contains (t.mode, m.toNat)) = false := by simpa using hmove
  rw [modeBody_eq p hpl ho hr, hbusy, hlisted]
  rfl

/-- A transition outside the table is refused (R43). -/
theorem modeBody_wrong (hmove : (t.mode, m.toNat) ∉ modeMoves) : t.modeBody p c = (t, stWrongMode, []) := by
  have hlisted : (!modeMoves.contains (t.mode, m.toNat)) = true := by simpa using hmove
  rw [modeBody_eq p hpl ho hr, hlisted]
  rfl

end

section
variable (t : State) (p : Port) (tag : Nat)

/-! Where each target goes (R43). -/

theorem commandMode_inter : t.commandMode p tag mInter = (t.startInter (p.idx + 1) tag, stAccepted) := if_pos rfl
theorem commandMode_curtain : t.commandMode p tag mCurtain = (t.commandCurtain p tag, stAccepted) := (if_neg (by decide)).trans (if_pos rfl)
theorem commandMode_active : t.commandMode p tag mActive = (t.interExit 0x01, stOk) := (if_neg (by decide)).trans ((if_neg (by decide)).trans (if_pos rfl))
theorem commandMode_leave {t : State} (h : t.mode = mCharacterise) : t.commandMode p tag mStandby = (t.leaveCharacterise p tag, stAccepted) :=
  (if_neg (by decide)).trans ((if_neg (by decide)).trans ((if_neg (by decide)).trans (if_pos ⟨rfl, h⟩)))
theorem commandMode_enter {t : State} {m : Nat} (h : m = mRehearsal ∨ m = mCharacterise ∨ (m = mStandby ∧ t.mode = mRehearsal)) : t.commandMode p tag m = (t.enterMode m 0x01, stOk) := by
  unfold State.commandMode
  rcases h with rfl | rfl | ⟨rfl, hm⟩
  · rfl
  · rfl
  · rw [hm]; rfl

end

/-! ### RESET -/

/-- What RESET clears first: with a force of 1, the streak and the marker (R46). -/
def resetForced (k : Byte) (t : State) : State := if k = 1#8 then (t.writeBoot { t.boot with streak := 0, marker := false }).showBoot else t

/-- The rails' states are no part of what RESET clears first. -/
theorem rd_resetForced_stateFld (k : Byte) (t : State) (r : Nat) : (resetForced k t).rd (stateFld r) = t.rd (stateFld r) := by
  have hfld : stateFld r ∈ [Reg.SYS_RAILST_STATE_A, Reg.SYS_RAILST_STATE_B, Reg.SYS_RAILST_STATE_C, Reg.SYS_RAILST_STATE_D] := by
    match r with
    | 0 | 1 | 2 | _ + 3 => simp [stateFld]
  have hbase : ∀ g ∈ [Reg.SYS_RAILST_STATE_A, Reg.SYS_RAILST_STATE_B, Reg.SYS_RAILST_STATE_C, Reg.SYS_RAILST_STATE_D], Reg.SYS_BOOT_STREAK.base ≠ g.base ∧ Reg.SYS_FAILLOG_REASON0.base ≠ g.base ∧
      Reg.SYS_FAILLOG_REASON1.base ≠ g.base ∧ Reg.SYS_FAILLOG_REASON2.base ≠ g.base := by decide
  obtain ⟨hstreak, hreason0, hreason1, hreason2⟩ := hbase _ hfld
  unfold resetForced
  split
  · refine (rd_wr_ne _ _ hreason2 (by decide) (by decide)).trans ((rd_wr_ne _ _ hreason1 (by decide) (by decide)).trans ?_)
    exact (rd_wr_ne _ _ hreason0 (by decide) (by decide)).trans ((rd_wr_ne _ _ hstreak (by decide) (by decide)).trans (rd_of_regs rfl ..))
  · rfl

theorem anyLive_resetForced (k : Byte) (t : State) : (resetForced k t).anyLive = t.anyLive := by
  have hlive : (resetForced k t).railLive = t.railLive := by
    funext r
    unfold State.railLive State.railState
    rw [rd_resetForced_stateFld]
  unfold State.anyLive
  rw [hlive]

section
variable {t : State} (p : Port) {c : Cmd} {k : Byte} (hpl : c.payload = [k]) (ho : c.obj = 0xFFFF) (hk : k.toNat ≤ 1) (hany : modesAny.contains t.mode = true)
include hpl ho hk hany

/-- RESET clears what it shall, then resets at once, or drives a CURTAIN first where a rail is live (R46, R402). -/
theorem resetBody_eq : t.resetBody p c =
    if (resetForced k t).anyLive then ((((resetForced k t).setV .resetPort 0 (p.idx + 1)).setV .resetTag 0 c.tag).resetOrCurtain 0x11 rstCommand, stAccepted, [])
    else ((resetForced k t).devReset rstCommand, stOk, []) := by
  have hfield : fieldAt c.payload 0 1 = k.toNat := by rw [hpl]; exact fieldAt_byte [] [] k
  have hcheck : checkCmd c (decide (c.payload.length = 1)) (decide (k.toNat ≤ 1)) modesAny t = stOk := checkCmd_ok (by rw [hpl]; rfl) ho (decide_eq_true hk) hany
  have hforce : (k.toNat = 1) = (k = 1#8) := propext (BitVec.toNat_eq (y := 1#8)).symm
  unfold State.resetBody
  dsimp only
  rw [hfield, hcheck, if_neg (not_not.2 rfl)]
  simp only [hforce]
  rfl

end

/-- A reset leaves no session to answer. -/
theorem answered_devReset (s : State) (r st : Nat) (d : List Byte) (p : Port) (c : Cmd) : answered (s.devReset r, st, d) p c = s.devReset r :=
  if_neg (by rw [devReset_sess]; exact fun h => Bool.false_ne_true h.1)

/-! ### IDENTIFY and STATUS -/

/-- IDENTIFY reports (R402). -/
theorem identifyBody_eq {t : State} (p : Port) {c : Cmd} (hpl : c.payload = []) (ho : c.obj = 0xFFFF) (hany : modesAny.contains t.mode = true) :
    t.identifyBody p c = (t, stOk, t.objBytes 0x1500 0 ++ t.objBytes 0x1503 0 ++ t.objBytes 0x1502 0 ++ t.objBytes 0x1504 0 ++ (t.objBytes 0x1501 0).take 1 ++ leBytes 8 Config.uid.toNat) := by
  have hcheck : checkCmd c (decide (c.payload.length = 0)) true modesAny t = stOk := checkCmd_ok (by rw [hpl]; rfl) ho rfl hany
  unfold State.identifyBody
  rw [hcheck]
  rfl

/-- STATUS reports, and its actions follow (R378, R402); only a written MASK is checked (log entry 36). -/
theorem statusReport_eq {t : State} (p : Port) {c : Cmd} {act mask clr : Nat} (hpl : c.payload = leBytes 1 act ++ leBytes 2 mask ++ leBytes 2 clr) (ho : c.obj = 0xFFFF)
    (hany : modesAny.contains t.mode = true) (hact : act < 16) (hmask : mask < 2 ^ 16) (hclr : clr < 2 ^ 16) (hw : bit act 1 = true → mask < 512) :
    t.statusReport p c = (t.capSync.updSess p (statusActs act mask clr), stOk,
      (t.capSync.summary p).take 6 ++ leBytes 2 (t.capSync.causeWord p) ++ leBytes 2 t.capSync.evCode ++
        leBytes 1 (b2n (t.capSync.on Reg.GAU_REST_REQ) + 2 * b2n (t.capSync.on Reg.PHM_TAB_STALE) + 4 * b2n (t.capSync.on Reg.CAL_STAT_BUSY)) ++
          leBytes 1 (t.capSync.sess p).entries.length ++ (t.capSync.sess p).entries.flatMap entryBytes) := by
  have hfact : fieldAt c.payload 0 1 = act := by rw [hpl, List.append_assoc]; exact fieldAt_leBytes [] _ (by omega)
  have hfmask : fieldAt c.payload 1 2 = mask := by rw [hpl, List.append_assoc]; exact fieldAt_leBytes (leBytes 1 act) _ hmask
  have hfclr : fieldAt c.payload 3 2 = clr := by rw [hpl]; exact fieldAt_leBytes_last (leBytes 1 act ++ leBytes 2 mask) hclr
  have hfields : (decide (act < 16) && (!bit act 1 || decide (mask < 512))) = true := by
    cases hb : bit act 1 with
    | false => simp [hact]
    | true => simp [hact, hw hb]
  have hcheck : checkCmd c (decide (c.payload.length = 5)) (decide (act < 16) && (!bit act 1 || decide (mask < 512))) modesAny t = stOk := checkCmd_ok (by rw [hpl]; rfl) ho hfields hany
  unfold State.statusReport
  dsimp only
  rw [hfact, hfmask, hfclr, hcheck]
  rfl

end Sys2Proof.Machine.State

namespace Sys2Proof.Proofs

open Machine Machine.State

section
variable {s : State} {p : Port} {h : Hdr} {pl : List Byte} {op : Nat} (ho : h.objId = 0xFFFF#16)
include ho

/-- The command that waits for a row without an object has the row's payload and no object. -/
theorem noObject_of_waiting {c : Cmd} (w : s.Waiting p h pl op c) : c.payload = pl ∧ c.obj = 0xFFFF := by
  obtain ⟨-, -, -, -, -, -, -, -, hobj, hpl⟩ := w
  exact ⟨hpl, by rw [hobj, ho]; rfl⟩

/-- A row without an object runs as its body says of any command with the row's payload and no object. -/
theorem runs_of_noObject {i : Instr} {f : State → Port → Cmd → State.Result} {e : State → Cmd → State.Result} (hx : exec i s = act s (hostRow op p h pl f))
    (hb : ∀ c : Cmd, c.payload = pl → c.obj = 0xFFFF → f (s.taken p) p c = e (s.taken p) c) : Runs i s p h pl op e :=
  Laws.runs_of_body hx fun c w => hb c (noObject_of_waiting ho w).1 (noObject_of_waiting ho w).2

/-- A MODE that makes a transition of the table runs as the transition's target says. -/
theorem runs_modeMove {m : Byte} {f : State → Cmd → State} {st : Nat} (hpl : pl = [m]) (hr : s.ModeReady m.toNat) (hmove : (s.mode, m.toNat) ∈ modeMoves)
    (hhalt : s.mode = mRehearsal → s.on Reg.LE_CTL_HALTED = false) (hf : ∀ (t : State) (c : Cmd), t.mode = s.mode → t.commandMode p c.tag m.toNat = (f t c, st)) :
    Runs (.mode p h pl) s p h pl 0x70 (fun t c => (f t c, st, [])) := by
  refine runs_of_noObject ho (f := State.modeBody) rfl fun c hcpl hobj => ?_
  rw [modeBody_move p (hcpl.trans hpl) hobj (hr.taken p) (by rw [Laws.taken_mode]; exact hmove) (by rw [Laws.taken_mode, Laws.taken_on]; exact hhalt), hf _ c (Laws.taken_mode s p)]

end

/-- Settles O55: the checks pass, and each body goes where its operands name; that a MODE ACTIVE carries cause 0x01, that MASK is checked only where it is written, and that TRANS stands while CHARACTERISE is left are the model's choices (log entries 17, 36 and 31). -/
theorem systemOpcodesRun : Obligations.SystemOpcodesRun := by
  intro p h pl s ho hany
  have hanyT : modesAny.contains (s.taken p).mode = true := by rw [Laws.taken_mode]; exact hany
  refine ⟨fun m hpl hmove hloop htrans hbist hhalt => ?_, fun m hpl hm hmove hloop htrans hbist hcur => ?_, fun k hpl hk => ⟨fun hdead c w => ?_, fun hlive => ?_⟩, fun hpl => ?_, fun act mask clr hpl hact hw => ?_⟩
  · obtain ⟨hcur, hm⟩ := modeMoves_range _ hmove
    have hr : s.ModeReady m.toNat := ⟨hany, hm, hloop, htrans, hbist, hcur⟩
    refine ⟨fun hto => ?_, fun hto => ?_, fun hto => ?_, fun hto => ?_, fun hto hfrom => ?_⟩ <;> refine runs_modeMove ho hpl hr hmove hhalt fun t c ht => ?_
    · exact commandMode_enter p c.tag (by rw [ht]; exact hto)
    · rw [hto, commandMode_inter]
    · rw [hto, commandMode_active]
    · rw [hto, commandMode_curtain]
    · rw [hto, commandMode_leave p c.tag (ht.trans hfrom)]
  · have hr : s.ModeReady m.toNat := ⟨hany, hm, hloop, htrans, hbist, hcur⟩
    exact runs_of_noObject ho (f := State.modeBody) rfl fun c hcpl hobj => modeBody_wrong p (hcpl.trans hpl) hobj (hr.taken p) (by rw [Laws.taken_mode]; exact hmove)
  · obtain ⟨hcpl, hobj⟩ := noObject_of_waiting ho w
    have hx : exec (.reset p h pl) s = act s (hostRow 0x71 p h pl State.resetBody) := rfl
    rw [hx, act_after w.1, Laws.hostRow_waiting w, resetBody_eq p (hcpl.trans hpl) hobj hk hanyT, if_neg (by rw [anyLive_resetForced, Laws.taken_anyLive, hdead]; decide),
      answered_devReset, after_devReset]
    rfl
  · refine runs_of_noObject ho (f := State.resetBody) rfl fun c hcpl hobj => ?_
    rw [resetBody_eq p (hcpl.trans hpl) hobj hk hanyT, if_pos (by rw [anyLive_resetForced, Laws.taken_anyLive]; exact hlive)]
    rfl
  · exact runs_of_noObject ho (f := State.identifyBody) rfl fun c hcpl hobj => identifyBody_eq p (hcpl.trans hpl) hobj hanyT
  · exact runs_of_noObject ho (f := State.statusReport) rfl fun c hcpl hobj => statusReport_eq p (hcpl.trans hpl) hobj hanyT hact mask.isLt clr.isLt hw

end Sys2Proof.Proofs
end

section
/-!
PROOF. The maintenance opcodes: what CAL_ADC, BIST, CHARACTERISE and the opcodes of an update do once their checks pass (R65, R66, R98, R203, R403, R404, R476).
-/

namespace Sys2Proof.Machine.State

@[simp] theorem taken_bistBusy (s : State) (p : Port) (sel : Nat) : (s.taken p).bistBusy sel = s.bistBusy sel := by cases p <;> rfl
@[simp] theorem taken_assigned (s : State) (p : Port) (r : Nat) : (s.taken p).assigned r = s.assigned r := by cases p <;> rfl

/-! ### CAL_ADC -/

section
variable {t : State} (p : Port) {c : Cmd} (hpl : c.payload = []) (ho : c.obj = 0xFFFF) (hm : t.mode ∈ [mStandby, mRehearsal, mCharacterise])
include hpl ho hm

theorem calAdc_check : checkCmd c (decide (c.payload.length = 0)) true [mStandby, mRehearsal, mCharacterise] t = stOk :=
  checkCmd_ok (by rw [hpl]; rfl) ho rfl (List.contains_iff_mem.2 hm)

/-- With every rail off and no calibration running, one starts (R98). -/
theorem calAdcBody_starts (hb : t.on Reg.CAL_STAT_BUSY = false) (hr : ∀ r < 4, t.railState r = railDisabled) :
    t.calAdcBody p c = (((t.setV .calPort 0 (p.idx + 1)).setV .calTag 0 c.tag).calStart, stAccepted, []) := by
  have hoff : (List.range 4).any (fun r => t.railState r != railDisabled) = false := by
    simpa only [List.any_eq_false, List.mem_range, bne_iff_ne, not_not] using hr
  unfold State.calAdcBody
  rw [calAdc_check hpl ho hm, hb, hoff]
  rfl

/-- While a calibration runs the command is busy (R98). -/
theorem calAdcBody_busy (hb : t.on Reg.CAL_STAT_BUSY = true) : t.calAdcBody p c = (t, stBusy, []) := by
  unfold State.calAdcBody
  dsimp only
  rw [calAdc_check hpl ho hm, if_pos (c := _ ∧ _) ⟨rfl, .inl hb⟩]
  rfl

end

/-! ### BIST -/

/-- A self-test that nothing keeps busy starts (R403, R476). -/
theorem bistBody_starts {t : State} (p : Port) {c : Cmd} {sel : Nat} (hpl : c.payload = leBytes 2 sel) (ho : c.obj = 0xFFFF) (hm : t.mode = mRehearsal) (h1 : 1 ≤ sel) (h2 : sel ≤ 255) (hb : t.bistBusy sel = false) :
    t.bistBody p c =
      (((((((t.wr Reg.BIST_STAT_RUN 0 1).wr Reg.BIST_STAT_SEL 0 sel).wr Reg.BIST_STAT_PASS 0 0).wr Reg.BIST_STAT_FAIL 0 0).setV .bistPort 0 (p.idx + 1)).setV .bistTag 0 c.tag), stAccepted, []) := by
  have hfield : fieldAt c.payload 0 2 = sel := by rw [hpl]; exact fieldAt_leBytes_last [] (by omega)
  have hcheck : checkCmd c (decide (c.payload.length = 2)) (decide (1 ≤ sel) && decide (sel ≤ 255)) [mRehearsal] t = stOk :=
    checkCmd_ok (by rw [hpl]; rfl) ho (by simp [h1, h2]) (by rw [hm]; rfl)
  unfold State.bistBody
  dsimp only
  rw [hfield, hcheck, hb]
  rfl

/-! ### CHARACTERISE -/

/-- The ranges of the operands of CHARACTERISE (R203, R403). -/
structure CharRanges (rails lo hi dwell lim : Nat) : Prop where
  rails : rails < 16
  order : lo ≤ hi
  top : hi ≤ 31
  dwellLow : 1 ≤ dwell
  dwellHigh : dwell ≤ 100
  limLow : 10 ≤ lim
  limHigh : lim ≤ 3600

/-- With its operands in range, no procedure running and phases on every named rail, the procedure starts with the first rail (R203). -/
theorem characteriseBody_starts {t : State} (p : Port) {c : Cmd} {rails lo hi dwell : Byte} {lim : BitVec 16} (hpl : c.payload = [rails, lo, hi, dwell] ++ leBytes 2 lim.toNat) (ho : c.obj = 0xFFFF)
    (hm : t.mode = mCharacterise) (hg : CharRanges rails.toNat lo.toNat hi.toNat dwell.toNat lim.toNat) (hrun : t.on Reg.PHM_CHAR_RUN = false)
    (ha : ∀ r < 4, bit rails.toNat r = true → t.assigned r ≠ []) :
    t.characteriseBody p c =
      let a := (((t.wr Reg.PHM_CHAR_RUN 0 1).wr Reg.PHM_CHAR_REASON 0 0).wr Reg.PHM_CHAR_BANDS 0 0).wr Reg.PHM_CHAR_POINTS 0 0
      let b := ((a.setV .charMask 0 rails.toNat).setV .charLo 0 lo.toNat).setV .charHi 0 hi.toNat
      (((b.setV .charPort 0 (p.idx + 1)).setV .charTag 0 c.tag).charNext 0, stAccepted, []) := by
  have hrails : fieldAt c.payload 0 1 = rails.toNat := by rw [hpl]; exact fieldAt_byte [] _ rails
  have hlo : fieldAt c.payload 1 1 = lo.toNat := by rw [hpl]; exact fieldAt_byte [rails] _ lo
  have hhi : fieldAt c.payload 2 1 = hi.toNat := by rw [hpl]; exact fieldAt_byte [rails, lo] _ hi
  have hdwell : fieldAt c.payload 3 1 = dwell.toNat := by rw [hpl]; exact fieldAt_byte [rails, lo, hi] _ dwell
  have hlim : fieldAt c.payload 4 2 = lim.toNat := by rw [hpl]; exact fieldAt_leBytes_last [rails, lo, hi, dwell] lim.isLt
  have hempty : (List.range 4).any (fun r => bit rails.toNat r && (t.assigned r).isEmpty) = false := by
    simpa only [List.any_eq_false, List.mem_range, Bool.and_eq_true, List.isEmpty_iff, not_and] using ha
  obtain ⟨h1, h2, h3, h4, h5, h6, h7⟩ := hg
  have hcheck : checkCmd c (decide (c.payload.length = 6)) (decide (rails.toNat < 16) && decide (lo.toNat ≤ hi.toNat) && decide (hi.toNat ≤ 31) && decide (1 ≤ dwell.toNat) && decide (dwell.toNat ≤ 100) &&
      decide (10 ≤ lim.toNat) && decide (lim.toNat ≤ 3600)) [mCharacterise] t = stOk :=
    checkCmd_ok (by rw [hpl]; rfl) ho (by simp only [h1, h2, h3, h4, h5, h6, h7]; rfl) (by rw [hm]; rfl)
  unfold State.characteriseBody
  dsimp only
  simp only [hrails, hlo, hhi, hdwell, hlim]
  rw [hcheck, hrun, hempty]
  rfl

/-! ### UPDATE -/

/-- An update that is well described and allowed in the mode empties its target bank and begins (R65, R403, R404). -/
theorem updateBeginBody_begins {t : State} (p : Port) {c : Cmd} (ho : c.obj = 0xFFFF) (hlen : c.payload.length = 1 + 12 * (beginImages c.payload).length) (hne : beginImages c.payload ≠ [])
    (hok : ∀ m ∈ beginImages c.payload, imageOk m = true) (hm : t.mode = mStandby ∨ (t.mode = mMinimal ∧ (beginImages c.payload).length = 2)) :
    t.updateBeginBody p c =
      let b := t.targetBank
      let a := (t.putBytes (bankBase b) [0, 0]).putBytes (loopBase b) [0, 0]
      (({ a with update := some ⟨b, beginImages c.payload, p.idx + 1, 0, false, t.mode⟩ } : State).enterMode mUpdate 0x0F, stOk, []) := by
  have hmodes : [mStandby, mMinimal].contains t.mode = true := by
    rcases hm with hm | ⟨hm, -⟩ <;> rw [hm] <;> rfl
  have hboth : ¬ (t.mode = mMinimal ∧ (beginImages c.payload).length ≠ 2) := by
    rintro ⟨hmin, h2⟩
    rcases hm with hm | ⟨-, hm⟩
    · exact absurd (hm.symm.trans hmin) (by decide)
    · exact h2 hm
  have hcheck : checkCmd c (c.payload.length == 1 + 12 * (beginImages c.payload).length && !(beginImages c.payload).isEmpty) ((beginImages c.payload).all imageOk) [mStandby, mMinimal] t = stOk :=
    checkCmd_ok (by simp [← hlen, hne]) ho (List.all_eq_true.2 hok) hmodes
  unfold State.updateBeginBody
  dsimp only
  rw [hcheck, if_neg (c := _ ∧ _ ∧ _) fun h => hboth h.2]
  rfl

section
variable {t : State} (p : Port) {c : Cmd} {u : Update} (ho : c.obj = 0xFFFF) (hm : t.mode = mUpdate) (hu : t.update = some u)
include ho hm hu

section
variable {m : UpdateImage} (h6 : 6 ≤ c.payload.length) (h245 : c.payload.length ≤ 245) (hfind : u.images.find? (fun x => x.type == fieldAt c.payload 0 1) = some m)
  (hty : fieldAt c.payload 0 1 = 1 ∨ fieldAt c.payload 0 1 = 2)
include h6 h245 hfind hty

/-- Data for a begun image is written where it continues the image, and is refused elsewhere (R65, R403, R404). -/
theorem updateDataBody_eq : t.updateDataBody p c =
    if fieldAt c.payload 1 4 ≠ m.written ∨ m.length < m.written + (c.payload.length - 5) then (t, stBadParam, [])
    else ({ (t.putBytes (imageBase u.bankB (fieldAt c.payload 0 1) + 64 + fieldAt c.payload 1 4) (c.payload.drop 5)).irq 116 with
      update := some { u with images := u.images.map (fun x => if x.type = fieldAt c.payload 0 1 then { x with written := x.written + (c.payload.length - 5) } else x) } }, stOk, []) := by
  have hcheck : checkCmd c (decide (6 ≤ c.payload.length) && decide (c.payload.length ≤ 245)) (fieldAt c.payload 0 1 == 1 || fieldAt c.payload 0 1 == 2) [mUpdate] t = stOk :=
    checkCmd_ok (by simp [h6, h245]) ho (by simpa using hty) (by rw [hm]; rfl)
  unfold State.updateDataBody
  dsimp only
  rw [hcheck, hu, show (stOk == stOk) = true from rfl]
  dsimp only
  rw [hfind, List.length_drop]

end

variable (hpl : c.payload = []) (hc : u.committing = false)
include hpl hc

/-- A commit begins where every begun image is complete, and is refused where one is not (R66, R403). -/
theorem updateCommitBody_eq : t.updateCommitBody p c =
    if u.images.any (fun m => m.written != m.length) then (t, stBadParam, [])
    else ({ t with update := some { u with committing := true, tag := c.tag } }, stAccepted, []) := by
  have hcheck : checkCmd c (decide (c.payload.length = 0)) true [mUpdate] t = stOk := checkCmd_ok (by rw [hpl]; rfl) ho rfl (by rw [hm]; rfl)
  unfold State.updateCommitBody
  dsimp only
  rw [hcheck, hu, show (stOk == stOk) = true from rfl]
  dsimp only
  rw [hc, if_neg Bool.false_ne_true]

end

end Sys2Proof.Machine.State

namespace Sys2Proof.Proofs

open Machine Machine.State

/-- Settles O56: the checks pass or fail as the state says, and each body starts what its operands name; the bank that an update in MINIMAL targets and source 116 at each UPDATE_DATA (log entry 32), and that the rails of CHARACTERISE follow one another (log entry 29), are the model's choices. -/
theorem maintenanceOpcodesRun : Obligations.MaintenanceOpcodesRun := by
  intro p h pl s ho
  have hmode : (s.taken p).mode = s.mode := Laws.taken_mode s p
  refine ⟨fun hpl hm hb hr => ?_, fun hpl hm hb => ?_, fun sel hpl hm h1 h2 hb => ?_, fun rails lo hi dwell lim hpl hm h1 h2 h3 h4 h5 h6 h7 hrun ha => ?_, fun hlen hne hok hm => ?_,
    fun u m hm hu h6 h245 hfind hty => ?_, fun u hpl hm hu hc => ?_⟩
  · refine runs_of_noObject ho (f := State.calAdcBody) rfl fun c hcpl hobj => calAdcBody_starts p (hcpl.trans hpl) hobj (hmode ▸ hm) (by rw [Laws.taken_on]; exact hb) fun r hr4 => ?_
    rw [Laws.taken_railState]; exact hr r hr4
  · exact runs_of_noObject ho (f := State.calAdcBody) rfl fun c hcpl hobj => calAdcBody_busy p (hcpl.trans hpl) hobj (hmode ▸ hm) (by rw [Laws.taken_on]; exact hb)
  · exact runs_of_noObject ho (f := State.bistBody) rfl fun c hcpl hobj => bistBody_starts p (hcpl.trans hpl) hobj (hmode.trans hm) h1 h2 (by rw [taken_bistBusy]; exact hb)
  · refine runs_of_noObject ho (f := State.characteriseBody) rfl fun c hcpl hobj => characteriseBody_starts p (hcpl.trans hpl) hobj (hmode.trans hm) ⟨h1, h2, h3, h4, h5, h6, h7⟩ (by rw [Laws.taken_on]; exact hrun) fun r hr4 => ?_
    rw [taken_assigned]; exact ha r hr4
  · refine runs_of_noObject ho (f := State.updateBeginBody) rfl fun c hcpl hobj => ?_
    subst hcpl
    exact updateBeginBody_begins p hobj hlen hne hok (by rw [hmode]; exact hm)
  · have data := fun (c : Cmd) (hcpl : c.payload = pl) (hobj : c.obj = 0xFFFF) =>
      updateDataBody_eq p (c := c) hobj (hmode.trans hm) ((Laws.taken_update s p).trans hu) (hcpl ▸ h6) (hcpl ▸ h245) (hcpl ▸ hfind) (hcpl ▸ hty)
    refine ⟨fun hoff hfit => runs_of_noObject ho (f := State.updateDataBody) rfl fun c hcpl hobj => ?_, fun hoff => runs_of_noObject ho (f := State.updateDataBody) rfl fun c hcpl hobj => ?_⟩
    · rw [data c hcpl hobj, hcpl]
      exact if_neg (by omega)
    · rw [data c hcpl hobj, hcpl]
      exact if_pos (.inl hoff)
  · have commit := fun (c : Cmd) (hcpl : c.payload = pl) (hobj : c.obj = 0xFFFF) =>
      updateCommitBody_eq p (c := c) hobj (hmode.trans hm) ((Laws.taken_update s p).trans hu) (hcpl.trans hpl) hc
    refine ⟨fun hall => runs_of_noObject ho (f := State.updateCommitBody) rfl fun c hcpl hobj => ?_, fun m hmem hpart => runs_of_noObject ho (f := State.updateCommitBody) rfl fun c hcpl hobj => ?_⟩
    · exact (commit c hcpl hobj).trans (if_neg (by simpa using hall))
    · have hany : u.images.any (fun m => m.written != m.length) = true := List.any_eq_true.2 ⟨m, hmem, bne_iff_ne.2 hpart⟩
      exact (commit c hcpl hobj).trans (if_pos hany)

end Sys2Proof.Proofs
end

section
/-!
PROOF. The current channels: which samples are taken, what a main sample makes of a slope sample under way, and the results of both (R74, R76 to R81, R99).
-/

namespace Sys2Proof.Machine

/-- A code fits its width. -/
theorem code_lt (w : Nat) (x : Int) : code w x < 2 ^ w := by
  have hpos : (0 : Int) < 2 ^ w := by positivity
  have hlt : x % 2 ^ w < ((2 ^ w : Nat) : Int) := by push_cast; exact Int.emod_lt_of_pos x hpos
  exact (Int.toNat_lt (Int.emod_nonneg x hpos.ne')).2 hlt

namespace State

/-- A field reads the signed value written, as its code. -/
theorem rd_wrS_same (s : State) (f : Fld) (i : Nat) (n : Int) : (s.wrS f i n).rd f i = code f.width n :=
  (rd_wr_same ..).trans (Nat.mod_eq_of_lt (code_lt f.width n))

/-- A counter field that counts one more, up to the most that it holds. -/
theorem rd_bump_same (s : State) (f : Fld) (i n : Nat) : (s.bump f i n).rd f i = min (s.rd f i + n) (2 ^ f.width - 1) :=
  (rd_wr_same ..).trans (Nat.mod_eq_of_lt (by have := Nat.two_pow_pos f.width; omega))

/-- Another variable's flag, and its value as a natural number, are left alone. -/
theorem vOn_setV_ne (s : State) {x y : Var} {i j : Nat} (n : Int) (h : x.ctorIdx ≠ y.ctorIdx) (hi : i < 1024) (hj : j < 1024) : (s.setV x i n).vOn y j = s.vOn y j := by
  rw [vOn_eq, v_setV_ne s n h hi hj]; rfl
theorem vn_setV_ne (s : State) {x y : Var} {i j : Nat} (n : Int) (h : x.ctorIdx ≠ y.ctorIdx) (hi : i < 1024) (hj : j < 1024) : (s.setV x i n).vn y j = s.vn y j := by
  rw [vn_eq, v_setV_ne s n h hi hj]; rfl

/-- CSA_SAMPLE of a running block. -/
theorem exec_csaSample {s : State} (hp : s.power = .running) (c : Chan) (raw : BitVec 12) (t : Nat) : exec (.csaSample c raw t) s = .next (s.csaSample c raw.toInt t).after :=
  act_after (f := fun u => u.csaSample c raw.toInt t) hp

/-- CSA_SLOPE_SAMPLE of a running block. -/
theorem exec_csaSlopeSample {s : State} (hp : s.power = .running) (c : Chan) (second : Bool) (raw : BitVec 12) (toff t : Nat) :
    exec (.csaSlopeSample c second raw toff t) s = .next (s.slopeSample c second raw.toInt toff t).after :=
  act_after (f := fun u => u.slopeSample c second raw.toInt toff t) hp

/-! ### Main samples -/

/-- With no trip waiting for the end of the blanking none is due (R117). -/
theorem tripDue_none {s : State} {c : Nat} (t : Nat) (h : s.vOn .tripWait c = false) : s.tripDue c t = s := if_neg (by rw [h]; simp)

/-- A channel that is off, borrowed, in calibration or sampled already in this period takes no main sample (R74, R78, R99). -/
theorem csaSample_none {s : State} {c : Nat} (raw : Int) (t : Nat)
    (h : s.on Reg.CSA_EN c = false ∨ s.borrowed c = true ∨ s.on Reg.CAL_STAT_BUSY = true ∨ (s.on Reg.PWM_CEN c = true ∧ s.vOn .sampDone c = true)) : s.csaSample c raw t = s :=
  if_pos (h.imp_left (fun e => by rw [e]; decide))

/-- The state in which a main sample looks at the converter: the period has its sample. -/
def sampled (s : State) (c : Nat) : State := s.setV .sampDone c 1

/-- The conversion of the main sample runs from PWM tick `t` on (R76). -/
def mainTaken (s : State) (c t : Nat) : State := (s.setV .convEnd c (t + 80)).setV .convSlope c 0

/-- A main sample that takes the converter changes three variables of its channel. -/
theorem v_mainTaken {s : State} {c t : Nat} {x : Var} (hc : c < 1024) (hx : ∀ y ∈ [Var.sampDone, .convEnd, .convSlope], y.ctorIdx ≠ x.ctorIdx) : ((s.sampled c).mainTaken c t).v x c = s.v x c := by
  simp only [List.forall_mem_cons, List.not_mem_nil, false_implies, implies_true, and_true] at hx
  obtain ⟨h1, h2, h3⟩ := hx
  exact (v_setV_ne _ _ h3 hc hc).trans ((v_setV_ne _ _ h2 hc hc).trans (v_setV_ne _ _ h1 hc hc))

/-- That the period has its sample says nothing of the converter. -/
theorem converting_sampled {s : State} {c : Nat} (t : Nat) (hc : c < 1024) : (s.sampled c).converting c t = s.converting c t := by
  unfold State.converting State.sampled
  rw [vn_setV_ne _ _ (by decide) hc hc]

section
variable {s : State} {c : Nat} (hc : c < 1024) (hen : s.on Reg.CSA_EN c = true) (hb : s.borrowed c = false) (hcal : s.on Reg.CAL_STAT_BUSY = false)
include hc hen hb hcal

/-- A channel that takes a main sample gives way to a conversion that runs, unless that is a slope sample's (R76, R77). -/
theorem csaSample_eq (hd : s.on Reg.PWM_CEN c = true → s.vOn .sampDone c = false) (hw : s.vOn .tripWait c = false) (raw : Int) (t : Nat) :
    s.csaSample c raw t = if s.converting c t = true ∧ s.vOn .convSlope c = false then (s.sampled c).bump Reg.CSA_MISSCNT c
      else (((s.sampled c).dropSlope c t).mainTaken c t).mainResult c raw := by
  have htaken : ¬ (¬ s.on Reg.CSA_EN c = true ∨ s.borrowed c = true ∨ s.on Reg.CAL_STAT_BUSY = true ∨ (s.on Reg.PWM_CEN c = true ∧ s.vOn .sampDone c = true)) := by
    rw [hen, hb, hcal]
    rintro (h | h | h | ⟨h, hdone⟩)
    · exact h rfl
    · cases h
    · cases h
    · rw [hd h] at hdone; cases hdone
  have hwait : (s.sampled c).vOn .tripWait c = false := (vOn_setV_ne _ _ (by decide) hc hc).trans hw
  have hslope : (s.sampled c).vOn .convSlope c = s.vOn .convSlope c := vOn_setV_ne _ _ (by decide) hc hc
  unfold State.csaSample
  rw [if_neg htaken]
  dsimp only
  rw [show s.setV .sampDone c 1 = s.sampled c from rfl, tripDue_none _ hwait, converting_sampled t hc, hslope]
  simp only [Bool.not_eq_true]
  rfl

end

/-- With the converter free no slope sample is dropped. -/
theorem dropSlope_free {s : State} {c t : Nat} (h : s.converting c t = false) : s.dropSlope c t = s := if_neg (by rw [h]; decide)

/-- A slope sample that is dropped counts as a miss, and its field keeps the value before it (R77; which value that is, is the model's choice, log entry 75). -/
theorem dropSlope_reads {s : State} {c t : Nat} (hc : c < 256) (h : s.converting c t = true) :
    (s.dropSlope c t).rd Reg.CSA_MISSCNT c = min (s.rd Reg.CSA_MISSCNT c + 1) (2 ^ Reg.CSA_MISSCNT.width - 1) ∧
      (s.dropSlope c t).rd (if s.v .convSlope c = 1 then Reg.CSA_S1 else Reg.CSA_S2) c = s.vn .slopeWas c % 2 ^ 16 := by
  have hslope : ((s.bump Reg.CSA_MISSCNT c).setV .slopeHave c 0).v .convSlope c = s.v .convSlope c := v_setV_ne _ _ (by decide) (by omega) (by omega)
  have hwas : ((s.bump Reg.CSA_MISSCNT c).setV .slopeHave c 0).vn .slopeWas c = s.vn .slopeWas c := vn_setV_ne _ _ (by decide) (by omega) (by omega)
  unfold State.dropSlope
  rw [if_pos h]
  dsimp only
  rw [hslope, hwas]
  split
  · exact ⟨(rd_wr_ne _ _ (by decide) hc hc).trans (rd_bump_same s Reg.CSA_MISSCNT c 1), rd_wr_same ..⟩
  · exact ⟨(rd_wr_ne _ _ (by decide) hc hc).trans (rd_bump_same s Reg.CSA_MISSCNT c 1), rd_wr_same ..⟩

/-- The fields of a main sample that neither saturated, nor lacked a pulse, nor was cut by a trip (R78 to R81). -/
def mainFields (s : State) (c : Nat) (raw : Int) : State :=
  (((((s.wr Reg.CSA_RAW c (code 12 raw)).wrS Reg.CSA_CUR c (s.csaCurrent c raw)).wr Reg.CSA_SEQ c (s.vn .perCount c)).wr Reg.CSA_SAT c 0).wr Reg.CSA_NOPULSE c 0).wr Reg.CSA_TRIP c 0

/-- The current of a main sample enters the channel's history (R79). -/
def pushCurrent (s : State) (c : Nat) (cur : Int) : State := { s with csaHist := kvPut c ((cur :: (kvFind c s.csaHist).getD []).take 128) s.csaHist }

/-- The history of a channel, given what it was. -/
theorem pushCurrent_eq {s : State} {l : List (Nat × List Int)} (c : Nat) (cur : Int) (h : s.csaHist = l) :
    s.pushCurrent c cur = { s with csaHist := kvPut c ((cur :: (kvFind c l).getD []).take 128) l } := by
  subst h; rfl

/-- Such a sample enters its fields and the running mean, and the capture channels and the phase manager take it (R78 to R81). -/
theorem mainResult_clean {s : State} {c : Nat} {raw : Int} (hlo : -2048 < raw) (hhi : raw < 2047) (hcen : s.on Reg.PWM_CEN c = true) (host : s.rd Reg.PWM_OST c = ostLive)
    (hact : s.rd Reg.PWM_WACT c ≠ 0) (htrip : s.vOn .csaTrip c = false) :
    s.mainResult c raw =
      let d := (s.mainFields c raw).pushCurrent c (s.csaCurrent c raw)
      ((d.wrS Reg.CSA_AVG c (d.csaAvg c)).capFeed (0x10 + c) (code 16 (s.csaCurrent c raw))).phaseSample c := by
  have hsat : (raw == -2048 || raw == 2047) = false := by rw [beq_false_of_ne (by omega), beq_false_of_ne (by omega)]; rfl
  have hpulse : (!s.on Reg.PWM_CEN c || s.rd Reg.PWM_OST c != ostLive || s.rd Reg.PWM_WACT c == 0) = false := by rw [hcen, host, beq_false_of_ne hact]; rfl
  unfold State.mainResult
  rw [hsat, hpulse, htrip]
  rfl

/-! ### Slope samples -/

/-- A channel that is off, borrowed, without SLOPE or in calibration takes no slope sample (R76, R99). -/
theorem slopeSample_none {s : State} {c : Nat} (second : Bool) (raw : Int) (toff t : Nat)
    (h : s.on Reg.CSA_EN c = false ∨ s.on Reg.CSA_SLOPE c = false ∨ s.borrowed c = true ∨ s.on Reg.CAL_STAT_BUSY = true) : s.slopeSample c second raw toff t = s :=
  if_pos (by simpa only [Bool.not_eq_true] using h)

/-- The conversion of a slope sample runs from PWM tick `t` on, with the value that its field held before; a saturated code counts (R76, R77, R81). -/
def slopeTaken (s : State) (c : Nat) (second : Bool) (raw : Int) (t : Nat) : State :=
  let s := if raw = -2048 ∨ raw = 2047 then s.wr Reg.CSA_SATF c 1 else s
  ((s.setV .convEnd c (t + 80)).setV .convSlope c (if second then 2 else 1)).setV .slopeWas c (s.rd (if second then Reg.CSA_S2 else Reg.CSA_S1) c)

/-- A slope sample that takes the converter leaves the period count, and its conversion takes 80 ticks. -/
theorem slopeTaken_v {s : State} {c : Nat} (hc : c < 256) (second : Bool) (raw : Int) (t : Nat) :
    (s.slopeTaken c second raw t).v .perCount c = s.v .perCount c ∧ (s.slopeTaken c second raw t).v .convEnd c = t + 80 := by
  have other : ∀ (u : State) {x y : Var} (n : Int), x.ctorIdx ≠ y.ctorIdx → (u.setV x c n).v y c = u.v y c := fun u _ _ n h => v_setV_ne u n h (by omega) (by omega)
  unfold State.slopeTaken
  extract_lets u
  have hu : u.v .perCount c = s.v .perCount c := by unfold u; split <;> rfl
  refine ⟨?_, ?_⟩
  · rw [other _ _ (by decide), other _ _ (by decide), other _ _ (by decide), hu]
  · rw [other _ _ (by decide), other _ _ (by decide), v_setV_same]

/-- Learning an inductance writes the phase table and marks it changed, and no more (R199). -/
theorem learnInductance_reads (s : State) (c : Nat) (l : Int) :
    (∀ (f : Fld) (i : Nat), (s.learnInductance c l).rd f i = s.rd f i) ∧
      ∀ (x : Var) (i : Nat), x.ctorIdx ≠ Var.tableDirty.ctorIdx → i < 1024 → (s.learnInductance c l).v x i = s.v x i := by
  refine ⟨fun f i => ?_, fun x i hx hi => ?_⟩
  · exact (rd_setOn ..).trans (rd_putWord ..)
  · exact (v_setV_ne _ _ (Ne.symm hx) (by decide) hi).trans (v_putWord ..)

section
variable {s : State} {c : Nat} (hen : s.on Reg.CSA_EN c = true) (hsl : s.on Reg.CSA_SLOPE c = true) (hb : s.borrowed c = false) (hcal : s.on Reg.CAL_STAT_BUSY = false)
include hen hsl hb hcal

/-- The channel takes slope samples. -/
theorem slopeSample_open : ¬ (¬ s.on Reg.CSA_EN c = true ∨ ¬ s.on Reg.CSA_SLOPE c = true ∨ s.borrowed c = true ∨ s.on Reg.CAL_STAT_BUSY = true) := by
  rw [hen, hsl, hb, hcal]; decide

/-- An off-time under 400 ns has no slope samples, and counts a skip on the first (R76). -/
theorem slopeSample_short (second : Bool) (raw : Int) {toff : Nat} (t : Nat) (h : toff < 320) : s.slopeSample c second raw toff t = if second then s else s.bump Reg.CSA_SLOPESKIP c := by
  unfold State.slopeSample
  rw [if_neg (slopeSample_open hen hsl hb hcal), if_pos h]

/-- A slope sample gives way to a conversion that runs (R77). -/
theorem slopeSample_missed (second : Bool) (raw : Int) {toff t : Nat} (h : 320 ≤ toff) (hcv : s.converting c t = true) : s.slopeSample c second raw toff t = s.bump Reg.CSA_MISSCNT c := by
  unfold State.slopeSample
  rw [if_neg (slopeSample_open hen hsl hb hcal), if_neg (by omega), if_pos hcv]

/-- The first slope sample goes to S1, for the present period (R76). -/
theorem slopeSample_first (hc : c < 256) (raw : Int) {toff t : Nat} (h : 320 ≤ toff) (hcv : s.converting c t = false) :
    let u := s.slopeSample c false raw toff t
    u.rd Reg.CSA_S1 c = code 16 (s.csaCurrent c raw) ∧ u.v .slopeHave c = s.v .perCount c + 1 ∧ u.v .convEnd c = t + 80 := by
  have htaken : s.slopeSample c false raw toff t = ((s.slopeTaken c false raw t).wrS Reg.CSA_S1 c (s.csaCurrent c raw)).setV .slopeHave c ((s.slopeTaken c false raw t).v .perCount c + 1) := by
    unfold State.slopeSample
    rw [if_neg (slopeSample_open hen hsl hb hcal), if_neg (by omega), if_neg (by rw [hcv]; decide)]
    rfl
  obtain ⟨hper, hend⟩ := slopeTaken_v (s := s) hc false raw t
  rw [htaken, hper]
  exact ⟨rd_wrS_same .., v_setV_same .., (v_setV_ne _ _ (by decide) (by omega) (by omega)).trans hend⟩

/-- The second slope sample goes to S2, whether or not the pair teaches an inductance (R76, R199). -/
theorem slopeSample_second (hc : c < 256) (raw : Int) {toff t : Nat} (h : 320 ≤ toff) (hcv : s.converting c t = false) :
    let u := s.slopeSample c true raw toff t
    u.rd Reg.CSA_S2 c = code 16 (s.csaCurrent c raw) ∧ u.v .convEnd c = t + 80 := by
  obtain ⟨-, hend⟩ := slopeTaken_v (s := s) hc true raw t
  let w := ((s.slopeTaken c true raw t).wrS Reg.CSA_S2 c (s.csaCurrent c raw)).setV .slopeHave c 0
  have hw : w.rd Reg.CSA_S2 c = code 16 (s.csaCurrent c raw) ∧ w.v .convEnd c = t + 80 := ⟨rd_wrS_same .., (v_setV_ne _ _ (by decide) (by omega) (by omega)).trans hend⟩
  have htaken : s.slopeSample c true raw toff t = w ∨ ∃ l, s.slopeSample c true raw toff t = w.learnInductance c l := by
    unfold State.slopeSample
    rw [if_neg (slopeSample_open hen hsl hb hcal), if_neg (by omega), if_neg (by rw [hcv]; decide)]
    extract_lets cur u v both x d
    rw [if_neg (by decide)]
    split
    · split
      · exact .inr ⟨_, rfl⟩
      · exact .inl rfl
    · exact .inl rfl
  rcases htaken with e | ⟨l, e⟩ <;> rw [e]
  · exact hw
  · obtain ⟨hrd, hv⟩ := learnInductance_reads w c l
    exact ⟨(hrd ..).trans hw.1, (hv _ _ (by decide) (by omega)).trans hw.2⟩

end

end State

end Sys2Proof.Machine

namespace Sys2Proof.Proofs

open Machine Machine.State

/-- Settles O20: which samples are taken is read off the channel's state, and each that is taken off the converter's; that a dropped slope sample leaves the value before it in its field is the model's choice (log entry 75). -/
theorem currentRowsAct : Obligations.CurrentRowsAct := by
  refine ⟨fun c raw t s hp => ⟨fun h => ?_, fun hen hb hcal hd hw => ⟨fun hcv hsl => ?_, fun hcv hsl => ⟨?_, ?_⟩, fun hcv hlo hhi hcen host hact htrip => ?_⟩⟩,
    fun c raw toff t s hp => ⟨fun h second => ?_, fun hen hsl hb hcal => ⟨fun hshort => ⟨?_, ?_⟩, fun hlong hcv second => ?_, fun hlong hcv => ?_, fun hlong hcv => ?_⟩⟩⟩
  · rw [exec_csaSample hp, csaSample_none _ _ h]
  · rw [exec_csaSample hp, csaSample_eq (by omega) hen hb hcal hd hw, if_pos ⟨hcv, hsl⟩]; rfl
  · rw [exec_csaSample hp, csaSample_eq (by omega) hen hb hcal hd hw, if_neg (by rw [hsl]; simp)]; rfl
  · have hwas : (s.sampled c).vn .slopeWas c = s.vn .slopeWas c := vn_setV_ne _ _ (by decide) (by omega) (by omega)
    have hwhich : (s.sampled c).v .convSlope c = s.v .convSlope c := v_setV_ne _ _ (by decide) (by omega) (by omega)
    have hdrop := dropSlope_reads (s := s.sampled c) (c := c) (t := t) (by omega) ((converting_sampled t (by omega)).trans hcv)
    rwa [hwhich, hwas] at hdrop
  · have hfree : (s.sampled c).dropSlope c t = s.sampled c := dropSlope_free ((converting_sampled t (by omega)).trans hcv)
    have htrip' : ((s.sampled c).mainTaken c t).vOn .csaTrip c = false := by rw [vOn_eq, v_mainTaken (by omega) (by decide)]; exact htrip
    have hper : ((s.sampled c).mainTaken c t).vn .perCount c = s.vn .perCount c := congrArg Int.toNat (v_mainTaken (by omega) (by decide))
    have hcur : ((s.sampled c).mainTaken c t).csaCurrent c raw.toInt = s.csaCurrent c raw.toInt := rfl
    have hhist : (((s.sampled c).mainTaken c t).mainFields c raw.toInt).csaHist = s.csaHist := by simp only [mainFields, mainTaken, sampled, wr_csaHist, wrS_csaHist, setV_csaHist]
    rw [exec_csaSample hp, csaSample_eq (by omega) hen hb hcal hd hw, if_neg (by rw [hcv]; simp), hfree, mainResult_clean (s := (s.sampled c).mainTaken c t) hlo hhi hcen host hact htrip', hcur, pushCurrent_eq c _ hhist, mainFields, hper, hcur]
    rfl
  · rw [exec_csaSlopeSample hp, slopeSample_none second _ _ _ h]
  · rw [exec_csaSlopeSample hp, slopeSample_short hen hsl hb hcal false _ _ hshort]; rfl
  · rw [exec_csaSlopeSample hp, slopeSample_short hen hsl hb hcal true _ _ hshort]; rfl
  · rw [exec_csaSlopeSample hp, slopeSample_missed hen hsl hb hcal second _ hlong hcv]
  · obtain ⟨hs1, hhave, hend⟩ := slopeSample_first hen hsl hb hcal (by omega) raw.toInt hlong hcv
    exact ⟨_, exec_csaSlopeSample hp .., (after_rd _ (by decide) (by decide) (by omega)).trans hs1, (after_v _ (by decide) (by omega)).trans hhave, (after_v _ (by decide) (by omega)).trans hend⟩
  · obtain ⟨hs2, hend⟩ := slopeSample_second hen hsl hb hcal (by omega) raw.toInt hlong hcv
    exact ⟨_, exec_csaSlopeSample hp .., (after_rd _ (by decide) (by decide) (by omega)).trans hs2, (after_v _ (by decide) (by omega)).trans hend⟩

end Sys2Proof.Proofs
end

section
/-!
PROOF. The voltage converters: what a conversion does in each slot of the cycle, the end of the cycle, and the verdict of judgement (R82 to R88, R99, R101, R309).
-/

namespace Sys2Proof.Machine

/-- A filter that keeps every entry of a key keeps what the key finds. -/
theorem kvFind_filter {α : Type} {k : Nat} (p : Nat × α → Bool) (l : List (Nat × α)) (h : ∀ a, p (k, a) = true) : kvFind k (l.filter p) = kvFind k l := by
  induction l with
  | nil => rfl
  | cons x l ih =>
    obtain ⟨j, a⟩ := x
    by_cases hj : j = k
    · subst hj
      rw [List.filter_cons_of_pos (h a), kvFind, kvFind, if_pos rfl, if_pos rfl]
    · by_cases hp : p (j, a) = true
      · rw [List.filter_cons_of_pos hp, kvFind, kvFind, if_neg hj, if_neg hj, ih]
      · rw [List.filter_cons_of_neg hp, kvFind, if_neg hj, ih]

namespace State

/-! ### The variables at a boundary -/

/-! A boundary changes variables of a channel's period and the old dead-time values that a channel holds (R109, R115). Those come first in the store of variables, the latter for any set that a key can name. -/

/-- A value that is put under its key is a register's. -/
theorem v_putKey (s : State) (k n : Nat) (x : Var) (i : Nat) : (s.putKey k n).v x i = s.v x i := by
  unfold State.putKey; split <;> rfl

/-- The variables that hold old dead-time values come early. -/
theorem heldVar_ctorIdx {k : Nat} {y : Var} (hy : heldVar k = some y) : y.ctorIdx ≤ 23 := by
  unfold heldVar at hy
  split at hy
  · cases hy; decide
  · cases hy; decide
  · cases hy; decide
  · cases hy; decide
  · cases hy

section
variable {x : Var} (hx : 39 ≤ x.ctorIdx) {i : Nat}
include hx

/-- A channel that keeps an old dead-time value changes no later variable. -/
theorem v_takeDt (s : State) {c : Nat} (hc : c < 34) (k n : Nat) : (s.takeDt c k n).v x i = s.v x i := by
  unfold State.takeDt
  split
  case _ f y hf hy =>
    have hlow := heldVar_ctorIdx hy
    exact v_setV_key _ _ (by omega)
  · rfl

/-- A channel that drops its old dead-time values changes no later variable. -/
theorem v_dropHeld (s : State) (c : Nat) (hi : i < 1024) : (s.dropHeld c).v x i = s.v x i := by
  have hkept : ∀ n : Int, (fun y : Nat × Int => y.1 % 64 != c || !([Var.heldDtr, .heldDtf, .heldMinp, .heldMinoff].any (fun z => y.1 / 1024 == z.ctorIdx))) (x.ctorIdx * 1024 + i, n) = true := by
    intro n
    have hdiv : (x.ctorIdx * 1024 + i) / 1024 = x.ctorIdx := by omega
    have hne : [Var.heldDtr, .heldDtf, .heldMinp, .heldMinoff].any (fun z => x.ctorIdx == z.ctorIdx) = false := by
      have h1 : Var.heldDtr.ctorIdx = 20 := rfl
      have h2 : Var.heldDtf.ctorIdx = 21 := rfl
      have h3 : Var.heldMinp.ctorIdx = 22 := rfl
      have h4 : Var.heldMinoff.ctorIdx = 23 := rfl
      simp only [List.any_cons, List.any_nil, h1, h2, h3, h4, Bool.or_false, Bool.or_eq_false_iff, beq_eq_false_iff_ne]
      omega
    simp only [hdiv, hne, Bool.not_false, Bool.or_true]
  unfold State.v State.dropHeld
  exact congrArg (Option.getD · 0) (kvFind_filter _ _ hkept)

/-- A reload changes no later variable (R113, R115). -/
theorem v_applyArmed (s : State) {c : Nat} (hc : c < 34) (hi : i < 1024) : (s.applyArmed c).v x i = s.v x i := by
  unfold State.applyArmed
  extract_lets mine s0 s1 s2
  have h1 : s1.v x i = s.v x i := by
    refine foldl_keeps (P := fun t : State => t.v x i = s.v x i) _ (fun t a ht => ?_) mine s0 rfl
    split
    · exact (v_takeDt hx t hc ..).trans ht
    · exact (v_putKey t ..).trans ht
  have h2 : s2.v x i = s.v x i := by
    unfold s2; split <;> exact h1
  have other : ∀ {y : Var}, y.ctorIdx ≤ 23 → (s2.setV y c 0).v x i = s.v x i := fun hy => (v_setV_key _ _ (by omega)).trans h2
  split
  · exact other (by decide)
  · split
    · exact (v_dropHeld hx _ c hi).trans (other (by decide))
    · exact h2

/-- Whatever reaches the converters at the end of their cycle, a later variable stays (R84, R115). -/
theorem v_boundary (s : State) {r : Nat} (hr : 4 ≤ r) (hi : i < 1024) : (s.boundary r).v x i = s.v x i := by
  unfold State.boundary
  extract_lets mine s0 s1 s2
  have h1 : s1.v x i = s.v x i := by
    refine foldl_keeps (P := fun t : State => t.v x i = s.v x i) _ (fun t a ht => ?_) mine s0 rfl
    unfold State.reached
    split
    · exact ht
    · split
      · exact ht
      · exact (v_putKey t ..).trans ht
  rw [if_neg (by omega)]
  refine List.foldlRecOn (motive := fun t : State => t.v x i = s.v x i) _ _ h1 fun t ht c hc => ?_
  have hc34 : c < 34 := List.mem_range.1 (List.mem_of_mem_filter (List.mem_of_mem_filter hc))
  exact (v_applyArmed hx t hc34 hi).trans ht

end

/-- The end of the cycle counts it, and puts the schedule in force that SOLO names (R84, R88). -/
theorem cycleEnd_v (s : State) : s.cycleEnd.v .vscCycle = s.v .vscCycle + 1 ∧ s.cycleEnd.v .soloNow = b2n (s.on Reg.VSC_STATUS_SOLO) := by
  have past : ∀ (u : State) {x : Var} (n : Int), 39 ≤ x.ctorIdx → Var.vscBand.ctorIdx ≠ x.ctorIdx → ((u.boundary 5).setV .vscBand 0 n).v x = u.v x := fun u _ n hx hne =>
    (v_setV_ne _ n hne (by decide) (by decide)).trans (v_boundary hx u (by decide) (by decide))
  unfold State.cycleEnd
  refine ⟨(past _ _ (by decide) (by decide)).trans ?_, (past _ _ (by decide) (by decide)).trans (v_setV_same ..)⟩
  exact (v_setV_ne _ _ (by decide) (by decide) (by decide)).trans (v_setV_same ..)

/-! ### Conversions -/

/-- VSC_CONVERSION of a running block. -/
theorem exec_vscConversion {s : State} (hp : s.power = .running) (vb : Bool) (slot : Fin 16) (raw : BitVec 14) :
    exec (.vscConversion vb slot raw) s = .next (s.vscConvert vb slot raw.toNat).after :=
  act_after (f := fun u => u.vscConvert vb slot raw.toNat) hp

/-- The flag that a converter is bad (R88). -/
def badFld (vb : Bool) : Fld := if vb then Reg.VSC_STATUS_VBBAD else Reg.VSC_STATUS_VABAD

/-- A bad converter does nothing (R88). -/
theorem vscConvert_bad {s : State} {vb : Bool} (slot raw : Nat) (h : s.on (badFld vb) = true) : s.vscConvert vb slot raw = s := if_pos h

section
variable {s : State} {vb : Bool} (hbad : s.on (badFld vb) = false) (raw : Nat)
include hbad

/-- The source of a slot takes the result, unless the slot is empty or a calibration runs (R82, R99). -/
theorem vscConvert_slot {slot : Nat} {f : Fld} (hs : slot < 14) (hf : schedSlots[slot]? = some f) :
    s.vscConvert vb slot raw =
      let src := s.rd f ((if s.vOn .soloNow then 2 else 0) + b2n vb)
      if src = 0 ∨ 7 < src ∨ s.on Reg.CAL_STAT_BUSY = true then s else s.vscResult vb src (s.vscValue vb (if src = srcIib then sgn 14 raw else raw)) := by
  unfold State.vscConvert
  rw [if_neg (by rw [← badFld, hbad]; decide), if_pos hs, hf]

/-- Slot 14 is the self-check, which a calibration leaves out (R85, R86, R99). -/
theorem vscConvert_self : s.vscConvert vb 14 raw = if s.on Reg.CAL_STAT_BUSY then s else s.selfCheck vb (s.vscValue vb raw) := by
  unfold State.vscConvert
  rw [if_neg (by rw [← badFld, hbad]; decide), if_neg (by decide), if_pos rfl]

/-- Slot 15 of two converters is the cross-check, and VB's ends the cycle (R85, R86). -/
theorem vscConvert_cross (hsolo : s.on Reg.VSC_STATUS_SOLO = false) (hcal : s.on Reg.CAL_STAT_BUSY = false) :
    s.vscConvert vb 15 raw = if vb then (s.crossCheck vb (s.vscValue vb raw)).cycleEnd else s.crossCheck vb (s.vscValue vb raw) := by
  unfold State.vscConvert
  rw [if_neg (by rw [← badFld, hbad]; decide), if_neg (by decide), if_neg (by decide), hsolo, hcal]
  simp only [Bool.false_eq_true, false_or, if_false]

/-- Slot 15 of a lone converter ends the cycle, and no more (R88; the end of the cycle by log entries 77 and 49). -/
theorem vscConvert_alone (hsolo : s.on Reg.VSC_STATUS_SOLO = true) : s.vscConvert vb 15 raw = s.cycleEnd := by
  unfold State.vscConvert
  rw [if_neg (by rw [← badFld, hbad]; decide), if_neg (by decide), if_neg (by decide), hsolo]
  simp only [true_or, if_true]

end

/-- The slots that the schedules name are 0 to 13 (R83). -/
theorem schedSlots_lt {slot : Nat} {f : Fld} (h : schedSlots[slot]? = some f) : slot < 14 := (List.getElem?_eq_some_iff.1 h).1

/-- Before slot 15 a calibration takes no result (R99). -/
theorem vscConvert_calibrating {s : State} {vb : Bool} {slot : Nat} (raw : Nat) (hbad : s.on (badFld vb) = false) (hcal : s.on Reg.CAL_STAT_BUSY = true) (hs : slot < 15) : s.vscConvert vb slot raw = s := by
  rcases Nat.lt_or_eq_of_le (Nat.le_of_lt_succ hs) with h14 | rfl
  · have hf : schedSlots[slot]? = some schedSlots[slot] := List.getElem?_eq_getElem h14
    rw [vscConvert_slot hbad raw h14 hf]
    exact if_pos (.inr (.inr hcal))
  · rw [vscConvert_self hbad, if_pos hcal]

/-! ### Judgement -/

/-- JUDGEMENT_VERDICT of a running block, from eight readings. -/
theorem exec_judgementVerdict {s : State} (hp : s.power = .running) {l : List (BitVec 16)} (hl : l.length = 8) : exec (.judgementVerdict l) s = .next (s.verdict l).after :=
  (if_pos hl).trans (act_after (f := fun u => u.verdict l) hp)

/-- The check readings of a converter lie near the check tap's (R87). -/
def nearTap (s : State) (l : List (BitVec 16)) (x : Var) : Bool :=
  decide (((List.range 8).foldl (fun a i => a + s.v x i) 0 * 8000 - l.foldl (fun a x => a + x.toInt) 0 * 65536).natAbs ≤ 96 * 65536)

/-- Both converters are bad (R87). -/
def bothBad (s : State) : State := ((s.wr Reg.VSC_STATUS_VABAD 0 1).wr Reg.VSC_STATUS_VBBAD 0 1).wr Reg.VSC_STATUS_JUDGE 0 0

/-- A judgement that runs is decided by which converters lie near the tap (R87, R88, R309). -/
theorem verdict_eq {s : State} (l : List (BitVec 16)) (h : s.on Reg.VSC_STATUS_JUDGE = true) :
    s.verdict l = match s.nearTap l .chkVa, s.nearTap l .chkVb with
      | true, true => ((s.wr Reg.VSC_STATUS_UNRES 0 1).wr Reg.VSC_STATUS_MIS 0 0).wr Reg.VSC_STATUS_JUDGE 0 0
      | true, false => s.handOver true
      | false, true => s.handOver false
      | false, false => (s.bothBad.wr Reg.VSC_STATUS_SOLO 0 0).safestop 5 none := by
  unfold State.verdict
  rw [if_neg (by rw [h]; decide)]
  show (if s.nearTap l .chkVa && s.nearTap l .chkVb then _ else if s.nearTap l .chkVa then _ else if s.nearTap l .chkVb then _ else _) = _
  cases s.nearTap l .chkVa <;> cases s.nearTap l .chkVb <;> rfl

end State

end Sys2Proof.Machine

namespace Sys2Proof.Proofs

open Machine Machine.State

/-- Settles O21: each slot by what it converts, the end of the cycle by the variables that it sets and leaves, and the verdict by which converters lie near the tap; that a lone converter's slot 15 ends the cycle is the model's choice (log entries 77 and 49). -/
theorem voltageRowsAct : Obligations.VoltageRowsAct := by
  refine ⟨fun vb raw s hp => ⟨fun hbad slot => ?_, fun hbad => ⟨fun hcal slot f hf => ?_, fun hcal => ?_, fun hcal hsolo => ?_, fun hsolo => ?_, fun hcal slot hs => ?_⟩, fun hsrc => ?_, s.cycleEnd_v⟩,
    fun l s => ?_⟩
  · rw [exec_vscConversion hp, vscConvert_bad _ _ hbad]
  · intro k hlo hhi
    have hsrc : ¬ (s.rd f k = 0 ∨ 7 < s.rd f k ∨ s.on Reg.CAL_STAT_BUSY = true) := by
      unfold srcIib at hhi
      rw [hcal]
      simp only [Bool.false_eq_true, or_false]
      omega
    rw [exec_vscConversion hp, vscConvert_slot hbad _ (schedSlots_lt hf) hf]
    dsimp only
    rw [if_neg hsrc, if_neg (Nat.ne_of_lt hhi)]
  · rw [exec_vscConversion hp, show ((14 : Fin 16) : Nat) = 14 from rfl, vscConvert_self hbad, hcal, if_neg Bool.false_ne_true]
  · rw [exec_vscConversion hp, show ((15 : Fin 16) : Nat) = 15 from rfl, vscConvert_cross hbad _ hsolo hcal]
  · rw [exec_vscConversion hp, show ((15 : Fin 16) : Nat) = 15 from rfl, vscConvert_alone hbad _ hsolo]
  · rw [exec_vscConversion hp, vscConvert_calibrating _ hbad hcal hs]
  · have hrot : s.rotate = s.setV .chkRot 0 ((s.v .chkRot + 1) % 6) := if_pos hsrc
    rw [← hrot]
    exact act_after hp
  · intro h near
    refine ⟨fun hl => if_neg hl, fun hp hl hj => ?_⟩
    have yes : ∀ x, near x → s.nearTap l x = true := fun _ => decide_eq_true
    have no : ∀ x, ¬ near x → s.nearTap l x = false := fun _ => decide_eq_false
    rw [exec_judgementVerdict hp hl, verdict_eq l hj]
    exact ⟨fun ha hb => by rw [yes _ ha, yes _ hb], fun ha hb => by rw [yes _ ha, no _ hb], fun ha hb => by rw [no _ ha, yes _ hb], fun ha hb => by rw [no _ ha, no _ hb]; rfl⟩

end Sys2Proof.Proofs
end

section
/-!
PROOF. The slow converters: a housekeeping conversion outside the sensors, a sample of the coulomb counter, and a temperature that only warns (R92 to R95, R99, R101, R314, R316).
-/

namespace Sys2Proof.Machine.State

/-! ### Housekeeping -/

/-- HKA_CONVERSION of a running block. -/
theorem exec_hkaConversion {s : State} (hp : s.power = .running) (i : Fin 40) (x : Int) : exec (.hkaConversion i x) s = .next (s.hkaConvert i x).after :=
  act_after (f := fun u => u.hkaConvert i x) hp

/-- An input without weight takes no conversion, and none is taken while a calibration has the converter (R93, R94, R99). -/
theorem hkaConvert_none {s : State} {i : Nat} (x : Int) (h : s.rd Reg.HKA_WEIGHT i = 0 ∨ s.calStep 1200000 1520000 = true) : s.hkaConvert i x = s := if_pos h

/-- Outside the sensors' inputs a conversion counts as it is (R313). -/
theorem hkaValue_plain (s : State) {i : Nat} (x : Int) (hi : 9 ≤ i) : s.hkaValue i x = some x := by
  unfold State.hkaValue
  rw [if_neg (show ¬ (1 ≤ i ∧ i ≤ 8) by omega)]
  rfl

/-- A conversion of an input that is neither a sensor nor a reservoir temperature enters its result, the ground reading as 0, and counts (R92 to R94; the operand by log entry 77). -/
theorem hkaConvert_plain {s : State} {i : Nat} (x : Int) (hi : 11 ≤ i) (hw : s.rd Reg.HKA_WEIGHT i ≠ 0) (hcal : s.calStep 1200000 1520000 = false) :
    s.hkaConvert i x = (s.hkaResult i (if i = 39 then 0 else x)).hkaCount := by
  have hsensor : (i == 0 || (decide (i ≤ 8) && (s.rd Reg.HKA_TYPE i == 1 || s.rd Reg.HKA_TYPE i == 2))) = false := by
    rw [beq_false_of_ne (by omega), decide_eq_false (by omega)]; rfl
  unfold State.hkaConvert
  rw [if_neg (by simp [hw, hcal]), hsensor, hkaValue_plain s x (by omega)]
  dsimp only
  simp only [Bool.false_eq_true, if_false, if_neg (show ¬ i = 0 by omega), if_neg (show ¬ (i = 9 ∨ i = 10) by omega)]

/-! ### Coulomb counter -/

/-- CCT_SAMPLE of a running block. -/
theorem exec_cctSample {s : State} (hp : s.power = .running) (raw : BitVec 16) : exec (.cctSample raw) s = .next (s.cctSample raw.toInt).after :=
  act_after (f := fun u => u.cctSample raw.toInt) hp

/-- A counter that is off, or in its calibration step, takes no sample (R95, R99). -/
theorem cctSample_none {s : State} (raw : Int) (h : s.on Reg.CCT_CTL_EN = false ∨ s.calStep 1520000 1680000 = true) : s.cctSample raw = s :=
  if_pos (h.imp_left (fun e => by rw [e]; decide))

/-- A sample enters the accumulator of the counter. -/
def accumulated (s : State) (x : Int) : State :=
  ((s.setV .cctAcc 0 (sgn 48 (code 48 (s.v .cctAcc + x)))).setV .cctN 0 ((s.v .cctN + 1) % 2 ^ 32)).setV .cctLast 0 x

/-- The accumulator's variables are not the current's. -/
theorem accumulated_irvMa (s : State) (x : Int) : (s.accumulated x).v .irvMa = s.v .irvMa :=
  (v_setV_ne _ _ (by decide) (by decide) (by decide)).trans ((v_setV_ne _ _ (by decide) (by decide) (by decide)).trans (v_setV_ne _ _ (by decide) (by decide) (by decide)))

/-- A sample that is taken accumulates and counts, gives the current, and its users take it (R95, R101, R270, R271). -/
theorem cctSample_taken {s : State} (raw : Int) (hen : s.on Reg.CCT_CTL_EN = true) (hcal : s.calStep 1520000 1680000 = false) :
    s.cctSample raw =
      let x := s.cctValue raw
      let b := (s.accumulated x).setV .irvMa 0 (rdiv (x * 50000000) (32768 * (s.rd Reg.HAM_SHUNT_RRV : Int)))
      (((b.dcrStep (s.v .irvMa)).tailCheck).relaxCheck.capFeed 0x90 (code 16 x)).irq 64 := by
  extract_lets x b
  have hrow : s.cctSample raw = (((b.dcrStep ((s.accumulated x).v .irvMa)).tailCheck).relaxCheck.capFeed 0x90 (code 16 x)).irq 64 := by
    unfold State.cctSample
    rw [if_neg (by rw [hen, hcal]; decide)]
    rfl
  rw [hrow, accumulated_irvMa]

/-! ### Temperatures -/

/-- A temperature from the warning threshold on asserts a warning that does not stand (R314). -/
theorem warnStep_asserts {s : State} {i : Nat} {t w : Int} (h : Int) (hw : w ≤ t) (hoff : s.on Reg.THM_WARNA i = false) :
    s.warnStep i t w h = (((s.wr Reg.THM_WARNA i 1).wr Reg.THM_WARNF i 1).event 0x4001 1 (leBytes 1 i)).alertEvent 0x4001 := by
  unfold State.warnStep
  rw [if_pos hw, if_neg (by rw [hoff]; decide)]

/-- Below its threshold a throttle output that does not stand stays (R314). -/
theorem throttleStep_below {s : State} {i : Nat} {t thr : Int} (h : Int) (ht : t < thr) (hoff : s.on Reg.THM_THRA i = false) : s.throttleStep i t thr h = s := by
  unfold State.throttleStep
  rw [if_neg (by omega), if_neg (by rw [hoff]; simp)]

/-- Below its threshold a shutdown output stays, or clears (R314). -/
theorem shutdownStep_below (s : State) (i : Nat) {t sd : Int} (h : Int) (ht : t < sd) :
    s.shutdownStep i t sd h = s ∨ s.shutdownStep i t sd h = (s.wr Reg.THM_SDA i 0).setV .thmStartSd i 0 := by
  unfold State.shutdownStep
  rw [if_neg (by omega)]
  split
  · exact .inr rfl
  · exact .inl rfl

/-- What a warning alone makes of a sensor's fields (R314). -/
def warned (s : State) (i : Nat) (t : Int) : State :=
  (((((s.wrS Reg.THM_TEMP i t).wr Reg.THM_OPENF i 0).wr Reg.THM_WARNA i 1).wr Reg.THM_WARNF i 1).event 0x4001 1 (leBytes 1 i)).alertEvent 0x4001

section
variable {s : State} {i : Nat} (hi : i < 256) (t : Int)
include hi

/-- A warning leaves the fields that are not its own and not the recorder's. -/
theorem rd_warned {f : Fld} {j : Nat} (hf : f.base ∉ [Reg.THM_TEMP.base, Reg.THM_OPENF.base, Reg.THM_WARNA.base, Reg.THM_WARNF.base] ++ evrBases) (hj : j < 256) : (s.warned i t).rd f j = s.rd f j := by
  simp only [List.mem_append, List.mem_cons, List.not_mem_nil, or_false, not_or] at hf
  obtain ⟨⟨htemp, hopen, hwarn, hflag⟩, hevr⟩ := hf
  unfold State.warned
  rw [rd_alertEvent, rd_event _ _ _ _ hevr hj, rd_wr_ne _ _ (Ne.symm hflag) hi hj, rd_wr_ne _ _ (Ne.symm hwarn) hi hj, rd_wr_ne _ _ (Ne.symm hopen) hi hj, wrS_eq, rd_wr_ne _ _ (Ne.symm htemp) hi hj]

/-- A warning sets its output and its flag. -/
theorem warned_asserts : (s.warned i t).rd Reg.THM_WARNA i = 1 ∧ (s.warned i t).rd Reg.THM_WARNF i = 1 := by
  unfold State.warned
  rw [rd_alertEvent, rd_alertEvent, rd_event _ _ _ _ (by decide) hi, rd_event _ _ _ _ (by decide) hi, rd_wr_ne _ _ (by decide) hi hi, rd_wr_same, rd_wr_same]
  exact ⟨rfl, rfl⟩

end

/-- A temperature between the warning threshold and both others warns, and leaves the shutdown output off (R314, R316). -/
theorem thresholds_warns {s : State} {i : Nat} (hi : i < 256) {t : Int} (hwarn : s.on Reg.THM_WARNA i = false) (hthr : s.on Reg.THM_THRA i = false)
    (h1 : degOf (s.rd Reg.THM_WARN i) ≤ t) (h2 : t < degOf (s.rd Reg.THM_THR i)) (h3 : t < degOf (s.rd Reg.THM_SD i)) :
    s.thresholds i t = s.warned i t ∨ s.thresholds i t = ((s.warned i t).wr Reg.THM_SDA i 0).setV .thmStartSd i 0 := by
  have hbase : ∀ {f : Fld}, f.base ≠ Reg.THM_TEMP.base → f.base ≠ Reg.THM_OPENF.base → ((s.wrS Reg.THM_TEMP i t).wr Reg.THM_OPENF i 0).rd f i = s.rd f i := fun htemp hopen =>
    (rd_wr_ne _ _ (Ne.symm hopen) hi hi).trans (rd_wr_ne _ _ (Ne.symm htemp) hi hi)
  unfold State.thresholds
  extract_lets h u v w
  have hv : v = s.warned i t := by
    have hwarn' : u.on Reg.THM_WARNA i = false := by rw [on_eq, hbase (by decide) (by decide)]; exact hwarn
    have hle : degOf (u.rd Reg.THM_WARN i) ≤ t := by rw [hbase (by decide) (by decide)]; exact h1
    exact warnStep_asserts h hle hwarn'
  have hw : w = s.warned i t := by
    have hthr' : (s.warned i t).on Reg.THM_THRA i = false := by rw [on_eq, rd_warned hi t (by decide) hi]; exact hthr
    have hlt : t < degOf ((s.warned i t).rd Reg.THM_THR i) := by rw [rd_warned hi t (by decide) hi]; exact h2
    unfold w
    rw [hv]
    exact throttleStep_below h hlt hthr'
  rw [hw]
  exact shutdownStep_below _ i h (by rw [rd_warned hi t (by decide) hi]; exact h3)

end Sys2Proof.Machine.State

namespace Sys2Proof.Proofs

open Machine Machine.State

/-- Settles O22: the guards decide whether a conversion or a sample is taken, and a temperature between the thresholds passes the throttle and the shutdown by; that the operand of a housekeeping conversion is in its result format, and that its result and the counter's are taken outside their own steps of a calibration, is the model's choice (log entry 77). -/
theorem slowConvertersAct : Obligations.SlowConvertersAct := by
  refine ⟨fun s hp => ⟨fun i x hi hw hcal => ?_, fun i x h => ?_, fun raw hen hcal => ?_, fun raw h => ?_⟩, fun i t s hi hwarn hthr hsd h1 h2 h3 => ?_⟩
  · rw [exec_hkaConversion hp, hkaConvert_plain x hi hw hcal]
  · rw [exec_hkaConversion hp, hkaConvert_none x h]
  · rw [exec_cctSample hp, cctSample_taken raw.toInt hen hcal]; rfl
  · rw [exec_cctSample hp, cctSample_none raw.toInt h]
  · have hi' : i < 256 := by omega
    have off : ∀ {f : Fld}, s.on f i = false → s.rd f i = 0 := fun h => by simpa using h
    obtain ⟨hasserted, hflag⟩ := warned_asserts (s := s) hi' t
    have hthr0 : (s.warned i t).rd Reg.THM_THRA i = 0 := (rd_warned hi' t (by decide) hi').trans (off hthr)
    have hsd0 : (s.warned i t).rd Reg.THM_SDA i = 0 := (rd_warned hi' t (by decide) hi').trans (off hsd)
    have hcause : (s.warned i t).rd Reg.PROT_LATCH_CAUSE = s.rd Reg.PROT_LATCH_CAUSE := rd_warned hi' t (by decide) (by decide)
    rcases thresholds_warns hi' hwarn hthr h1 h2 h3 with e | e <;> rw [e]
    · exact ⟨hasserted, hflag, hthr0, hsd0, hcause⟩
    · have kept : ∀ {f : Fld} {j : Nat}, Reg.THM_SDA.base ≠ f.base → j < 256 → (((s.warned i t).wr Reg.THM_SDA i 0).setV .thmStartSd i 0).rd f j = (s.warned i t).rd f j := fun hf hj => rd_wr_ne _ _ hf hi' hj
      exact ⟨(kept (by decide) hi').trans hasserted, (kept (by decide) hi').trans hflag, (kept (by decide) hi').trans hthr0, rd_wr_same .., (kept (by decide) (by decide)).trans hcause⟩

end Sys2Proof.Proofs
end

section
/-!
PROOF. The end of a calibration, in a state whose characterisation has its turn at a number that no rail has (R99, R203).
-/

namespace Sys2Proof.Proofs

open Machine Machine.State

/-- A factor for each converter. -/
def calFactors : List CalFactor := List.replicate 38 ⟨0, 32768⟩

/-- A calibration that was aborted, while a characterisation has its turn at a number that no rail has: variables are kept by number and index, and the start of that rail has the place of the calibration's port. -/
def calEndsOutOfTurn : State :=
  { (((State.reset.wr Reg.CAL_STAT_BUSY 0 1).wr Reg.PHM_CHAR_RUN 0 1).setV .calStop 0 1).setV .charTurn 0 ((Var.calPort.ctorIdx - Var.onPub.ctorIdx) * 1024 + 1) with power := .running }

/-- The port of the calibration in the next state of an outcome. -/
def calPortAfter : Host.Outcome State Fault Refusal → Option Int
  | .next t => some (t.v .calPort)
  | _ => none

/-- Refutes O23, by its clause that a calibration's end clears `calPort`: it speaks of every state, and so of a turn of the characterisation far past the four rails, for which the published start overwrites that variable with 1. The model itself sets the turn to 0 to 4 only, so no run comes to this state. -/
theorem not_procedureEndsAct : ¬ Obligations.ProcedureEndsAct := by
  rintro ⟨hcal, -⟩
  obtain ⟨-, hends, -⟩ := hcal calFactors calEndsOutOfTurn
  obtain ⟨t, hexec, -, hport⟩ := hends rfl rfl (by decide +kernel)
  have shown : calPortAfter (exec (.calAdcDone calFactors) calEndsOutOfTurn) = some 1 := by decide +kernel
  have claimed : calPortAfter (exec (.calAdcDone calFactors) calEndsOutOfTurn) = some 0 := by rw [hexec, calPortAfter, hport]
  exact absurd (claimed.symm.trans shown) (by decide)

end Sys2Proof.Proofs
end

section
/-!
PROOF. The opcodes of the rails: what RAIL_ON, RAIL_OFF, SETV, SETSLEW, LOADLINE and RAIL_CFG do once their checks pass (R84, R138, R139, R159, R393 to R395).
-/

namespace Sys2Proof.Machine

/-- Checks of which none fails come to OK (R520). -/
theorem firstFail_ok {l : List (Bool × Nat)} (h : ∀ x ∈ l, x.1 = false) : firstFail l = stOk := by
  have hnone : l.find? (fun x => x.1) = none := List.find?_eq_none.2 fun x hx => by rw [h x hx]; decide
  unfold firstFail
  rw [hnone]

/-- The first check fails with its status (R520). -/
theorem firstFail_true (st : Nat) (l : List (Bool × Nat)) : firstFail ((true, st) :: l) = st := rfl

namespace State

/-! The queue of a session is no part of what the rail opcodes look at. -/

theorem taken_published (s : State) (p : Port) (f : Fld) (i : Nat) : (s.taken p).published f i = s.published f i := by cases p <;> rfl
theorem taken_slotCount (s : State) (p : Port) (n : Nat) : (s.taken p).slotCount n = s.slotCount n := by cases p <;> rfl
theorem taken_railOf (s : State) (p : Port) (c : Nat) : (s.taken p).railOf c = s.railOf c := by cases p <;> rfl
theorem taken_mapPrd (s : State) (p : Port) (l : List Nat) : (s.taken p).mapPrd l = s.mapPrd l := by cases p <;> rfl
theorem taken_phasesIn (s : State) (p : Port) (r k : Nat) : (s.taken p).phasesIn r k = s.phasesIn r k := by cases p <;> rfl

section
variable {t : State} (p : Port) {c : Cmd} (ho : c.obj = 0xFFFF) {r : Nat} (hf : fieldAt c.payload 0 1 = r) (hr : r < 4)
include ho hf hr

/-! ### RAIL_ON and RAIL_OFF -/

/-- RAIL_ON of a rail that may start ends an INTERMISSION, stages the start and waits (R47, R84, R395). -/
theorem railOnBody_stages (hlen : c.payload.length = 1) (hloop : t.rd Reg.SYS_BOOT_LOOPSTAT < 2) (hm : railOnModes.contains t.mode = true) (hlive : t.railLive r = false)
    (hfault : t.railState r ≠ railFaultOff) (hslot : t.slotCount (r + 1) ≠ 0) :
    t.railOnBody p c = ({ t.interTrigger.setV .onStaged r 1 with railWaits := t.interTrigger.railWaits ++ [⟨r, true, p.idx + 1, c.tag⟩] }, stAccepted, []) := by
  have hcheck : firstFail [(c.payload.length != 1 || c.obj != 0xFFFF, stBadParam), (decide (2 ≤ t.rd Reg.SYS_BOOT_LOOPSTAT), stVersion), (decide (4 ≤ r), stBadParam),
      (!railOnModes.contains t.mode, stWrongMode), (t.railLive r, stBusy), (t.railState r == railFaultOff, stWrongMode), (t.slotCount (r + 1) == 0, stConflict)] = stOk := by
    rw [hlen, ho, decide_eq_false (by omega), decide_eq_false (by omega), hm, hlive, beq_false_of_ne hfault, beq_false_of_ne hslot]
    rfl
  unfold State.railOnBody
  dsimp only
  rw [hf, hcheck, if_neg (not_not.2 rfl)]
  rfl

/-- RAIL_OFF is refused in FAULTOFF, takes back a staged RAIL_ON of a rail that is off, leaves a rail that ramps down, and stages the stop of any other (R146, R395). -/
theorem railOffBody_eq (hlen : c.payload.length = 1) (hm : modesCfg.contains t.mode = true) :
    t.railOffBody p c =
      if t.railState r = railFaultOff then (t, stWrongMode, [])
      else if t.railState r = railDisabled then (if t.vn .onStaged r = 1 then t.unstageOn r 0x0E else t, stOk, [])
      else if t.rampingDown r = true then (t, stOk, [])
      else ({ t.setV .onStaged r 2 with railWaits := t.railWaits ++ [⟨r, false, p.idx + 1, c.tag⟩] }, stAccepted, []) := by
  have hcheck : checkCmd c (decide (c.payload.length = 1)) (decide (r < 4)) modesCfg t = stOk := checkCmd_ok (decide_eq_true hlen) ho (decide_eq_true hr) hm
  unfold State.railOffBody
  dsimp only
  rw [hf, hcheck, if_neg (not_not.2 rfl)]
  rfl

/-! ### SETV, SETSLEW, LOADLINE -/

/-- SETV is in conflict with a rail that follows the Cue, and else stages a target inside the rail's limits (R138, R139). -/
theorem setvBody_eq (hlen : c.payload.length = 3) (hm : modesCfg.contains t.mode = true) {x : Nat} (hv : fieldAt c.payload 1 2 = x) (hx : x ≤ 3200)
    (hin : t.published Reg.LE_VSRC r ≠ 1 → t.stg Reg.LE_VMIN r ≤ x ∧ x ≤ t.stg Reg.LE_VMAX r) :
    t.setvBody p c = if t.published Reg.LE_VSRC r = 1 then (t, stConflict, []) else (t.stage Reg.LE_VTGT r x, stOk, []) := by
  have hcheck : checkCmd c (decide (c.payload.length = 3)) (decide (r < 4) && decide (x ≤ 3200)) modesCfg t = stOk := checkCmd_ok (decide_eq_true hlen) ho (by simp [hr, hx]) hm
  unfold State.setvBody
  dsimp only
  rw [hf, hv, hcheck, if_neg (not_not.2 rfl)]
  by_cases hsrc : t.published Reg.LE_VSRC r = 1
  · rw [if_pos hsrc, hsrc, show ((1 : Nat) == 1) = true from rfl, firstFail_true]
    rfl
  · obtain ⟨hlo, hhi⟩ := hin hsrc
    rw [if_neg hsrc, beq_false_of_ne hsrc, decide_eq_true hlo, decide_eq_true hhi]
    rfl

/-- SETSLEW stages the slew (R159, R395). -/
theorem setslewBody_stages (hlen : c.payload.length = 3) (hm : modesCfg.contains t.mode = true) {x : Nat} (hv : fieldAt c.payload 1 2 = x) (hlo : 1 ≤ x) (hhi : x ≤ 1000) :
    t.setslewBody p c = (t.stage Reg.LE_SLEW r x, stOk, []) := by
  have hcheck : checkCmd c (decide (c.payload.length = 3)) (decide (r < 4) && decide (1 ≤ x) && decide (x ≤ 1000)) modesCfg t = stOk := checkCmd_ok (decide_eq_true hlen) ho (by simp [hr, hlo, hhi]) hm
  unfold State.setslewBody
  dsimp only
  rw [hf, hv, hcheck]
  rfl

/-- LOADLINE writes its coefficient in both halves of the rail's block, with no swap under way (R159, R395). -/
theorem loadlineBody_stages (hlen : c.payload.length = 3) (hm : modesCfg.contains t.mode = true) {x : Nat} (hv : fieldAt c.payload 1 2 = x) (hx : x ≤ 2000) (hswap : t.on Reg.LE_CTL_SWPEND = false) :
    t.loadlineBody p c = ((t.loadCoefs (coefBase r + 0x08) [rllCode x]).loadCoefs (coefBase r + 0x38) [rllCode x], stOk, []) := by
  have hcheck : checkCmd c (decide (c.payload.length = 3)) (decide (r < 4) && decide (x ≤ 2000)) modesCfg t = stOk := checkCmd_ok (decide_eq_true hlen) ho (by simp [hr, hx]) hm
  unfold State.loadlineBody
  dsimp only
  rw [hf, hv, hcheck, hswap]
  rfl

end

/-! ### RAIL_CFG -/

/-- A RAIL_CFG gives the phases itself (R393). -/
def cfgGiven (pl : List Byte) : Bool := fieldAt pl 2 4 != 0

/-- The half-period that a RAIL_CFG asks for (R104, R393). -/
def cfgPrd (pl : List Byte) : Nat := (rdiv 400000000 (fieldAt pl 10 4)).toNat

/-- The phases that a RAIL_CFG is about: those it gives, or those of the rail as it stands staged. -/
def cfgPhases (t : State) (pl : List Byte) (ustudy : Bool) : List Nat :=
  if cfgGiven pl then maskList 32 (fieldAt pl (if ustudy then 6 else 2) 4) else t.stgPhases (fieldAt pl 0 1) ustudy

/-- The coefficients of a RAIL_CFG: its own, or designed from its plant (R393, R394). -/
def cfgCodes (t : State) (pl : List Byte) : List Int :=
  if bit (fieldAt pl 1 1) 2 then directCodes pl else designCodes (plantOf pl) (t.cfgPhases pl false).length (if bit (fieldAt pl 1 1) 3 then 8 else 16)

/-- Nothing in the state of the part keeps a RAIL_CFG from being staged (R84, R112, R120, R122, R135, R393, R394). -/
structure CfgReady (t : State) (pl : List Byte) : Prop where
  off : t.railState (fieldAt pl 0 1) = railDisabled
  notStaged : t.vn .onStaged (fieldAt pl 0 1) ≠ 1
  notPublished : t.vn .onPub (fieldAt pl 0 1) ≠ 1
  noSwap : t.on Reg.LE_CTL_SWPEND = false
  map : cfgGiven pl = true → t.mapStatus (fieldAt pl 0 1) (t.cfgPhases pl false) (t.cfgPhases pl true) 0 0 (cfgPrd pl) = stOk
  layout : t.atPref (cfgPrd pl) = true ∨ layoutOk (t.cfgPhases pl false) (t.cfgPhases pl true) = true
  sched : t.schedClash (fieldAt pl 0 1) = false
  prd : ∀ c ∈ t.cfgPhases pl false ++ t.cfgPhases pl true, t.prdOk c (cfgPrd pl) = true
  design : bit (fieldAt pl 1 1) 2 = false → t.cfgPhases pl false ≠ [] ∧ fcAboveF0 (plantOf pl) (t.cfgPhases pl false).length = true
  law : lawCodesOk (t.cfgCodes pl) = true
  inter : lawCodesOk (interHalf (t.cfgCodes pl)) = true

/-- No check of RAIL_CFG that looks at the state fails (R520). -/
theorem CfgReady.status {t : State} {pl : List Byte} (h : t.CfgReady pl) :
    firstFail
      [(t.railState (fieldAt pl 0 1) != railDisabled || t.vn .onStaged (fieldAt pl 0 1) == 1 || t.vn .onPub (fieldAt pl 0 1) == 1 || t.on Reg.LE_CTL_SWPEND, stBusy),
       (cfgGiven pl && t.mapStatus (fieldAt pl 0 1) (t.cfgPhases pl false) (t.cfgPhases pl true) 0 0 (cfgPrd pl) != stOk,
         t.mapStatus (fieldAt pl 0 1) (t.cfgPhases pl false) (t.cfgPhases pl true) 0 0 (cfgPrd pl)),
       (!t.atPref (cfgPrd pl) && !layoutOk (t.cfgPhases pl false) (t.cfgPhases pl true), stConflict), (t.schedClash (fieldAt pl 0 1), stConflict),
       ((t.cfgPhases pl false ++ t.cfgPhases pl true).any (fun c => !t.prdOk c (cfgPrd pl)), stBadParam),
       (!bit (fieldAt pl 1 1) 2 && ((t.cfgPhases pl false).isEmpty || !fcAboveF0 (plantOf pl) (t.cfgPhases pl false).length), stBadParam),
       (!(lawCodesOk (t.cfgCodes pl) && lawCodesOk (interHalf (t.cfgCodes pl))), stBadParam)] = stOk := by
  have hbusy : (t.railState (fieldAt pl 0 1) != railDisabled || t.vn .onStaged (fieldAt pl 0 1) == 1 || t.vn .onPub (fieldAt pl 0 1) == 1 || t.on Reg.LE_CTL_SWPEND) = false := by
    rw [h.off, beq_false_of_ne h.notStaged, beq_false_of_ne h.notPublished, h.noSwap]; rfl
  have hmap : (cfgGiven pl && t.mapStatus (fieldAt pl 0 1) (t.cfgPhases pl false) (t.cfgPhases pl true) 0 0 (cfgPrd pl) != stOk) = false := by
    cases hg : cfgGiven pl with
    | false => rfl
    | true => rw [h.map hg]; rfl
  have hlayout : (!t.atPref (cfgPrd pl) && !layoutOk (t.cfgPhases pl false) (t.cfgPhases pl true)) = false := by
    rcases h.layout with e | e <;> rw [e] <;> simp
  have hprd : (t.cfgPhases pl false ++ t.cfgPhases pl true).any (fun c => !t.prdOk c (cfgPrd pl)) = false := by
    simpa only [List.any_eq_false, Bool.not_eq_true', Bool.not_eq_false] using h.prd
  have hdesign : (!bit (fieldAt pl 1 1) 2 && ((t.cfgPhases pl false).isEmpty || !fcAboveF0 (plantOf pl) (t.cfgPhases pl false).length)) = false := by
    cases hd : bit (fieldAt pl 1 1) 2 with
    | true => rfl
    | false =>
      obtain ⟨hne, hfc⟩ := h.design hd
      rw [hfc, List.isEmpty_eq_false_iff.2 hne]; rfl
  rw [hbusy, hmap, hlayout, h.sched, hprd, hdesign, h.law, h.inter]
  rfl

/-- A RAIL_CFG that nothing keeps back stages the phases or their synchronisation, the schedule and the frame, and loads the law (R84, R159, R393, R394). -/
theorem railCfgBody_stages {t : State} (p : Port) {c : Cmd} (ho : c.obj = 0xFFFF) (hlen : c.payload.length = if bit (fieldAt c.payload 1 1) 2 then 84 else 48) (hok : cfgFieldsOk c.payload = true)
    (hm : modesCfg.contains t.mode = true) (h : t.CfgReady c.payload) :
    t.railCfgBody p c =
      let r := fieldAt c.payload 0 1
      let a := if cfgGiven c.payload then t.stageMap r (t.cfgPhases c.payload false) (t.cfgPhases c.payload true) 0 0 (cfgPrd c.payload)
        else t.stageSync r (t.cfgPhases c.payload false) (t.cfgPhases c.payload true) (cfgPrd c.payload)
      (((frameValues c.payload).foldl (fun u x => u.stage x.1 r x.2) (a.stageSched r (bit (fieldAt c.payload 1 1) 3))).loadLaw r (t.cfgCodes c.payload), stOk, []) := by
  have hcheck : checkCmd c (decide (c.payload.length = if bit (fieldAt c.payload 1 1) 2 then 84 else 48)) (cfgFieldsOk c.payload) modesCfg t = stOk := checkCmd_ok (decide_eq_true hlen) ho hok hm
  unfold State.railCfgBody
  dsimp only
  rw [hcheck, if_neg (not_not.2 rfl)]
  exact if_neg (not_not.2 h.status)

end State

end Sys2Proof.Machine
end

section
/-!
PROOF. The opcodes of the phases: what PHASE_MAP, SHED_POLICY and UNDERSTUDY do once their checks pass (R181, R183, R194, R208, R396).
-/

namespace Sys2Proof.Machine.State

/-! ### PHASE_MAP and SHED_POLICY -/

/-- PHASE_MAP stages a set that nothing refuses (R181, R396). -/
theorem phaseMapBody_stages {t : State} (p : Port) {c : Cmd} (ho : c.obj = 0xFFFF) (hm : modesCfg.contains t.mode = true) (hlen : c.payload.length = 15) (hr : fieldAt c.payload 0 1 < 4) {own us : List Nat}
    (hown : maskList 32 (fieldAt c.payload 1 4) = own) (hus : maskList 32 (fieldAt c.payload 5 4) = us) (hdisj : ∀ x ∈ own, x ∉ us)
    (hst : t.mapStatus (fieldAt c.payload 0 1) own us (fieldAt c.payload 9 2) (fieldAt c.payload 11 4) (t.mapPrd own) = stOk) :
    t.phaseMapBody p c = (t.stageMap (fieldAt c.payload 0 1) own us (fieldAt c.payload 9 2) (fieldAt c.payload 11 4) (t.mapPrd own), stOk, []) := by
  have hany : own.any us.contains = false := by simpa only [List.any_eq_false, List.contains_iff_mem] using hdisj
  have hcheck : checkCmd c (decide (c.payload.length = 15)) (decide (fieldAt c.payload 0 1 < 4) && !own.any us.contains) modesCfg t = stOk :=
    checkCmd_ok (decide_eq_true hlen) ho (by rw [hany, decide_eq_true hr]; rfl) hm
  unfold State.phaseMapBody
  dsimp only
  rw [hown, hus, hcheck, if_pos rfl, hst]
  rfl

/-- SHED_POLICY writes the words of its rail's object (R208, R396). -/
theorem shedPolicyBody_writes {t : State} (p : Port) {c : Cmd} (ho : c.obj = 0xFFFF) (hm : modesCfg.contains t.mode = true) (hlen : c.payload.length = 13) (hr : fieldAt c.payload 0 1 < 4) {o : Obj}
    (hobj : findObj (0x0714 + fieldAt c.payload 0 1) = some o) (hf : fieldsOk (0x0714 + fieldAt c.payload 0 1) o o.base (leWords (c.payload.drop 1)) = true) :
    t.shedPolicyBody p c = (t.writeObj o o.base (leWords (c.payload.drop 1)), stOk, []) := by
  have hcheck : checkCmd c (decide (c.payload.length = 13)) (decide (fieldAt c.payload 0 1 < 4) && fieldsOk (0x0714 + fieldAt c.payload 0 1) o o.base (leWords (c.payload.drop 1))) modesCfg t = stOk :=
    checkCmd_ok (decide_eq_true hlen) ho (by rw [hf, decide_eq_true hr]; rfl) hm
  unfold State.shedPolicyBody
  dsimp only
  rw [hobj]
  dsimp only
  rw [hcheck]
  rfl

/-! ### UNDERSTUDY -/

/-- The non-understudies of a rail beside one phase, as they stand staged. -/
def ownBeside (t : State) (r ch : Nat) : List Nat := (t.stgPhases r false).filter (fun c => c != ch)

/-- The understudies of a rail with one phase more or less, as they stand staged. -/
def ustudiesWith (t : State) (r ch : Nat) (add : Bool) : List Nat := (List.range 32).filter (fun c => if c = ch then add else (t.stgPhases r true).contains c)

/-- A change of the understudies that the layout and the pairing allow is staged, within a staged map if there is one (R122, R181, R183). -/
theorem changeUstudy_stages {t : State} {r ch : Nat} {add : Bool} (hlayout : t.atPref (t.mapPrd (t.ownBeside r ch)) = true ∨ layoutOk (t.ownBeside r ch) (t.ustudiesWith r ch add) = true)
    (hpair : add = true → ch % 2 = 0 ∨ t.stg Reg.PWM_OUTM (ch - 1) ≠ 1) (hown : t.ownBeside r ch ≠ [] ∨ t.ustudiesWith r ch add = []) :
    t.changeUstudy r ch add =
      let a := if add then t.stageJoin r ch true else t.stageFree ch
      (if a.vOn .mapStaged r = true then a.stageSync r (t.ownBeside r ch) (t.ustudiesWith r ch add) (t.mapPrd (t.ownBeside r ch))
        else if add then a.stageUstudy r ch (t.ownBeside r ch) (t.ustudiesWith r ch add) (t.mapPrd (t.ownBeside r ch)) else a, stOk, []) := by
  have h1 : (!t.atPref (t.mapPrd (t.ownBeside r ch)) && !layoutOk (t.ownBeside r ch) (t.ustudiesWith r ch add)) = false := by
    rcases hlayout with e | e <;> rw [e] <;> simp
  have h2 : (add && decide (ch % 2 = 1) && t.stg Reg.PWM_OUTM (ch - 1) == 1) = false := by
    cases add with
    | false => rfl
    | true =>
      rcases hpair rfl with e | e
      · rw [e]; rfl
      · rw [beq_false_of_ne e, Bool.and_false]
  have h3 : ((t.ownBeside r ch).isEmpty && !(t.ustudiesWith r ch add).isEmpty) = false := by
    rcases hown with e | e
    · rw [List.isEmpty_eq_false_iff.2 e]; rfl
    · rw [e]; simp
  have hst : firstFail [(!t.atPref (t.mapPrd (t.ownBeside r ch)) && !layoutOk (t.ownBeside r ch) (t.ustudiesWith r ch add), stConflict), (add && decide (ch % 2 = 1) && t.stg Reg.PWM_OUTM (ch - 1) == 1, stConflict),
      ((t.ownBeside r ch).isEmpty && !(t.ustudiesWith r ch add).isEmpty, stBadParam)] = stOk := by
    rw [h1, h2, h3]; rfl
  exact if_neg (not_not.2 hst)

section
variable {t : State} (p : Port) {c : Cmd} {b r ch : Byte} (ho : c.obj = 0xFFFF) (hm : modesCfg.contains t.mode = true) (hpl : c.payload = [b, r, ch]) (hr : r.toNat < 4) (hch : ch.toNat < 32)

/-- The operands of UNDERSTUDY stand behind its action (R396). -/
theorem ustudy_fields (hpl : c.payload = [b, r, ch]) : fieldAt c.payload 1 1 = r.toNat ∧ fieldAt c.payload 2 1 = ch.toNat := by
  rw [hpl]; exact ⟨fieldAt_byte [b] [ch] r, fieldAt_byte [b, r] [] ch⟩

include ho hm hpl hr hch

/-- What UNDERSTUDY names passes its check (R384). -/
theorem ustudyCheck_ok : t.ustudyCheck c = stOk := by
  obtain ⟨hfr, hfch⟩ := ustudy_fields hpl
  exact checkCmd_ok (by rw [hpl]; rfl) ho (by rw [hfr, hfch, decide_eq_true hr, decide_eq_true hch]; rfl) hm

/-- A phase that is live on a rail is in conflict (R183). -/
theorem ustudyName_live (hrole : t.rd Reg.PHM_ROLE ch.toNat = 1 ∨ t.rd Reg.PHM_ROLE ch.toNat = 2) {q : Nat} (hq : t.railOf ch.toNat = some q) (hs : t.railState q ≠ railDisabled) :
    t.ustudyName p c = (t, stConflict, []) := by
  obtain ⟨-, hfch⟩ := ustudy_fields hpl
  have hlive : (t.rd Reg.PHM_ROLE ch.toNat == 1 || t.rd Reg.PHM_ROLE ch.toNat == 2) = true := by rcases hrole with e | e <;> rw [e] <;> rfl
  unfold State.ustudyName
  dsimp only
  rw [ustudyCheck_ok ho hm hpl hr hch, if_neg (not_not.2 rfl), hfch, hlive, hq]
  exact if_pos (bne_iff_ne.2 hs)

/-- A phase that is not live stays where it is a waiting understudy of the rail already, is in conflict where another rail holds it, and else joins (R183). -/
theorem ustudyName_idle (h1 : t.rd Reg.PHM_ROLE ch.toNat ≠ 1) (h2 : t.rd Reg.PHM_ROLE ch.toNat ≠ 2) :
    t.ustudyName p c = if (t.stgPhases r.toNat true).contains ch.toNat = true then (t, stOk, []) else if t.heldElsewhere r.toNat ch.toNat = true then (t, stConflict, []) else t.changeUstudy r.toNat ch.toNat true := by
  obtain ⟨hfr, hfch⟩ := ustudy_fields hpl
  unfold State.ustudyName
  dsimp only
  rw [ustudyCheck_ok ho hm hpl hr hch, if_neg (not_not.2 rfl), hfch, hfr, beq_false_of_ne h1, beq_false_of_ne h2]
  rfl

/-- Only a waiting understudy of the rail is withdrawn (R183). -/
theorem ustudyWithdraw_eq :
    t.ustudyWithdraw p c = if ¬ (t.stgPhases r.toNat true).contains ch.toNat = true ∨ t.rd Reg.PHM_ROLE ch.toNat = 1 ∨ t.rd Reg.PHM_ROLE ch.toNat = 2 then (t, stOk, []) else t.changeUstudy r.toNat ch.toNat false := by
  obtain ⟨hfr, hfch⟩ := ustudy_fields hpl
  unfold State.ustudyWithdraw
  dsimp only
  rw [ustudyCheck_ok ho hm hpl hr hch, if_neg (not_not.2 rfl), hfch, hfr]

/-- A live phase of a rail in REGULATE that has an understudy retires as a failed one (R183, R194). -/
theorem ustudyRetire_fails (hu : t.understudies r.toNat ≠ []) (hlive : (t.active r.toNat).contains ch.toNat = true ∨ (t.parked r.toNat).contains ch.toNat = true) (hs : t.railState r.toNat = railRegulate) :
    t.ustudyRetire p c = (t.declareFailed ch.toNat 6, stOk, []) := by
  obtain ⟨hfr, hfch⟩ := ustudy_fields hpl
  have hst : firstFail [((t.understudies r.toNat).isEmpty, stConflict), (!((t.active r.toNat).contains ch.toNat || (t.parked r.toNat).contains ch.toNat), stBadParam),
      (t.railState r.toNat == railRamp || t.railState r.toNat == railHiccup, stBusy), (t.railState r.toNat != railRegulate, stWrongMode)] = stOk := by
    rw [List.isEmpty_eq_false_iff.2 hu, Bool.or_eq_true_iff.2 hlive, hs]; rfl
  unfold State.ustudyRetire
  dsimp only
  rw [ustudyCheck_ok ho hm hpl hr hch, if_neg (not_not.2 rfl), hfch, hfr, hst]
  rfl

end

end Sys2Proof.Machine.State

namespace Sys2Proof.Proofs

open Machine Machine.State

/-- Settles O51: each opcode's checks pass or fail as the state says, and its body stages what its operands name; that a rail takes several waiting commands (log entry 40), that a withdrawn understudy is released by what is staged (log entry 37), and what a change of an understudy stages with no map staged (log entry 80), are the model's choices. -/
theorem railOpcodesRun : Obligations.RailOpcodesRun := by
  refine ⟨fun p h pl s ho => ?_, fun p h pl s ho hm => ?_⟩
  · intro f r hr
    have mode (l : List Nat) (hm : l.contains s.mode = true) : l.contains (s.taken p).mode = true := by rw [Laws.taken_mode]; exact hm
    have field (c : Cmd) (hcpl : c.payload = pl) : fieldAt c.payload 0 1 = r := congrArg (fieldAt · 0 1) hcpl
    have off (c : Cmd) (hcpl : c.payload = pl) (hobj : c.obj = 0xFFFF) (hlen : pl.length = 1) (hm : modesCfg.contains s.mode = true) := railOffBody_eq p hobj (field c hcpl) hr (hcpl ▸ hlen) (mode _ hm)
    refine ⟨fun hlen hloop hm hlive hfault hslot => ?_, fun hlen hm hfault hoff hdown => ?_, fun hlen hm hoff hon => ?_, fun hlen hm hoff hon => ?_, fun hlen hm hfault hoff hdown => ?_, fun hlen hm hfault => ?_,
      fun hlen hm hv hsrc hlo hhi => ?_, fun hlen hm hv hsrc => ?_, fun hlen hm hlo hhi => ?_, fun hlen hm hv hswap => ?_, ?_⟩
    · refine runs_of_noObject ho (f := State.railOnBody) rfl fun c hcpl hobj => railOnBody_stages p hobj (field c hcpl) hr (hcpl ▸ hlen) ?_ (mode _ hm) ?_ ?_ ?_
      · rw [Laws.taken_rd]; exact hloop
      · rw [Laws.taken_railLive]; exact hlive
      · rw [Laws.taken_railState]; exact hfault
      · rw [taken_slotCount]; exact hslot
    · refine runs_of_noObject ho (f := State.railOffBody) rfl fun c hcpl hobj => ?_
      rw [off c hcpl hobj hlen hm, Laws.taken_railState, Laws.taken_rampingDown, if_neg hfault, if_neg hoff, if_neg (by rw [hdown]; decide)]
    · refine runs_of_noObject ho (f := State.railOffBody) rfl fun c hcpl hobj => ?_
      rw [off c hcpl hobj hlen hm, Laws.taken_railState, Laws.taken_vn, if_neg (by rw [hoff]; decide), if_pos hoff, if_neg hon]
    · refine runs_of_noObject ho (f := State.railOffBody) rfl fun c hcpl hobj => ?_
      rw [off c hcpl hobj hlen hm, Laws.taken_railState, Laws.taken_vn, if_neg (by rw [hoff]; decide), if_pos hoff, if_pos hon]
    · refine runs_of_noObject ho (f := State.railOffBody) rfl fun c hcpl hobj => ?_
      rw [off c hcpl hobj hlen hm, Laws.taken_railState, Laws.taken_rampingDown, if_neg hfault, if_neg hoff, if_pos hdown]
    · refine runs_of_noObject ho (f := State.railOffBody) rfl fun c hcpl hobj => ?_
      rw [off c hcpl hobj hlen hm, Laws.taken_railState, if_pos hfault]
    · refine runs_of_noObject ho (f := State.setvBody) rfl fun c hcpl hobj => ?_
      rw [setvBody_eq p hobj (field c hcpl) hr (hcpl ▸ hlen) (mode _ hm) (congrArg (fieldAt · 1 2) hcpl) hv (fun _ => by rw [Laws.taken_stg, Laws.taken_stg]; exact ⟨hlo, hhi⟩), taken_published, if_neg hsrc]
    · refine runs_of_noObject ho (f := State.setvBody) rfl fun c hcpl hobj => ?_
      rw [setvBody_eq p hobj (field c hcpl) hr (hcpl ▸ hlen) (mode _ hm) (congrArg (fieldAt · 1 2) hcpl) hv (fun hne => absurd ((taken_published ..).trans hsrc) hne), taken_published, if_pos hsrc]
    · exact runs_of_noObject ho (f := State.setslewBody) rfl fun c hcpl hobj => setslewBody_stages p hobj (field c hcpl) hr (hcpl ▸ hlen) (mode _ hm) (congrArg (fieldAt · 1 2) hcpl) hlo hhi
    · exact runs_of_noObject ho (f := State.loadlineBody) rfl fun c hcpl hobj =>
        loadlineBody_stages p hobj (field c hcpl) hr (hcpl ▸ hlen) (mode _ hm) (congrArg (fieldAt · 1 2) hcpl) hv ((Laws.taken_on ..).trans hswap)
    · intro direct two prd given t own us codes hlen hok hm hoff hon hpub hswap hmap hlayout hclash hprd hdesign hlaw hinter
      have ready : t.CfgReady pl := ⟨(Laws.taken_railState ..).trans hoff, by rw [Laws.taken_vn]; exact hon, by rw [Laws.taken_vn]; exact hpub, (Laws.taken_on ..).trans hswap, hmap, hlayout, hclash, hprd, hdesign, hlaw, hinter⟩
      refine runs_of_noObject ho (f := State.railCfgBody) rfl fun c hcpl hobj => ?_
      subst hcpl
      exact railCfgBody_stages p hobj hlen hok (mode _ hm) ready
  · have hmT : modesCfg.contains (s.taken p).mode = true := by rw [Laws.taken_mode]; exact hm
    refine ⟨?_, fun o hlen hr hobj hf => ?_, fun r ch hr hch => ?_⟩
    · intro f own us hlen hr hdisj hst
      refine runs_of_noObject ho (f := State.phaseMapBody) rfl fun c hcpl hobj => ?_
      subst hcpl
      exact phaseMapBody_stages p hobj hmT hlen hr rfl rfl hdisj (by rw [taken_mapPrd]; exact hst)
    · refine runs_of_noObject ho (f := State.shedPolicyBody) rfl fun c hcpl hcobj => ?_
      subst hcpl
      exact shedPolicyBody_writes p hcobj hmT hlen hr hobj hf
    · intro t own us
      have role (k : Nat) (hk : s.rd Reg.PHM_ROLE ch.toNat ≠ k) : t.rd Reg.PHM_ROLE ch.toNat ≠ k := by rw [Laws.taken_rd]; exact hk
      refine ⟨fun hrole ⟨q, hq, hs⟩ => ?_, fun hin h1 h2 => ?_, fun hout h1 h2 hheld hlayout hpair hown => ?_, fun hstay => ?_, fun hin h1 h2 => ?_, fun hu hlive hs => ?_⟩
      · refine runs_of_noObject ho (f := State.ustudyName) rfl fun c hcpl hobj => ustudyName_live p hobj hmT hcpl hr hch ?_ ((taken_railOf ..).trans hq) ?_
        · rw [Laws.taken_rd]; exact hrole
        · rw [Laws.taken_railState]; exact hs
      · refine runs_of_noObject ho (f := State.ustudyName) rfl fun c hcpl hobj => ?_
        rw [ustudyName_idle p hobj hmT hcpl hr hch (role 1 h1) (role 2 h2), if_pos hin]
      · refine runs_of_noObject ho (f := State.ustudyName) rfl fun c hcpl hobj => ?_
        rw [ustudyName_idle p hobj hmT hcpl hr hch (role 1 h1) (role 2 h2), if_neg (by rw [hout]; decide), if_neg (by rw [hheld]; decide)]
        exact changeUstudy_stages hlayout (fun _ => by rw [Laws.taken_stg]; exact hpair) (.inl hown)
      · refine runs_of_noObject ho (f := State.ustudyWithdraw) rfl fun c hcpl hobj => ?_
        rw [ustudyWithdraw_eq p hobj hmT hcpl hr hch, Laws.taken_rd]
        exact if_pos (hstay.imp_left (fun e => by rw [e]; decide))
      · intro left hlayout hown
        have hwaits : ¬ (¬ (t.stgPhases r.toNat true).contains ch.toNat = true ∨ t.rd Reg.PHM_ROLE ch.toNat = 1 ∨ t.rd Reg.PHM_ROLE ch.toNat = 2) := by
          rintro (h | h | h)
          · exact h hin
          · exact role 1 h1 h
          · exact role 2 h2 h
        refine runs_of_noObject ho (f := State.ustudyWithdraw) rfl fun c hcpl hobj => ?_
        rw [ustudyWithdraw_eq p hobj hmT hcpl hr hch, if_neg hwaits]
        exact changeUstudy_stages hlayout nofun hown
      · refine runs_of_noObject ho (f := State.ustudyRetire) rfl fun c hcpl hobj => ustudyRetire_fails p hobj hmT hcpl hr hch ?_ ?_ ((Laws.taken_railState ..).trans hs)
        · unfold State.understudies; rw [taken_phasesIn]; exact hu
        · unfold State.active State.parked; rw [taken_phasesIn, taken_phasesIn]; exact hlive

end Sys2Proof.Proofs
end

section
/-!
PROOF. Reloads and peak reloads of a channel: whose boundary comes before the channel's own reload, and what a peak reload makes of the pulse (R113 to R115, R117).
-/

namespace Sys2Proof.Machine.State

/-- PWM_RELOAD of a running block. -/
theorem exec_pwmReload {s : State} (hp : s.power = .running) (c : Chan) : exec (.pwmReload c) s = .next (s.reload c).after :=
  act_after (f := fun u => u.reload c) hp

/-- PWM_PEAK_RELOAD of a running block. -/
theorem exec_pwmPeakReload {s : State} (hp : s.power = .running) (c : Chan) : exec (.pwmPeakReload c) s = .next (s.peakReload c).after :=
  act_after (f := fun u => u.peakReload c) hp

/-! ### Reloads -/

/-- A stopped carrier has no reload (R113). -/
theorem reload_stopped {s : State} {c : Nat} (h : s.on Reg.PWM_CEN c = false) : s.reload c = s := if_neg (by rw [h]; decide)

section
variable {s : State} {c : Nat} (hen : s.on Reg.PWM_CEN c = true)
include hen

/-- H0's reload is the boundary of the Hamper (R115, R249). -/
theorem reload_h0 (hc : c = 32) : s.reload c = (s.tripDue c (2 * s.half c)).h0Reload.channelReload c := by
  unfold State.reload
  rw [if_pos hen]
  exact congrArg (channelReload · c) (if_pos hc)

/-- A main channel that leads its rail brings the rail's boundary first (R115). -/
theorem reload_lead {r : Nat} (hc : c < 32) (hr : (s.tripDue c (2 * s.half c)).railOf c = some r) (hlt : r < 4) (hl : (s.tripDue c (2 * s.half c)).lead r = some c) :
    s.reload c = ((s.tripDue c (2 * s.half c)).railBoundary r).channelReload c := by
  unfold State.reload
  dsimp only
  rw [if_pos hen, if_neg (by omega), hr]
  exact congrArg (channelReload · c) (if_pos ⟨hlt, hl⟩)

/-- A channel that leads no rail reloads for itself alone (R113). -/
theorem reload_alone (hc : c ≠ 32) (h : ∀ r, (s.tripDue c (2 * s.half c)).railOf c = some r → (s.tripDue c (2 * s.half c)).lead r ≠ some c ∨ 4 ≤ r) :
    s.reload c = (s.tripDue c (2 * s.half c)).channelReload c := by
  unfold State.reload
  dsimp only
  rw [if_pos hen, if_neg hc]
  cases hr : (s.tripDue c (2 * s.half c)).railOf c with
  | none => rfl
  | some r =>
    have hno : ¬ (r < 4 ∧ (s.tripDue c (2 * s.half c)).lead r = some c) := fun ⟨hlt, hl⟩ => (h r hr).elim (· hl) (by omega)
    exact congrArg (channelReload · c) (if_neg hno)

end

/-! ### Peak reloads -/

/-- The fields that a half-period in force is read from (R105, R120). -/
def halfBases : List Nat := [Reg.PWM_SYNCSEL.base, Reg.PWM_PRD.base, Reg.PWM_REF_PRD.base]

/-- Another field has no part in the half-period that a channel takes. -/
theorem srcHalf_wr (s : State) {f : Fld} {i : Nat} (n : Nat) (hf : f.base ∉ halfBases) (hi : i < 256) : ∀ c < 256, (s.wr f i n).srcHalf c = s.srcHalf c := by
  simp only [halfBases, List.mem_cons, List.not_mem_nil, or_false, not_or] at hf
  obtain ⟨hsel, hprd, href⟩ := hf
  have hpref : (s.wr f i n).prefHalf = s.prefHalf := by
    unfold State.prefHalf; rw [rd_wr_ne s n href hi (by decide)]; rfl
  intro c hc
  induction c with
  | zero => unfold State.srcHalf; rw [rd_wr_ne s n hsel hi hc, rd_wr_ne s n hprd hi hc, hpref]
  | succ c ih => unfold State.srcHalf; rw [rd_wr_ne s n hsel hi hc, rd_wr_ne s n hprd hi hc, hpref, ih (by omega)]; rfl

/-- Nor in the half-period in force. -/
theorem half_wr (s : State) {f : Fld} {i c : Nat} (n : Nat) (hf : f.base ∉ halfBases) (hi : i < 256) (hc : c < 256) : (s.wr f i n).half c = s.half c := by
  unfold State.half; rw [srcHalf_wr s n hf hi c hc]; rfl

@[simp] theorem setFall_regs (s : State) (c wf : Nat) : (s.setFall c wf).regs = s.regs := rfl

/-- A new falling half sets its own edge, counted from the middle of the period (R106). -/
theorem v_setFall_edgeEf (s : State) {c : Nat} (wf : Nat) (hc : c < 1024) : (s.setFall c wf).v .edgeEf c = 256 * (s.half c : Int) + wf := by
  unfold State.setFall
  rw [v_setV_ne _ _ (by decide) hc hc, v_setV_ne _ _ (by decide) hc hc, v_setV_ne _ _ (by decide) hc hc, v_setV_same]

/-- It leaves the rise of the pulse alone. -/
theorem v_setFall_riseAt (s : State) {c : Nat} (wf : Nat) (hc : c < 1024) : (s.setFall c wf).v .riseAt c = s.v .riseAt c := by
  unfold State.setFall
  rw [v_setV_ne _ _ (by decide) hc hc, v_setV_ne _ _ (by decide) hc hc, v_setV_ne _ _ (by decide) hc hc, v_setV_ne _ _ (by decide) hc hc]

/-- The falling half that a width in the shadow gives a pulse whose rising half stands (R114). -/
def peakFall (s : State) (c : Nat) : Nat :=
  min (max (s.rd Reg.PWM_WSH c - s.vn .pulseWr c) (s.floorW c - s.vn .pulseWr c)) (s.maxW c - s.vn .pulseWr c)

/-- The pulse with that falling half; the shadow holds nothing new (R114). -/
def peakTaken (s : State) (c : Nat) : State :=
  ((s.wr Reg.PWM_WACT c (s.vn .pulseWr c + s.peakFall c)).setFall c (s.peakFall c)).setV .shadowNew c 0

/-- On a stopped carrier, or without a new width, a peak reload does nothing (R114). -/
theorem peakReload_none {s : State} {c : Nat} (h : s.on Reg.PWM_CEN c = false ∨ s.vOn .shadowNew c = false) : s.peakReload c = s :=
  if_pos (h.imp (fun h => by rw [h]; decide) fun h => .inr (.inl (by rw [h]; decide)))

/-- A peak reload that comes before the rise can no longer be changed takes the new width (R114). -/
theorem peakReload_taken {s : State} {c : Nat} (hen : s.on Reg.PWM_CEN c = true) (hrld : s.on Reg.PWM_RLDM c = true) (hnew : s.vOn .shadowNew c = true) (hact : s.rd Reg.PWM_WACT c ≠ 0)
    (htrip : s.vOn .tripLatch c = false) (hrise : s.v .edgeEr c + 16 * (s.dt Reg.PWM_DT_DTR c : Int) ≤ 256 * ((s.half c : Int) - 2)) : s.peakReload c = s.peakTaken c := by
  unfold State.peakReload
  rw [if_neg (by rw [hen, hrld, hnew, htrip]; simp [hact, hrise])]
  rfl

theorem rd_peakTaken_wact (s : State) (c : Nat) : (s.peakTaken c).rd Reg.PWM_WACT c = (s.vn .pulseWr c + s.peakFall c) % 2 ^ Reg.PWM_WACT.width := by
  unfold State.peakTaken
  rw [rd_setV, rd_of_regs (setFall_regs ..), rd_wr_same]

theorem v_peakTaken_edgeEf (s : State) {c : Nat} (hc : c < 34) : (s.peakTaken c).v .edgeEf c = 256 * (s.half c : Int) + s.peakFall c := by
  unfold State.peakTaken
  rw [v_setV_ne _ _ (by decide) (by omega) (by omega), v_setFall_edgeEf _ _ (by omega), half_wr _ _ (by decide) (by omega) (by omega)]

theorem v_peakTaken_riseAt (s : State) {c : Nat} (hc : c < 34) : (s.peakTaken c).v .riseAt c = s.v .riseAt c := by
  unfold State.peakTaken
  rw [v_setV_ne _ _ (by decide) (by omega) (by omega), v_setFall_riseAt _ _ (by omega), v_wr]

end Sys2Proof.Machine.State

namespace Sys2Proof.Proofs

open Machine Machine.State

/-- Settles O16: which boundary comes first is read off the channel and its rail at the end of the period, and a peak reload that takes a width writes the falling half alone. -/
theorem reloadsAct : Obligations.ReloadsAct := by
  intro c s hp u
  refine ⟨fun hen hc => ?_, fun r hen hc hr hlt hl => ?_, fun hen hc h => ?_, fun hoff => ⟨?_, ?_⟩, fun hold => ?_, fun hen hrld hnew hact htrip hrise => ?_⟩
  · rw [exec_pwmReload hp, reload_h0 hen hc, ← hc]
  · rw [exec_pwmReload hp, reload_lead hen hc hr hlt hl]
  · rw [exec_pwmReload hp, reload_alone hen hc h]
  · rw [exec_pwmReload hp, reload_stopped hoff]
  · rw [exec_pwmPeakReload hp, peakReload_none (.inl hoff)]
  · rw [exec_pwmPeakReload hp, peakReload_none (.inr hold)]
  · intro wr wf
    refine ⟨_, exec_pwmPeakReload hp c, ?_⟩
    rw [peakReload_taken hen hrld hnew hact htrip hrise]
    exact ⟨(after_rd _ (by decide) (by decide) (by omega)).trans (s.rd_peakTaken_wact c), (after_v _ (by decide) (by omega)).trans (s.v_peakTaken_edgeEf c.isLt),
      (after_v _ (by decide) (by omega)).trans (s.v_peakTaken_riseAt c.isLt), (after_v _ (by decide) (by omega)).trans (v_setV_same ..)⟩

end Sys2Proof.Proofs
end

section
/-!
PROOF. The pulse-floor policy, in a state whose store holds a number that a field has no room for (R109, R110).
-/

namespace Sys2Proof.Machine.State

/-- The state whose store holds `x` for a field, not cut to the field's width as a write would. -/
def withRaw (s : State) (f : Fld) (i x : Nat) : State := { s with regs := kvPut (f.key i) x s.regs }

end Sys2Proof.Machine.State

namespace Sys2Proof.Proofs

open Machine Machine.State

/-- A live channel 0 under DEFER that carries 20000 over. -/
def deferring : State :=
  ((((State.reset.wr Reg.PWM_CEN 0 1).wr Reg.PWM_OST 0 ostLive).wr Reg.PWM_PFP 0 2).wr Reg.PWM_ACC 0 20000).setV .halfNow 0 1000

/-- The same with a dead-time set so far past the sixteen that the place of its DTR is that of the channel's own ACC: fields are kept by place and index. -/
def deferringBeyondSets : State := deferring.withRaw Reg.PWM_DTBAND 0 (Reg.PWM_ACC.key 0 - Reg.PWM_DT_DTR.key 0)

/-- Refutes O17, by its clause for DEFER: it speaks of every state, and so of one whose floor is read from ACC, which the reload clears before it compares, so that the pulse passes. The model itself writes DTBAND in its three bits, so no run comes to this state. -/
theorem not_pulseFloorPolicy : ¬ Obligations.PulseFloorPolicy := by
  intro h
  obtain ⟨-, -, -, hdefer⟩ := h 0 deferringBeyondSets (by decide +kernel) (by decide +kernel) (by decide +kernel) (by decide +kernel) (by decide +kernel) (by decide +kernel)
  obtain ⟨hdropped, -⟩ := hdefer (by decide +kernel) (by decide +kernel)
  have shown : (deferringBeyondSets.reloadWidth 0).rd Reg.PWM_WACT 0 = 20000 := by decide +kernel
  exact absurd (hdropped.symm.trans shown) (by decide)

end Sys2Proof.Proofs
end

section
/-!
PROOF. A trip of a phase, in a state whose store holds a rail that does not exist (R116, R306).
-/

namespace Sys2Proof.Proofs

open Machine Machine.State

/-- A live channel 0 of rail A with a pulse from tick 0 to tick 20, which the asynchronous path may trip. -/
def pulsing : State :=
  (((({ State.reset with power := .running }.wr Reg.PWM_CEN 0 1).wr Reg.PWM_OST 0 ostLive).wr Reg.PWM_TRIPSEL 0 1).wr Reg.PHM_ASSIGN 0 1).setV .fallAt 0 320

/-- The same of a rail with so high a number that the place of its mark for a tripped period is that of the pulse's fall: variables are kept by number and index. -/
def pulsingBeyondRails : State := pulsing.withRaw Reg.PHM_RAIL 0 ((Var.fallAt.ctorIdx - Var.railTripped.ctorIdx) * 1024)

/-- The fall of channel 0's pulse in the next state of an outcome. -/
def fallAfter : Host.Outcome State Fault Refusal → Option Int
  | .next t => some (t.v .fallAt 0)
  | _ => none

/-- Refutes O18, by its clause that a trip of a pulse under way ends it there and then: it speaks of every state, and so of a phase of a rail far past the four, the mark of whose tripped period overwrites the fall with 1. The model itself writes RAIL in its two bits, so no run comes to this state. -/
theorem not_tripRowsAct : ¬ Obligations.TripRowsAct := by
  rintro ⟨htrip, -⟩
  obtain ⟨hends, -⟩ := htrip 0 .asynchronous 1 pulsingBeyondRails rfl (by decide +kernel) (.inl rfl)
  obtain ⟨t, hexec, -, -, -, -, -, hunder, -⟩ := hends (by decide +kernel) (by decide +kernel) (by decide +kernel) (by decide)
  obtain ⟨hfall, -⟩ := hunder (by decide +kernel) (by decide +kernel)
  have shown : fallAfter (exec (.pwmTrip 0 .asynchronous 1) pulsingBeyondRails) = some 1 := by decide +kernel
  have claimed : fallAfter (exec (.pwmTrip 0 .asynchronous 1) pulsingBeyondRails) = some 16 := by rw [hexec, fallAfter]; exact congrArg some hfall
  exact absurd (claimed.symm.trans shown) (by decide)

end Sys2Proof.Proofs
end

section
/-!
PROOF. Synchronisation: how far a carrier slews, what each SYNCI edge makes of the period measured, and the loss of the edges (R121, R123, R124); and the fine-delay line (R108).
-/

namespace Sys2Proof.Machine.State

/-- SYNC_EVENT of a running block. -/
theorem exec_syncEvent {s : State} (hp : s.power = .running) (c : Chan) (carrier : BitVec 13) : exec (.syncEvent c carrier) s = .next (s.syncEvent c carrier.toNat).after :=
  act_after (f := fun u => u.syncEvent c carrier.toNat) hp

/-- SYNCI_EDGE of a running block. -/
theorem exec_synciEdge {s : State} (hp : s.power = .running) (carrier : BitVec 13) (t : Nat) : exec (.synciEdge carrier t) s = .next (s.synciEdge carrier.toNat t).after :=
  act_after (f := fun u => u.synciEdge carrier.toNat t) hp

/-- SYNCI_LOSS of a running block. -/
theorem exec_synciLoss {s : State} (hp : s.power = .running) : exec .synciLoss s = .next s.synciLoss.after := act_after (f := State.synciLoss) hp

/-- FINE_DELAY_MEASURE of a running block, with one tap per code. -/
theorem exec_fineDelayMeasure {s : State} (hp : s.power = .running) (c : Chan) {m : List Byte} (hm : m.length = 16) : exec (.fineDelayMeasure c m) s = .next (s.fineDelay c m).after :=
  (if_pos hm).trans (act_after (f := fun u => u.fineDelay c m) hp)

/-- FDSTALE_TIMEOUT of a running block. -/
theorem exec_fdstaleTimeout {s : State} (hp : s.power = .running) (c : Chan) : exec (.fdstaleTimeout c) s = .next (s.fdStale c).after :=
  act_after (f := fun u => u.fdStale c) hp

/-! ### Slewing -/

/-- How long a slew step is: the phase error or a sixteenth of the period, whichever is less, cut to an even number of ticks (R121). -/
theorem natAbs_slewStep {n : Int} (d : Int) (hn : 0 ≤ n) : (slewStep n d).natAbs = min d.natAbs (n.toNat / 16) / 2 * 2 := by
  unfold slewStep
  dsimp only
  split <;> omega

/-- It is an even number of ticks, so it moves the half-period by whole ones. -/
theorem slewStep_even {n : Int} (d : Int) (hn : 0 ≤ n) : slewStep n d % 2 = 0 := by
  have h := natAbs_slewStep d hn
  omega

/-- The period grows only where the carrier is ahead, and shrinks only where it is behind (R121). -/
theorem slewStep_sign {n : Int} (d : Int) (hn : 0 ≤ n) : (0 < slewStep n d → 0 < d) ∧ (slewStep n d < 0 → d < 0) := by
  unfold slewStep
  dsimp only
  split <;> omega

/-- How far a carrier lies past PHSV at a sync event, wrapped to half a period (R121). -/
def carrierError (s : State) (c carrier : Nat) : Int :=
  let n : Int := 2 * s.half c
  let d0 : Int := ((carrier : Int) - s.rd Reg.PWM_PHSV c) % n
  if n < 2 * d0 then d0 - n else d0

/-- A sync event of a running, synchronised channel snaps its carrier or slews it (R121). -/
theorem syncEvent_eq {s : State} {c : Nat} (carrier : Nat) (hen : s.on Reg.PWM_CEN c = true) (hsel : s.rd Reg.PWM_SYNCSEL c ≠ 0) (hh : 0 < s.half c) :
    s.syncEvent c carrier = if (s.carrierError c carrier).natAbs ≤ 2 then (s.setV .slewAdj c 0).wr Reg.PWM_SLEWING c 0
      else (s.setV .slewAdj c (slewStep (2 * s.half c) (s.carrierError c carrier))).wr Reg.PWM_SLEWING c 1 := by
  have hn : (2 * s.half c : Int) ≠ 0 := by omega
  unfold State.syncEvent
  rw [if_neg (by rw [hen]; simp [hsel])]
  dsimp only
  rw [if_neg hn]
  rfl

/-! ### Edges of SYNCI -/

/-- The period that an edge at tick `t` ends. -/
def synciPeriod (s : State) (t : Nat) : Nat := t + 1 - s.vn .synciLast

/-- An edge that ends a period keeps its tick and the period measured (R123). -/
def synciMeasured (s : State) (t : Nat) : State :=
  ((s.setV .synciLast 0 (t + 1)).setV .synciM 0 (s.synciPeriod t)).wr Reg.PWM_SYNCST_MEAS 0 (s.synciPeriod t)

/-- The period lies in the range that PREF can take, and has not jumped (R123, R124). -/
def synciSteady (s : State) (t : Nat) : Prop :=
  266 ≤ s.synciPeriod t ∧ s.synciPeriod t ≤ 5334 ∧ (s.vn .synciM = 0 ∨ 100 * ((s.synciPeriod t : Int) - s.vn .synciM).natAbs ≤ s.vn .synciM)

/-- PREF takes a period of `m` ticks, with a correction for a phase `err` ticks off (R121, R123). -/
def synciTracked (s : State) (m : Nat) (err : Int) : State :=
  let near := decide (err.natAbs ≤ 2)
  let base := (m + 1) / 2
  let s := ((s.setV .prefBase 0 base).setV .prefHalf 0 (base + (if near then 0 else slewStep m err / 2))).setV .synciErr 0 err
  (s.wrB Reg.PWM_SYNCST_SLEWING 0 (!near)).setV .synciIn 0 (if near then min (s.v .synciIn + 1) 8 else 0)

/-- LOCK rises with source 14 when eight periods in a row lay inside the window (R124). -/
def synciLockCheck (s : State) : State := if 8 ≤ s.vn .synciIn ∧ ¬ s.on Reg.PWM_SYNCST_LOCK then (s.wr Reg.PWM_SYNCST_LOCK 0 1).irq 14 else s

section
variable {s : State} (hon : s.rd Reg.PWM_REF_SYNCIM = 1) (carrier t : Nat)
include hon

/-- The first edge is remembered (R123). -/
theorem synciEdge_first (h : s.vn .synciLast = 0) : s.synciEdge carrier t = s.setV .synciLast 0 (t + 1) := by
  unfold State.synciEdge
  rw [if_neg (not_not.2 hon)]
  exact if_pos h

/-- A period out of range is a loss (R124). -/
theorem synciEdge_outOfRange (h : s.vn .synciLast ≠ 0) (hm : s.synciPeriod t < 266 ∨ 5334 < s.synciPeriod t) : s.synciEdge carrier t = (s.synciMeasured t).synciLost true := by
  have hout : (decide (266 ≤ s.synciPeriod t) && decide (s.synciPeriod t ≤ 5334)) = false := by
    simp only [Bool.and_eq_false_iff, decide_eq_false_iff_not]; omega
  unfold State.synciEdge
  rw [if_neg (not_not.2 hon)]
  dsimp only
  rw [if_neg h, ← synciPeriod, hout, if_pos (.inl Bool.false_ne_true)]
  rfl

/-- A steady period counts, and from the eighth on PREF takes it (R123). -/
theorem synciEdge_steady (h : s.vn .synciLast ≠ 0) (hs : s.synciSteady t) :
    s.synciEdge carrier t =
      let k := (s.synciMeasured t).vn .synciValid + 1
      let u := (s.synciMeasured t).setV .synciValid 0 (min k 8)
      if k < 8 then u else (u.synciTracked (s.synciPeriod t) (u.synciError (s.synciPeriod t) carrier)).synciLockCheck := by
  obtain ⟨hlo, hhi, hjump⟩ := hs
  have hin : (decide (266 ≤ s.synciPeriod t) && decide (s.synciPeriod t ≤ 5334)) = true := by
    rw [decide_eq_true hlo, decide_eq_true hhi]; rfl
  have hsteady : ¬ (s.vn .synciM ≠ 0 ∧ s.vn .synciM < 100 * ((s.synciPeriod t : Int) - s.vn .synciM).natAbs) := by omega
  unfold State.synciEdge
  rw [if_neg (not_not.2 hon)]
  dsimp only
  rw [if_neg h, ← synciPeriod, hin, if_neg (by rintro (h | h); exacts [h rfl, hsteady h])]
  rfl

end

/-! ### What an edge leaves -/

@[simp] theorem synciLockCheck_vars (s : State) : s.synciLockCheck.vars = s.vars := by
  unfold State.synciLockCheck; split
  · exact irq_vars ..
  · rfl

/-- Looking for the lock changes no field but LOCK. -/
theorem rd_synciLockCheck (s : State) {f : Fld} {i : Nat} (h : f.base ≠ Reg.PWM_SYNCST_LOCK.base) (hi : i < 256) : s.synciLockCheck.rd f i = s.rd f i := by
  unfold State.synciLockCheck; split
  · exact (rd_irq ..).trans (rd_wr_ne _ _ (Ne.symm h) (by decide) hi)
  · rfl

/-- Taking a period changes no field but SLEWING. -/
theorem rd_synciTracked (s : State) (m : Nat) (err : Int) {f : Fld} {i : Nat} (h : f.base ≠ Reg.PWM_SYNCST_SLEWING.base) (hi : i < 256) : (s.synciTracked m err).rd f i = s.rd f i :=
  (rd_setV ..).trans (rd_wr_ne _ _ (Ne.symm h) (by decide) hi)

theorem rd_synciTracked_slewing (s : State) (m : Nat) (err : Int) : (s.synciTracked m err).rd Reg.PWM_SYNCST_SLEWING = b2n (!decide (err.natAbs ≤ 2)) := by
  have hfit : ∀ b : Bool, b2n b % 2 = b2n b := by decide
  exact (rd_setV ..).trans ((rd_wr_same ..).trans (hfit _))

theorem v_synciTracked_prefBase (s : State) (m : Nat) (err : Int) : (s.synciTracked m err).v .prefBase = ((m + 1) / 2 : Nat) := by
  unfold State.synciTracked
  rw [v_setV_ne _ _ (by decide) (by decide) (by decide), wrB_eq, v_wr, v_setV_ne _ _ (by decide) (by decide) (by decide), v_setV_ne _ _ (by decide) (by decide) (by decide), v_setV_same]

theorem v_synciTracked_prefHalf (s : State) (m : Nat) (err : Int) :
    (s.synciTracked m err).v .prefHalf = ((m + 1) / 2 : Nat) + (if err.natAbs ≤ 2 then 0 else slewStep m err / 2) := by
  unfold State.synciTracked
  rw [v_setV_ne _ _ (by decide) (by decide) (by decide), wrB_eq, v_wr, v_setV_ne _ _ (by decide) (by decide) (by decide), v_setV_same]
  simp only [decide_eq_true_eq]

theorem rd_synciMeasured_meas (s : State) {t : Nat} (h : s.synciPeriod t ≤ 5334) : (s.synciMeasured t).rd Reg.PWM_SYNCST_MEAS = s.synciPeriod t :=
  (rd_wr_same ..).trans (Nat.mod_eq_of_lt (h.trans_lt (by decide)))

/-- The measurement leaves the variables of PREF and the count of valid periods alone. -/
theorem v_synciMeasured (s : State) (t : Nat) {x : Var} (h1 : Var.synciLast.ctorIdx ≠ x.ctorIdx) (h2 : Var.synciM.ctorIdx ≠ x.ctorIdx) : (s.synciMeasured t).v x = s.v x := by
  unfold State.synciMeasured
  rw [v_wr, v_setV_ne _ _ h2 (by decide) (by decide), v_setV_ne _ _ h1 (by decide) (by decide)]

theorem vn_synciMeasured_valid (s : State) (t : Nat) : (s.synciMeasured t).vn .synciValid = s.vn .synciValid := congrArg Int.toNat (s.v_synciMeasured t (by decide) (by decide))

theorem v_synciMeasured_last (s : State) (t : Nat) : (s.synciMeasured t).v .synciLast = t + 1 := by
  unfold State.synciMeasured
  rw [v_wr, v_setV_ne _ _ (by decide) (by decide) (by decide), v_setV_same]

/-- The phase error is that of the edge, whatever the edge has written before. -/
theorem synciError_measured (s : State) (t : Nat) (n : Int) (m carrier : Nat) : ((s.synciMeasured t).setV .synciValid 0 n).synciError m carrier = s.synciError m carrier := by
  have h : ((s.synciMeasured t).setV .synciValid 0 n).rd Reg.PWM_REF_SYNCPH = s.rd Reg.PWM_REF_SYNCPH :=
    (rd_setV ..).trans ((rd_wr_ne _ _ (by decide) (by decide) (by decide)).trans (rd_of_regs rfl ..))
  unfold State.synciError
  rw [h]

section
variable {s : State} (hon : s.rd Reg.PWM_REF_SYNCIM = 1) (carrier : Nat) {t : Nat} (h : s.vn .synciLast ≠ 0) (hs : s.synciSteady t)
include hon h hs

/-- The first seven steady periods only count (R124). -/
theorem synciEdge_early (hk : s.vn .synciValid < 7) : s.synciEdge carrier t = (s.synciMeasured t).setV .synciValid 0 (s.vn .synciValid + 1) := by
  have hmin : (min ((s.vn .synciValid + 1 : Nat) : Int) 8) = s.vn .synciValid + 1 := by omega
  rw [synciEdge_steady hon carrier t h hs, vn_synciMeasured_valid]
  dsimp only
  rw [if_pos (by omega), hmin]

/-- From the eighth on PREF takes the period (R123). -/
theorem synciEdge_tracks (hk : 7 ≤ s.vn .synciValid) :
    s.synciEdge carrier t = (((s.synciMeasured t).setV .synciValid 0 8).synciTracked (s.synciPeriod t) (s.synciError (s.synciPeriod t) carrier)).synciLockCheck := by
  have hmin : (min ((s.vn .synciValid + 1 : Nat) : Int) 8) = 8 := by omega
  rw [synciEdge_steady hon carrier t h hs, vn_synciMeasured_valid]
  dsimp only
  rw [if_neg (by omega), hmin, synciError_measured]

end

/-! ### Losses -/

/-- The registers of a loss before its record: LOCK falls, LOSTF rises, and RANGEF with it for a period out of range (R124). -/
theorem rd_synciLost (s : State) (range : Bool) {f : Fld} (h : f.base ∉ evrBases) :
    (s.synciLost range).rd f = (let u := (s.wr Reg.PWM_SYNCST_LOCK 0 0).wr Reg.PWM_SYNCST_LOSTF 0 1
      if range then u.wr Reg.PWM_SYNCST_RANGEF 0 1 else u).rd f :=
  rd_event _ _ _ _ h (by decide)

theorem rd_synciLost_lock (s : State) (range : Bool) : (s.synciLost range).rd Reg.PWM_SYNCST_LOCK = 0 := by
  rw [rd_synciLost s range (by decide)]
  dsimp only
  split
  · rw [rd_wr_ne _ _ (by decide) (by decide) (by decide), rd_wr_ne _ _ (by decide) (by decide) (by decide)]; exact rd_wr_same ..
  · rw [rd_wr_ne _ _ (by decide) (by decide) (by decide)]; exact rd_wr_same ..

theorem rd_synciLost_lostf (s : State) (range : Bool) : (s.synciLost range).rd Reg.PWM_SYNCST_LOSTF = 1 := by
  rw [rd_synciLost s range (by decide)]
  dsimp only
  split
  · rw [rd_wr_ne _ _ (by decide) (by decide) (by decide)]; exact rd_wr_same ..
  · exact rd_wr_same ..

theorem rd_synciLost_rangef (s : State) : (s.synciLost true).rd Reg.PWM_SYNCST_RANGEF = 1 := (rd_synciLost s true (by decide)).trans (rd_wr_same ..)

/-- PREF goes on at the last tracked period (R124). -/
theorem v_synciLost_prefHalf (s : State) (range : Bool) : (s.synciLost range).v .prefHalf = s.v .prefBase := by
  unfold State.synciLost
  rw [v_event, v_setV_same]
  split <;> rfl

theorem v_synciLost_valid (s : State) (range : Bool) : (s.synciLost range).v .synciValid = 0 := by
  unfold State.synciLost
  rw [v_event, v_setV_ne _ _ (by decide) (by decide) (by decide), v_setV_ne _ _ (by decide) (by decide) (by decide), v_setV_same]

/-- Edges that stay away are a loss, and the next one is the first again (R124). -/
theorem synciLoss_eq {s : State} (hon : s.rd Reg.PWM_REF_SYNCIM = 1) (h : s.vn .synciLast ≠ 0) : s.synciLoss = (s.synciLost false).setV .synciLast 0 0 := if_neg (by simp [hon, h])

/-! ### Fine delay -/

/-- Taps of a new map, each for its code (R108). -/
def newTaps (s : State) (c : Nat) (m : List (Byte × Nat)) : State := m.foldl (fun s x => s.setV .fdNew (c * 16 + x.2) x.1.toNat) s

/-- Taps given for the codes from `j` on are the new map's there; the others stay. -/
theorem v_newTaps (c k : Nat) (m : List Byte) : ∀ (s : State) (j : Nat),
    (s.newTaps c (m.zipIdx j)).v .fdNew (c * 16 + k) = if j ≤ k ∧ k < j + m.length then ((m.getD (k - j) 0).toNat : Int) else s.v .fdNew (c * 16 + k) := by
  induction m with
  | nil => intro s j; rw [if_neg (by simp)]; rfl
  | cons b m ih =>
    intro s j
    have rest := ih (s.setV .fdNew (c * 16 + j) b.toNat) (j + 1)
    refine rest.trans ?_
    rcases Nat.lt_trichotomy k j with hk | rfl | hk
    · rw [if_neg (by omega), if_neg (by omega), v_setV_inst _ _ (by omega)]
    · rw [if_neg (by omega), if_pos (by simp), v_setV_same, Nat.sub_self, List.getD_cons_zero]
    · obtain ⟨d, rfl⟩ := Nat.exists_eq_add_of_lt hk
      have hd : j + d + 1 - j = d + 1 := by omega
      have hd' : j + d + 1 - (j + 1) = d := by omega
      rw [hd, hd', List.getD_cons_succ, v_setV_inst _ _ (by omega), List.length_cons]
      exact if_congr (by omega) rfl rfl

/-- A measurement on a running carrier keeps the new map for the reload (R108). -/
theorem fineDelay_eq {s : State} {c : Nat} (m : List Byte) (hen : s.on Reg.PWM_CEN c = true) : s.fineDelay c m = ((s.newTaps c m.zipIdx).setV .fdHave c 1).wr Reg.PWM_FDSTALE c 0 := if_pos hen

/-- Each code has the tap that the measurement gave for it. -/
theorem v_fineDelay_fdNew {s : State} {c k : Nat} {m : List Byte} (hc : c < 34) (hen : s.on Reg.PWM_CEN c = true) (hm : m.length = 16) (hk : k < 16) :
    (s.fineDelay c m).v .fdNew (c * 16 + k) = (m.getD k 0).toNat := by
  rw [fineDelay_eq m hen, v_wr, v_setV_ne _ _ (by decide) (by omega) (by omega), v_newTaps, if_pos (by omega), Nat.sub_zero]

theorem v_fineDelay_fdHave {s : State} {c : Nat} (m : List Byte) (hen : s.on Reg.PWM_CEN c = true) : (s.fineDelay c m).v .fdHave c = 1 := by rw [fineDelay_eq m hen, v_wr, v_setV_same]

theorem rd_fineDelay_fdstale {s : State} {c : Nat} (m : List Byte) (hen : s.on Reg.PWM_CEN c = true) : (s.fineDelay c m).rd Reg.PWM_FDSTALE c = 0 := by rw [fineDelay_eq m hen]; exact rd_wr_same ..

/-- A running carrier's line that was fresh is stale after 1 ms (R108). -/
theorem fdStale_fresh {s : State} {c : Nat} (hen : s.on Reg.PWM_CEN c = true) (h : s.on Reg.PWM_FDSTALE c = false) : s.fdStale c = (s.wr Reg.PWM_FDSTALE c 1).irq 12 :=
  if_pos ⟨hen, by rw [h]; decide⟩

end Sys2Proof.Machine.State

namespace Sys2Proof.Proofs

open Machine Machine.State

/-- What a sync event of a running, synchronised channel does (R121). -/
theorem syncEventAct {s : State} (hp : s.power = .running) (c : Chan) (carrier : BitVec 13) (hen : s.on Reg.PWM_CEN c = true) (hsel : s.rd Reg.PWM_SYNCSEL c ≠ 0) (hh : 0 < s.half c) :
    let n : Int := 2 * s.half c
    let d := s.carrierError c carrier.toNat
    (d.natAbs ≤ 2 → exec (.syncEvent c carrier) s = .next ((s.setV .slewAdj c 0).wr Reg.PWM_SLEWING c 0).after) ∧
    (2 < d.natAbs → Answers (.syncEvent c carrier) s (fun t => t.rd Reg.PWM_SLEWING c = 1 ∧ (t.v .slewAdj c).natAbs ≤ n.toNat / 16 ∧ (t.v .slewAdj c).natAbs ≤ d.natAbs ∧
      t.v .slewAdj c % 2 = 0 ∧ (0 < t.v .slewAdj c → 0 < d) ∧ (t.v .slewAdj c < 0 → d < 0))) := by
  intro n d
  have hn : 0 ≤ n := by omega
  have event := syncEvent_eq carrier.toNat hen hsel hh
  refine ⟨fun hd => ?_, fun hd => ⟨_, exec_syncEvent hp .., ?_⟩⟩
  · rw [exec_syncEvent hp, event, if_pos hd]
  · have hslew : (s.syncEvent c carrier.toNat).after.v .slewAdj c = slewStep n d := by
      rw [after_v _ (by decide) (by omega), event, if_neg (by omega), v_wr, v_setV_same]
    have hflag : (s.syncEvent c carrier.toNat).after.rd Reg.PWM_SLEWING c = 1 := by
      rw [after_rd _ (by decide) (by decide) (by omega), event, if_neg (by omega)]; exact rd_wr_same ..
    have hsize := natAbs_slewStep d hn
    beta_reduce
    rw [hslew]
    exact ⟨hflag, by omega, by omega, slewStep_even d hn, slewStep_sign d hn⟩

section
variable {s : State} (hp : s.power = .running) (hon : s.rd Reg.PWM_REF_SYNCIM = 1) (carrier : BitVec 13) {t : Nat} (h : s.vn .synciLast ≠ 0)
include hp hon h

/-- What one of the first steady periods does (R123, R124). -/
theorem synciEarlyAct (hs : s.synciSteady t) (hk : s.vn .synciValid < 7) :
    Answers (.synciEdge carrier t) s (fun u => u.rd Reg.PWM_SYNCST_MEAS = s.synciPeriod t ∧ u.v .synciValid = s.vn .synciValid + 1 ∧ u.v .synciLast = t + 1) := by
  refine ⟨_, exec_synciEdge hp .., ?_⟩
  rw [synciEdge_early hon _ h hs hk]
  refine ⟨?_, ?_, ?_⟩
  · rw [after_rd _ (by decide) (by decide) (by decide), rd_setV, rd_synciMeasured_meas s hs.2.1]
  · rw [after_v _ (by decide) (by decide), v_setV_same]
  · rw [after_v _ (by decide) (by decide), v_setV_ne _ _ (by decide) (by decide) (by decide), v_synciMeasured_last]

/-- What a steady period that PREF takes does (R123). -/
theorem synciTracksAct (hs : s.synciSteady t) (heven : s.synciPeriod t % 2 = 0) (hk : 7 ≤ s.vn .synciValid) :
    let m := s.synciPeriod t
    Answers (.synciEdge carrier t) s (fun u => u.rd Reg.PWM_SYNCST_MEAS = m ∧ u.v .prefBase = m / 2 ∧
      ((s.synciError m carrier.toNat).natAbs ≤ 2 → u.v .prefHalf = m / 2 ∧ u.rd Reg.PWM_SYNCST_SLEWING = 0) ∧
      (2 < (s.synciError m carrier.toNat).natAbs → u.rd Reg.PWM_SYNCST_SLEWING = 1 ∧ 2 * (u.v .prefHalf - m / 2).natAbs ≤ m / 16)) := by
  intro m
  let d := s.synciError m carrier.toNat
  let u := ((s.synciMeasured t).setV .synciValid 0 8).synciTracked m d
  have hround : (((m + 1) / 2 : Nat) : Int) = m / 2 := by omega
  have hmeas : u.synciLockCheck.after.rd Reg.PWM_SYNCST_MEAS = m := by
    rw [after_rd _ (by decide) (by decide) (by decide), rd_synciLockCheck _ (by decide) (by decide), rd_synciTracked _ _ _ (by decide) (by decide), rd_setV, rd_synciMeasured_meas s hs.2.1]
  have hflag : u.synciLockCheck.after.rd Reg.PWM_SYNCST_SLEWING = b2n (!decide (d.natAbs ≤ 2)) := by
    rw [after_rd _ (by decide) (by decide) (by decide), rd_synciLockCheck _ (by decide) (by decide), rd_synciTracked_slewing]
  have hbase : u.synciLockCheck.after.v .prefBase = m / 2 := by
    rw [after_v _ (by decide) (by decide), v_of_vars (synciLockCheck_vars u), v_synciTracked_prefBase, hround]
  have hhalf : u.synciLockCheck.after.v .prefHalf = m / 2 + (if d.natAbs ≤ 2 then 0 else slewStep m d / 2) := by
    rw [after_v _ (by decide) (by decide), v_of_vars (synciLockCheck_vars u), v_synciTracked_prefHalf, hround]
  refine ⟨u.synciLockCheck.after, by rw [exec_synciEdge hp, synciEdge_tracks hon _ h hs hk], hmeas, hbase, fun hd => ?_, fun hd => ?_⟩
  · rw [hhalf, hflag, if_pos hd, decide_eq_true hd]
    exact ⟨add_zero _, rfl⟩
  · have hnear : ¬ d.natAbs ≤ 2 := by omega
    have hsize := natAbs_slewStep (n := m) d (by omega)
    have heven := slewStep_even (n := m) d (by omega)
    rw [hhalf, hflag, if_neg hnear, decide_eq_false hnear]
    exact ⟨rfl, by omega⟩

/-- What a period out of range does (R124). -/
theorem synciOutOfRangeAct (hm : s.synciPeriod t < 266 ∨ 5334 < s.synciPeriod t) :
    Answers (.synciEdge carrier t) s (fun u => u.rd Reg.PWM_SYNCST_LOCK = 0 ∧ u.rd Reg.PWM_SYNCST_LOSTF = 1 ∧ u.rd Reg.PWM_SYNCST_RANGEF = 1 ∧ u.v .synciValid = 0 ∧ u.v .prefHalf = s.v .prefBase) := by
  refine ⟨_, exec_synciEdge hp .., ?_⟩
  rw [synciEdge_outOfRange hon _ _ h hm]
  refine ⟨?_, ?_, ?_, ?_, ?_⟩
  · exact (after_rd _ (by decide) (by decide) (by decide)).trans (rd_synciLost_lock ..)
  · exact (after_rd _ (by decide) (by decide) (by decide)).trans (rd_synciLost_lostf ..)
  · exact (after_rd _ (by decide) (by decide) (by decide)).trans (rd_synciLost_rangef _)
  · exact (after_v _ (by decide) (by decide)).trans (v_synciLost_valid ..)
  · exact (after_v _ (by decide) (by decide)).trans ((v_synciLost_prefHalf ..).trans (s.v_synciMeasured t (by decide) (by decide)))

/-- What the loss of the edges does (R124). -/
theorem synciLossAct : Answers .synciLoss s (fun u => u.rd Reg.PWM_SYNCST_LOCK = 0 ∧ u.rd Reg.PWM_SYNCST_LOSTF = 1 ∧ u.v .synciLast = 0 ∧ u.v .prefHalf = s.v .prefBase) := by
  refine ⟨_, exec_synciLoss hp, ?_⟩
  rw [synciLoss_eq hon h]
  refine ⟨?_, ?_, ?_, ?_⟩
  · exact (after_rd _ (by decide) (by decide) (by decide)).trans (rd_synciLost_lock ..)
  · exact (after_rd _ (by decide) (by decide) (by decide)).trans (rd_synciLost_lostf ..)
  · exact (after_v _ (by decide) (by decide)).trans (v_setV_same ..)
  · exact (after_v _ (by decide) (by decide)).trans ((v_setV_ne _ _ (by decide) (by decide) (by decide)).trans (v_synciLost_prefHalf ..))

end

/-- Settles O19: a sync event by the size of the error, an edge of SYNCI by the period that it ends, and a measurement tap by tap. -/
theorem syncRowsAct : Obligations.SyncRowsAct := by
  refine ⟨fun c carrier s hp hen hsel hh => syncEventAct hp c carrier hen hsel hh, fun carrier t s hp hon => ⟨fun h => ?_, fun h hlo hhi hfirst => ?_, fun h hlo hhi heven hk hjump => ?_, fun h => ?_, fun h => ?_⟩,
    fun c m s => ⟨fun hp hm hen => ?_, fun hm => if_neg hm, fun hp hen h => ?_⟩⟩
  · rw [exec_synciEdge hp, synciEdge_first hon _ _ h]
  · exact synciEarlyAct hp hon carrier h ⟨hlo, hhi, .inl hfirst⟩
  · exact synciTracksAct hp hon carrier h ⟨hlo, hhi, .inr hjump⟩ heven hk
  · exact synciOutOfRangeAct hp hon carrier h
  · exact synciLossAct hp hon h
  · refine ⟨_, exec_fineDelayMeasure hp c hm, ?_, ?_, fun k hk => ?_⟩
    · rw [after_v _ (by decide) (by omega), v_fineDelay_fdHave m hen]
    · rw [after_rd _ (by decide) (by decide) (by omega), rd_fineDelay_fdstale m hen]
    · rw [after_v _ (by decide) (by omega), v_fineDelay_fdNew c.isLt hen hm hk]
  · rw [exec_fdstaleTimeout hp, fdStale_fresh hen h]

end Sys2Proof.Proofs
end

section
/-!
PROOF. The timers of a rail: the end of the stage wake time, PGOOD's qualification, the timeout of a ramp-down, the second without a hiccup, and the off time of a hiccup (R143 to R145, R307, R308).
-/

namespace Sys2Proof.Machine.State

/-! ### Armed outputs -/

/-- Arming output states changes no field. -/
theorem rd_armOsts (s : State) (cs : List Nat) (o : Nat) (f : Fld) (i : Nat) : (cs.foldl (fun s c => s.armOst c o) s).rd f i = s.rd f i :=
  foldl_keeps (P := fun t : State => t.rd f i = s.rd f i) (fun (t : State) c => t.armOst c o) (fun _ _ h => h) cs s rfl

/-- Arming output states of channels changes no other variable. -/
theorem v_armOsts {cs : List Nat} (hcs : ∀ c ∈ cs, c < 32) (o : Nat) {x : Var} {i : Nat} (hx : Var.ostArm.ctorIdx ≠ x.ctorIdx) (hi : i < 1024) (s : State) :
    (cs.foldl (fun s c => s.armOst c o) s).v x i = s.v x i := by
  induction cs generalizing s with
  | nil => rfl
  | cons c cs ih =>
    have hc : c < 32 := hcs c List.mem_cons_self
    exact (ih (fun d hd => hcs d (List.mem_cons_of_mem _ hd)) _).trans (v_setV_ne _ _ hx (by omega) hi)

/-! ### The reference -/

/-- The variables that fixing a reference and spoiling an identification change. -/
def fixVars : List Nat := [Var.refVal.ctorIdx, Var.refAt.ctorIdx, Var.identBad.ctorIdx]

/-- A new slew changes no field. -/
@[simp] theorem rd_slewRef (s : State) (r c : Nat) (f : Fld) (i : Nat) : (s.slewRef r c).rd f i = s.rd f i := rfl

/-- A new slew carries no time. -/
@[simp] theorem slewRef_now (s : State) (r c : Nat) : (s.slewRef r c).now = s.now := rfl

/-- A new slew is the slew from then on. -/
theorem v_slewRef_refSlew (s : State) (r c : Nat) : (s.slewRef r c).v .refSlew r = c := v_setV_same ..

/-- Fixing the reference changes no variable but its value and its time. -/
theorem v_fixRef (s : State) {r : Nat} (hr : r < 4) {x : Var} {i : Nat} (hx : x.ctorIdx ∉ fixVars) (hi : i < 1024) : (s.fixRef r).v x i = s.v x i := by
  simp only [fixVars, List.mem_cons, List.not_mem_nil, or_false, not_or] at hx
  obtain ⟨hval, hat, -⟩ := hx
  exact (v_setV_ne _ _ (Ne.symm hat) (by omega) hi).trans (v_setV_ne _ _ (Ne.symm hval) (by omega) hi)

/-- A new slew changes no variable outside the reference. -/
theorem v_slewRef (s : State) {r : Nat} (hr : r < 4) (c : Nat) {x : Var} {i : Nat} (hx : x.ctorIdx ∉ fixVars) (hs : Var.refSlew.ctorIdx ≠ x.ctorIdx) (hi : i < 1024) :
    (s.slewRef r c).v x i = s.v x i := (v_setV_ne _ _ hs (by omega) hi).trans (v_fixRef s hr hx hi)

/-- Spoiling identification records changes no variable but the note of it. -/
theorem v_identSpoil (s : State) (r : Nat) {x : Var} {i : Nat} (hx : Var.identBad.ctorIdx ≠ x.ctorIdx) (hi : i < 1024) : (s.identSpoil r).v x i = s.v x i := by
  unfold State.identSpoil; split
  · exact v_setV_ne _ _ hx (by decide) hi
  · rfl

/-- A new aim, with or without the spoiling of identification records. -/
theorem aimRef_cases (s : State) (r : Nat) (t : Int) : s.aimRef r t = (s.fixRef r).setV .refTgt r t ∨ s.aimRef r t = ((s.fixRef r).setV .refTgt r t).identSpoil r := by
  unfold State.aimRef; dsimp only; split
  · exact .inl rfl
  · exact .inr rfl

/-- A new aim is the reference's target from then on. -/
theorem v_aimRef_refTgt (s : State) {r : Nat} (hr : r < 4) (t : Int) : (s.aimRef r t).v .refTgt r = t := by
  rcases s.aimRef_cases r t with h | h <;> rw [h]
  · exact v_setV_same ..
  · exact (v_identSpoil _ _ (by decide) (by omega)).trans (v_setV_same ..)

/-- A new aim changes no variable outside the reference, and keeps the slew. -/
theorem v_aimRef (s : State) {r : Nat} (hr : r < 4) (t : Int) {x : Var} {i : Nat} (hx : x.ctorIdx ∉ fixVars) (ht : Var.refTgt.ctorIdx ≠ x.ctorIdx) (hi : i < 1024) :
    (s.aimRef r t).v x i = s.v x i := by
  have hbad : Var.identBad.ctorIdx ≠ x.ctorIdx := by
    simp only [fixVars, List.mem_cons, List.not_mem_nil, or_false, not_or] at hx
    obtain ⟨-, -, hbad⟩ := hx
    exact Ne.symm hbad
  have hset : ((s.fixRef r).setV .refTgt r t).v x i = s.v x i := (v_setV_ne _ _ ht (by omega) hi).trans (v_fixRef s hr hx hi)
  rcases s.aimRef_cases r t with h | h <;> rw [h]
  · exact hset
  · exact (v_identSpoil _ _ hbad hi).trans hset

/-! ### The end of the wake time -/

/-- The wake time of a rail over, its phases armed live and its understudies parked (R143). -/
def stagesWoken (s : State) (r : Nat) : State :=
  let t := ((s.upTo (s.vn .tEndly r - 1)).setV .tEndly r 0).setV .starting r 0
  let t := (t.parked r ++ t.active r).foldl (fun s c => s.armOst c ostLive) t
  (t.understudies r).foldl (fun s c => s.armOst c ostParked) t

/-- The end of a wake time that runs. -/
theorem wakeEnds_runs {s : State} {r : Nat} (h : s.vn .tEndly r ≠ 0) :
    s.wakeEnds r = ((s.stagesWoken r).slewRef r ((s.stagesWoken r).rd Reg.LE_SSSLEW r)).aimRef r (codeVolts ((s.stagesWoken r).rd Reg.LE_TGTNOW r)) := if_neg h

/-- Waking the stages changes no field. -/
theorem rd_stagesWoken (s : State) (r : Nat) (f : Fld) (i : Nat) : (s.stagesWoken r).rd f i = s.rd f i := (rd_armOsts ..).trans (rd_armOsts ..)

/-- Of the variables, waking the stages changes the rail's timer and start, and what is armed. -/
theorem v_stagesWoken (s : State) (r : Nat) {x : Var} {i : Nat} (hx : Var.ostArm.ctorIdx ≠ x.ctorIdx) (hi : i < 1024) :
    (s.stagesWoken r).v x i = ((s.setV .tEndly r 0).setV .starting r 0).v x i := by
  unfold State.stagesWoken
  extract_lets t u
  have hlive : u.v x i = t.v x i := v_armOsts (fun c hc => (List.mem_append.1 hc).elim phasesIn_lt phasesIn_lt) _ hx hi t
  exact (v_armOsts (fun c hc => phasesIn_lt hc) _ hx hi u).trans hlive

/-- What the end of a wake time sets (R143). -/
theorem wakeEnds_effect {s : State} {r : Nat} (hr : r < 4) (h : s.vn .tEndly r ≠ 0) :
    (s.wakeEnds r).v .tEndly r = 0 ∧ (s.wakeEnds r).v .starting r = 0 ∧ (s.wakeEnds r).v .refTgt r = codeVolts (s.rd Reg.LE_TGTNOW r) ∧ (s.wakeEnds r).v .refSlew r = s.rd Reg.LE_SSSLEW r := by
  have hi : r < 1024 := by omega
  rw [wakeEnds_runs h, rd_stagesWoken, rd_stagesWoken]
  refine ⟨?_, ?_, v_aimRef_refTgt _ hr _, ?_⟩
  · rw [v_aimRef _ hr _ (by decide) (by decide) hi, v_slewRef _ hr _ (by decide) (by decide) hi, v_stagesWoken _ _ (by decide) hi, v_setV_ne _ _ (by decide) hi hi, v_setV_same]
  · rw [v_aimRef _ hr _ (by decide) (by decide) hi, v_slewRef _ hr _ (by decide) (by decide) hi, v_stagesWoken _ _ (by decide) hi, v_setV_same]
  · rw [v_aimRef _ hr _ (by decide) (by decide) hi, v_slewRef_refSlew]

/-! ### Qualification -/

/-- The completion of a rail's waiting commands changes no field and no variable. -/
theorem endOn_regs_vars (s : State) (r status reason : Nat) : (s.endOn r status reason).regs = s.regs ∧ (s.endOn r status reason).vars = s.vars := by
  unfold State.endOn State.endWaits
  exact foldl_keeps (P := fun t : State => t.regs = s.regs ∧ t.vars = s.vars) _ (fun t w ⟨hr, hv⟩ => ⟨(complete_regs ..).trans hr, (complete_vars ..).trans hv⟩) _ s ⟨rfl, rfl⟩

@[simp] theorem rd_endOn (s : State) (r status reason : Nat) (f : Fld) (i : Nat) : (s.endOn r status reason).rd f i = s.rd f i := rd_of_regs (endOn_regs_vars ..).1 f i
@[simp] theorem v_endOn (s : State) (r status reason : Nat) (x : Var) (i : Nat) : (s.endOn r status reason).v x i = s.v x i := v_of_vars (endOn_regs_vars ..).2 x i

/-- A rail's state field is one of the four of SYS_RAILST (R70). -/
theorem stateFld_mem (r : Nat) : stateFld r ∈ [Reg.SYS_RAILST_STATE_A, Reg.SYS_RAILST_STATE_B, Reg.SYS_RAILST_STATE_C, Reg.SYS_RAILST_STATE_D] := by
  match r with
  | 0 | 1 | 2 | _ + 3 => simp [stateFld]

/-- Each has four bits, and its own place apart from the fields that a rail's timers write. -/
theorem stateFld_place (r : Nat) : (stateFld r).width = 4 ∧ (stateFld r).base ≠ Reg.LE_PG.base ∧ (stateFld r).base ≠ Reg.CAP_RATECHG.base ∧ (stateFld r).base ≠ Reg.ICU_CORE_WAKEREQ.base := by
  have place : ∀ g ∈ [Reg.SYS_RAILST_STATE_A, Reg.SYS_RAILST_STATE_B, Reg.SYS_RAILST_STATE_C, Reg.SYS_RAILST_STATE_D],
      g.width = 4 ∧ g.base ≠ Reg.LE_PG.base ∧ g.base ≠ Reg.CAP_RATECHG.base ∧ g.base ≠ Reg.ICU_CORE_WAKEREQ.base := by decide
  exact place _ (stateFld_mem r)

/-- A rail's state that is set reads back. -/
theorem railState_setRail (s : State) (r st : Nat) : (s.setRail r st).railState r = st % 2 ^ 4 := by
  obtain ⟨hw, -⟩ := stateFld_place r
  rw [← hw]
  exact rd_wr_same ..

/-- A write of PG changes no rail's state. -/
theorem railState_wr_pg (s : State) (r : Nat) {i : Nat} (n : Nat) (hi : i < 256) : (s.wr Reg.LE_PG i n).railState r = s.railState r := by
  obtain ⟨-, hpg, -⟩ := stateFld_place r
  exact rd_wr_ne _ _ hpg.symm hi (by decide)

/-- What follows a command changes no rail's state. -/
theorem after_railState (s : State) (r : Nat) : s.after.railState r = s.railState r := by
  obtain ⟨-, -, hcap, hwake⟩ := stateFld_place r
  exact after_rd _ hcap hwake (by decide)

/-- The timer of PGOOD's qualification elapsed (R144). -/
def pgElapsed (s : State) (r : Nat) : State := (s.upTo (s.vn .tPgdly r - 1)).setV .tPgdly r 0

/-- A rail in REGULATE with PGOOD, its regulation slew and the second without a hiccup begun, and its RAIL_ON completed (R143, R308, R395). -/
def rampEnded (s : State) (r : Nat) : State :=
  let t := (((s.pgElapsed r).setRail r railRegulate).wr Reg.LE_PG r 1).slewRef r ((s.pgElapsed r).railSlew r)
  (t.setV .tRetry r (t.now + 400000000 + 1)).endOn r stOk

/-- Without an entry into INTERMISSION no phase is shed for it (R191). -/
theorem interShed_none {s : State} (r : Nat) (h : s.vOn .intEntry = false) : s.interShed r = s := if_neg (by simp [h])

/-- The end of a ramp changes no variable but the rail's timers, its reference, and the note of a spoiled identification. -/
theorem v_rampEnded (s : State) {r : Nat} (hr : r < 4) {x : Var} {i : Nat} (hx : x.ctorIdx ∉ fixVars) (hs : Var.refSlew.ctorIdx ≠ x.ctorIdx) (ht : Var.tRetry.ctorIdx ≠ x.ctorIdx) (hi : i < 1024) :
    (s.rampEnded r).v x i = (s.setV .tPgdly r 0).v x i := by
  unfold State.rampEnded
  extract_lets t
  have hslew : t.v x i = (s.pgElapsed r).v x i := v_slewRef _ hr _ hx hs hi
  rw [v_endOn, v_setV_ne _ _ ht (by omega) hi, hslew]
  rfl

/-- In a ramp, PGOOD's qualification ends it; a characterisation with nothing to learn on the rail asks for the ramp down (R143, R203). -/
theorem qualified_ramp {s : State} {r : Nat} (hr : r < 4) (h : s.vn .tPgdly r ≠ 0) (hs : s.railState r = railRamp) (hi : s.vOn .intEntry = false) :
    s.qualified r = if (s.rampEnded r).vn .charTurn = r + 1 ∧ ¬ (s.rampEnded r).charAny r then (s.rampEnded r).setV .curDown r 1 else s.rampEnded r := by
  have hentry : (s.rampEnded r).v .intEntry = s.v .intEntry :=
    (s.v_rampEnded hr (by decide) (by decide) (by decide) (by decide)).trans (v_setV_ne _ _ (by decide) (by omega) (by decide))
  have hdown : ((s.rampEnded r).setV .curDown r 1).v .intEntry = s.v .intEntry := (v_setV_ne _ _ (by decide) (by omega) (by decide)).trans hentry
  have hnone : (if (s.rampEnded r).vn .charTurn = r + 1 ∧ ¬ (s.rampEnded r).charAny r then (s.rampEnded r).setV .curDown r 1 else s.rampEnded r).vOn .intEntry = false := by
    split
    · rwa [vOn_eq, hdown]
    · rwa [vOn_eq, hentry]
  exact ((if_neg h).trans (if_pos hs)).trans (interShed_none r hnone)

/-- In REGULATE, PGOOD's qualification turns PG (R144). -/
theorem qualified_regulate {s : State} {r : Nat} (h : s.vn .tPgdly r ≠ 0) (hs : s.railState r = railRegulate) :
    s.qualified r = (s.pgElapsed r).wrB Reg.LE_PG r (!s.on Reg.LE_PG r) := by
  have hramp : (s.pgElapsed r).railState r ≠ railRamp := by
    have hsame : (s.pgElapsed r).railState r = s.railState r := rfl
    rw [hsame, hs]; decide
  unfold State.qualified
  exact (if_neg h).trans (if_neg hramp)

/-- The end of a ramp writes the rail's state and PG. -/
theorem rd_rampEnded (s : State) (r : Nat) (f : Fld) (i : Nat) : (s.rampEnded r).rd f i = (((s.pgElapsed r).setRail r railRegulate).wr Reg.LE_PG r 1).rd f i := by
  unfold State.rampEnded
  rw [rd_endOn, rd_setV, rd_slewRef]

/-- The second without a hiccup runs from the end of the ramp (R308). -/
theorem v_rampEnded_tRetry (s : State) (r : Nat) : (s.rampEnded r).v .tRetry r = (max s.now (s.vn .tPgdly r - 1) : Nat) + 400000001 := by
  have hnow : (((s.pgElapsed r).setRail r railRegulate).wr Reg.LE_PG r 1).now = max s.now (s.vn .tPgdly r - 1) := rfl
  unfold State.rampEnded
  rw [v_endOn, v_setV_same, slewRef_now, hnow, add_assoc]
  norm_num

/-- What the end of a ramp sets (R143, R308). -/
theorem rampEnded_effect (s : State) {r : Nat} (hr : r < 4) :
    (s.rampEnded r).railState r = railRegulate ∧ (s.rampEnded r).rd Reg.LE_PG r = 1 ∧ (s.rampEnded r).v .tPgdly r = 0 ∧
      (s.rampEnded r).v .tRetry r = (max s.now (s.vn .tPgdly r - 1) : Nat) + 400000001 := by
  refine ⟨?_, ?_, ?_, s.v_rampEnded_tRetry r⟩
  · exact (rd_rampEnded ..).trans ((railState_wr_pg _ r 1 (by omega)).trans (railState_setRail ..))
  · exact (rd_rampEnded ..).trans (rd_wr_same ..)
  · exact (s.v_rampEnded hr (by decide) (by decide) (by decide) (by omega)).trans (v_setV_same ..)

/-- What PGOOD's qualification in a ramp sets, whatever it asks of a characterisation (R143, R308). -/
theorem qualified_ramp_effect {s : State} {r : Nat} (hr : r < 4) (h : s.vn .tPgdly r ≠ 0) (hs : s.railState r = railRamp) (hentry : s.vOn .intEntry = false) :
    (s.qualified r).railState r = railRegulate ∧ (s.qualified r).rd Reg.LE_PG r = 1 ∧ (s.qualified r).v .tPgdly r = 0 ∧
      (s.qualified r).v .tRetry r = (max s.now (s.vn .tPgdly r - 1) : Nat) + 400000001 := by
  obtain ⟨hstate, hpg, htimer, hretry⟩ := s.rampEnded_effect hr
  rw [qualified_ramp hr h hs hentry]
  split
  · refine ⟨hstate, hpg, ?_, ?_⟩
    · exact (v_setV_ne _ _ (by decide) (by omega) (by omega)).trans htimer
    · exact (v_setV_ne _ _ (by decide) (by omega) (by omega)).trans hretry
  · exact ⟨hstate, hpg, htimer, hretry⟩

/-- What PGOOD's qualification in REGULATE sets (R144). -/
theorem qualified_regulate_effect {s : State} {r : Nat} (hr : r < 4) (h : s.vn .tPgdly r ≠ 0) (hs : s.railState r = railRegulate) :
    (s.qualified r).rd Reg.LE_PG r = 1 - s.rd Reg.LE_PG r ∧ (s.qualified r).railState r = railRegulate := by
  rw [qualified_regulate h hs, wrB_eq]
  refine ⟨(rd_wr_same ..).trans ?_, (railState_wr_pg _ r _ (by omega)).trans hs⟩
  rw [on_eq]
  rcases Nat.eq_zero_or_pos (s.rd Reg.LE_PG r) with h0 | h0
  · rw [h0]; rfl
  · have hset : (s.rd Reg.LE_PG r != 0) = true := bne_iff_ne.2 (by omega)
    have hone : 1 - s.rd Reg.LE_PG r = 0 := by omega
    rw [hset, hone]; rfl

/-! ### Ramp-down, retries and the off time -/

/-- 1 ms after the reference is at 0 V the phases go off (R145). -/
theorem downTimeout_runs {s : State} {r : Nat} (hd : s.rampingDown r = true) (hs : s.vOn .stopping r = false) (ht : s.v .refTgt r = 0) :
    s.downTimeout r = (s.upTo (s.zeroAt r + 400000)).sendOff r := if_pos ⟨hd, by simp [hs], ht⟩

/-- A second without a hiccup clears the retries (R308). -/
theorem retryClear_runs {s : State} {r : Nat} (h : s.vn .tRetry r ≠ 0) : s.retryClear r = ((s.upTo (s.vn .tRetry r - 1)).setV .tRetry r 0).wr Reg.PROT_RETRYCNT r 0 := if_neg h

/-- The lead channel of a rail is read from the assignment of the phases (R115). -/
theorem lead_congr {s t : State} (h : ∀ f ∈ [Reg.PHM_ASSIGN, Reg.PHM_RAIL, Reg.PHM_ROLE], ∀ c < 32, t.rd f c = s.rd f c) (r : Nat) : t.lead r = s.lead r := by
  unfold State.lead State.assigned State.on
  rw [List.filter_filter, List.filter_filter]
  have hsame : ∀ c ∈ List.range 32, (t.rd Reg.PHM_ROLE c != 4 && (t.rd Reg.PHM_ASSIGN c != 0 && t.rd Reg.PHM_RAIL c == r)) = (s.rd Reg.PHM_ROLE c != 4 && (s.rd Reg.PHM_ASSIGN c != 0 && s.rd Reg.PHM_RAIL c == r)) := by
    intro c hc
    rw [h _ (by simp) c (List.mem_range.1 hc), h _ (by simp) c (List.mem_range.1 hc), h _ (by simp) c (List.mem_range.1 hc)]
  rw [List.filter_congr hsame]

/-- The lead channel of a main rail is a main channel. -/
theorem lead_lt {s : State} {r c : Nat} (hr : r < 4) (h : s.lead r = some c) : c < 32 := by
  unfold State.lead at h
  rw [if_neg (by omega)] at h
  exact List.mem_range.1 (List.mem_of_mem_filter (List.mem_of_mem_filter (List.mem_of_mem_head? h)))

/-- The off time of a hiccup elapsed (R307). -/
def offElapsed (s : State) (r : Nat) : State := (s.upTo (s.vn .tHoff r - 1)).setV .tHoff r 0

/-- A retry counted, to start at the rail's boundary (R307, R308). -/
def retryCounted (s : State) (r : Nat) : State := ((s.offElapsed r).bump Reg.PROT_RETRYCNT r).setV .hicRetry r 1

/-- Counting a retry changes no field but the count. -/
theorem rd_retryCounted (s : State) {r : Nat} (hr : r < 4) {f : Fld} {i : Nat} (hf : Reg.PROT_RETRYCNT.base ≠ f.base) (hi : i < 256) : (s.retryCounted r).rd f i = s.rd f i :=
  rd_wr_ne _ _ hf (by omega) hi

/-- While a retry is left it is counted, and waits for the boundary of a carrier that runs (R307, R308). -/
theorem hiccupOff_retry {s : State} {r c : Nat} (hr : r < 4) (h : s.vn .tHoff r ≠ 0) (hl : s.lead r = some c) (hen : s.on Reg.PWM_CEN c = true)
    (hleft : s.rd Reg.PROT_HRETRY r = 0 ∨ s.rd Reg.PROT_RETRYCNT r < s.rd Reg.PROT_HRETRY r) : s.hiccupOff r = s.retryCounted r := by
  have hlead : (s.retryCounted r).lead r = some c := by
    have base : ∀ f ∈ [Reg.PHM_ASSIGN, Reg.PHM_RAIL, Reg.PHM_ROLE], Reg.PROT_RETRYCNT.base ≠ f.base := by decide
    rw [← hl]
    exact lead_congr (fun f hf d hd => rd_retryCounted s hr (base f hf) (by omega)) r
  have hrun : (s.retryCounted r).on Reg.PWM_CEN c = true := by
    have hc := lead_lt hr hl
    rw [on_eq, rd_retryCounted s hr (by decide) (by omega)]
    exact hen
  refine ((if_neg h).trans (if_pos hleft)).trans ?_
  dsimp only
  rw [← State.offElapsed, ← State.retryCounted, hlead]
  exact if_pos hrun

/-- After the last retry the rail goes to FAULTOFF (R308). -/
theorem hiccupOff_last {s : State} {r : Nat} (h : s.vn .tHoff r ≠ 0) (hn : s.rd Reg.PROT_HRETRY r ≠ 0) (hlast : s.rd Reg.PROT_HRETRY r ≤ s.rd Reg.PROT_RETRYCNT r) :
    s.hiccupOff r = (s.offElapsed r).faultOff r 1 := by
  have hnone : ¬ (s.rd Reg.PROT_HRETRY r = 0 ∨ s.rd Reg.PROT_RETRYCNT r < s.rd Reg.PROT_HRETRY r) := by omega
  exact (if_neg h).trans (if_neg hnone)

end Sys2Proof.Machine.State

namespace Sys2Proof.Proofs

open Machine Machine.State

/-- Settles O26: each timer of a rail by what its expiry does; PGOOD's qualification in a ramp passes through the completion of RAIL_ON (`State.endOn` in `rampEnded`), which the statement does not name. -/
theorem railRowsAct : Obligations.RailRowsAct := by
  refine ⟨fun r s hp => ⟨fun h => ?_, fun h hs hentry => ?_, fun h hs => ?_, fun hd hs ht => ?_, fun h => ?_⟩, fun r c s hp h hl hen => ⟨fun hleft => ?_, fun hn hlast => ?_⟩⟩
  · obtain ⟨htimer, hstart, htgt, hslew⟩ := wakeEnds_effect r.isLt h
    refine ⟨_, act_after (f := fun u => u.wakeEnds r) hp, ?_, ?_, ?_, ?_⟩
    · exact (after_v _ (by decide) (by omega)).trans htimer
    · exact (after_v _ (by decide) (by omega)).trans hstart
    · exact (after_v _ (by decide) (by omega)).trans htgt
    · exact (after_v _ (by decide) (by omega)).trans hslew
  · obtain ⟨hstate, hpg, htimer, hretry⟩ := qualified_ramp_effect r.isLt h hs hentry
    refine ⟨_, act_after (f := fun u => u.qualified r) hp, ?_, ?_, ?_, ?_⟩
    · exact (after_railState ..).trans hstate
    · exact (after_rd _ (by decide) (by decide) (by omega)).trans hpg
    · exact (after_v _ (by decide) (by omega)).trans htimer
    · exact (after_v _ (by decide) (by omega)).trans hretry
  · obtain ⟨hpg, hstate⟩ := qualified_regulate_effect r.isLt h hs
    refine ⟨_, act_after (f := fun u => u.qualified r) hp, ?_, ?_⟩
    · exact (after_rd _ (by decide) (by decide) (by omega)).trans hpg
    · exact (after_railState ..).trans hstate
  · exact (act_after (f := fun u => u.downTimeout r) hp).trans (by rw [downTimeout_runs hd hs ht])
  · exact (act_after (f := fun u => u.retryClear r) hp).trans (by rw [retryClear_runs h])
  · exact (act_after (f := fun u => u.hiccupOff r) hp).trans (by rw [hiccupOff_retry r.isLt h hl hen hleft]; rfl)
  · exact (act_after (f := fun u => u.hiccupOff r) hp).trans (by rw [hiccupOff_last h hn hlast]; rfl)

end Sys2Proof.Proofs
end

section
/-!
PROOF. The chips of an identification run, and the end of a record (R161 to R166).
-/

namespace Sys2Proof.Machine.State

/-- The generator after a chip: shifted by one, with the sum of its two taps shifted in (R161). -/
def lfsrNext (x : Nat) : Nat := x * 2 % 32768 + b2n (bit x 14 != bit x 13)

/-- The size of the perturbation's step (R162). -/
def pertStep (s : State) : Int := rdiv ((s.rd Reg.IDENT_CFG_AMP : Int) * 2 ^ 28) 4000

/-- The first chip of a run notes the live phases, sets the perturbation by the generator's output, and lets the generator advance (R161, R162). -/
theorem identChip_first {s : State} (hrun : s.vn .identRunning = 1) (hn : s.vn .identChips = 0) (hat : s.vn .identChipAt = 0) :
    s.identChip =
      let r := s.rd Reg.IDENT_CFG_RAIL
      let a := (s.setV .identLive 0 (s.nlive r)).setV .pert r (if bit (s.vn .lfsr) 14 then s.pertStep else -s.pertStep)
      ((a.setV .lfsr 0 (lfsrNext (s.vn .lfsr))).setV .identChips 0 1).setV .identChipAt 0 (s.now + 1) := by
  have hlfsr : (s.setV .identLive 0 (s.nlive (s.rd Reg.IDENT_CFG_RAIL))).vn .lfsr = s.vn .lfsr := congrArg Int.toNat (v_setV_ne s _ (by decide) (by decide) (by decide))
  have hnext : ((lfsrNext (s.vn .lfsr) : Nat) : Int) = s.vn .lfsr * 2 % 32768 + b2n (bit (s.vn .lfsr) 14 != bit (s.vn .lfsr) 13) := by
    unfold lfsrNext
    push_cast
    rfl
  unfold State.identChip
  dsimp only
  rw [if_pos hat, if_neg (not_not.2 hrun), hn, if_pos rfl, if_neg (by decide), hlfsr, hnext]
  rfl

/-- A chip after the run has stopped ends the perturbation of every rail (R166). -/
theorem identChip_stopped {s : State} (hrun : s.vn .identRunning ≠ 1) (hat : s.vn .identChipAt ≠ 0) :
    s.identChip = ((List.range 4).foldl (fun u q => u.setV .pert q 0) (s.upTo (s.vn .identChipAt - 1 + 128))).setV .identChipAt 0 0 := by
  unfold State.identChip
  extract_lets r n u
  have hu : u = s.upTo (s.vn .identChipAt - 1 + 128) := if_neg hat
  rw [hu]
  exact (if_pos hrun).trans (if_neg hat)

/-- No rail is perturbed once the perturbation of each is cleared. -/
theorem v_pert_cleared (s : State) {r : Nat} (hr : r < 4) : ((List.range 4).foldl (fun u q => u.setV .pert q 0) s).v .pert r = 0 := by
  have later : ∀ (u : State) (q : Nat), u.v .pert r = 0 → (u.setV .pert q 0).v .pert r = 0 := fun u q hu => by
    rcases eq_or_ne q r with rfl | hq
    · exact v_setV_same ..
    · exact (v_setV_inst u 0 hq).trans hu
  obtain ⟨l₁, l₂, hl⟩ := List.append_of_mem (List.mem_range.2 hr)
  rw [hl, List.foldl_append, List.foldl_cons]
  exact foldl_keeps _ later l₂ _ (v_setV_same ..)

/-- A record of band H that nothing has spoiled counts in GOOD and waits for its transform (R163, R165, R166). -/
theorem recordEnds_good {s : State} (hrun : s.vn .identRunning = 1) (hfull : s.recordFull true = true) (hbad : (s.chipLook (s.rd Reg.IDENT_CFG_RAIL)).vn .identBad = 0) :
    s.recordEnds true =
      let a := (s.chipLook (s.rd Reg.IDENT_CFG_RAIL)).setV .identRecH 0 (s.vn .identRecH + 1)
      let b := ((a.setV .identBad 0 0).dropRecord true (s.vn .identRecH + 1)).bump Reg.IDENT_STAT_GOODH 0
      let d := b.holdSums true (s.vn .identRecH)
      { d with spectra := d.spectra ++ [⟨0, 0, fftH, s.vn .identRecH % 2, 12, 1, 1, 1⟩] } := by
  have hclean : ∀ n : Int, ((s.chipLook (s.rd Reg.IDENT_CFG_RAIL)).setV .identRecH 0 n).vn .identBad = 0 := fun n =>
    (congrArg Int.toNat (v_setV_ne _ n (by decide) (by decide) (by decide))).trans hbad
  unfold State.recordEnds
  rw [if_neg (by simp [hrun, hfull])]
  extract_lets cnt j u mask bad v w good held queued
  have hzero : bad = 0 := hclean _
  have hv : v = u.setV .identBad 0 0 := by simp only [v, hzero]; rfl
  have hgood : ¬ bad / mask % 2 = 1 := by rw [hzero]; decide
  rw [if_pos rfl]
  refine (if_neg hgood).trans ?_
  simp only [held, good, w, hv]
  rfl

/-- The end of a record does nothing when no run takes records, or when the record has not its samples yet. -/
theorem recordEnds_none {s : State} {h : Bool} (hn : s.vn .identRunning ≠ 1 ∨ s.recordFull h = false) : s.recordEnds h = s :=
  if_pos (by simpa using hn)

end Sys2Proof.Machine.State
end

section
/-!
PROOF. The publication of a run's results, and the retune that may follow it: what they leave of the run (R166, R170, R173).
-/

namespace Sys2Proof.Machine.State

/-- The run is over: it shows as published, and no session waits for it (R166, R176). -/
structure RunOver (t : State) : Prop where
  run : t.rd Reg.IDENT_STAT_RUN = 0
  done : t.rd Reg.IDENT_STAT_DONE = 1
  running : t.v .identRunning = 0
  port : t.v .identPort = 0

/-- No retune is deferred any longer. -/
def undeferred (s : State) : State := ((s.wr Reg.IDENT_STAT_DEFER 0 0).setV .tAuto 0 0).setV .autoUntil 0 0

namespace RunOver

variable {s : State} (h : RunOver s)
include h

/-! ### Updates that leave a run over -/

theorem of_same {t : State} (hr : t.regs = s.regs) (hv : t.vars = s.vars) : RunOver t :=
  ⟨(rd_of_regs hr ..).trans h.run, (rd_of_regs hr ..).trans h.done, (v_of_vars hv ..).trans h.running, (v_of_vars hv ..).trans h.port⟩

theorem wr {f : Fld} (hr : f.base ≠ Reg.IDENT_STAT_RUN.base) (hd : f.base ≠ Reg.IDENT_STAT_DONE.base) (n : Nat) : RunOver (s.wr f 0 n) :=
  ⟨(rd_wr_ne s n hr (by decide) (by decide)).trans h.run, (rd_wr_ne s n hd (by decide) (by decide)).trans h.done, h.running, h.port⟩

/-- A field behind RUN in the register map is another field, whatever its index. -/
theorem wr_behind {f : Fld} (hf : Reg.IDENT_STAT_RUN.base < f.base) (i n : Nat) : RunOver (s.wr f i n) := by
  have hrun : f.key i ≠ Reg.IDENT_STAT_RUN.key 0 := by rw [Fld.key_eq, Fld.key_eq]; omega
  have hdone : f.key i ≠ Reg.IDENT_STAT_DONE.key 0 := by
    have hlt : Reg.IDENT_STAT_DONE.base < Reg.IDENT_STAT_RUN.base := by decide
    rw [Fld.key_eq, Fld.key_eq]; omega
  exact ⟨(rd_wr_key s n hrun).trans h.run, (rd_wr_key s n hdone).trans h.done, h.running, h.port⟩

theorem setV {x : Var} {i : Nat} (hx : x.ctorIdx ≠ Var.identRunning.ctorIdx) (hp : x.ctorIdx ≠ Var.identPort.ctorIdx) (hi : i < 1024) (n : Int) : RunOver (s.setV x i n) :=
  ⟨h.run, h.done, (v_setV_ne s n hx hi (by decide)).trans h.running, (v_setV_ne s n hp hi (by decide)).trans h.port⟩

theorem event (code sev : Nat) (d : List Byte) : RunOver (s.event code sev d) :=
  ⟨(rd_event s code sev d (by decide) (by decide)).trans h.run, (rd_event s code sev d (by decide) (by decide)).trans h.done, (v_event ..).trans h.running, (v_event ..).trans h.port⟩

theorem alertEvent (code : Nat) : RunOver (s.alertEvent code) := h.of_same (alert_regs s 6) (alert_vars s 6)

theorem putWord (a w : Nat) : RunOver (s.putWord a w) := by
  obtain ⟨hregs, hvars, -⟩ := putBytes_regs_vars s a (leBytes 4 w)
  exact h.of_same hregs hvars

/-! ### The swap -/

/-- A run that is over is not aborted when its context flips (R148, R169). -/
theorem flip {c : Nat} (hc : c < 1024) : RunOver (s.flip c) := by
  have hoff : ¬ s.on Reg.IDENT_STAT_RUN = true := by rw [on_eq, h.run]; decide
  unfold State.flip
  split
  · rw [if_neg fun g => hoff g.1]
    extract_lets kept u
    have hu : RunOver u := by
      unfold u
      split
      · exact h.wr (by decide) (by decide) 0
      · exact h
    exact (hu.setV (by decide) (by decide) hc 1).setV (by decide) (by decide) hc _
  · exact h

theorem flipCheck : RunOver s.flipCheck := by
  unfold State.flipCheck
  split
  · have hbanks : RunOver (s.setBanks (s.bankCells 1) (s.bankCells 0)) := h.of_same rfl rfl
    have hcopy : RunOver ((s.setBanks (s.bankCells 1) (s.bankCells 0)).setV .swapCopy 0 1) := hbanks.setV (by decide) (by decide) (by decide) 1
    refine List.foldlRecOn _ _ hcopy fun u hu c hc => ?_
    have hc5 : c < 5 := List.mem_range.1 hc
    exact hu.setV (by decide) (by decide) (by omega) 0
  · exact h

theorem publishSwap : RunOver s.publishSwap := by
  unfold State.publishSwap
  split
  · have harmed : RunOver ((s.setV .swapStaged 0 0).wr Reg.LE_CTL_SWPEND 0 1) := (h.setV (by decide) (by decide) (by decide) 0).wr (by decide) (by decide) 1
    extract_lets u v
    have hv : RunOver v := by
      refine List.foldlRecOn _ _ harmed fun w hw r hr => ?_
      have hr4 : r < 4 := List.mem_range.1 hr
      split
      · exact hw.flip (by omega)
      · exact hw
    refine RunOver.flipCheck ?_
    split
    · exact hv.flip (by decide)
    · exact hv
  · exact h

/-! ### The retune and the ESR -/

theorem stageRetune (r : Nat) : RunOver (s.stageRetune r) := by
  unfold State.stageRetune
  extract_lets old u
  have hu : RunOver u := List.foldlRecOn _ _ h fun w hw x _ => hw.putWord ..
  exact (((hu.setV (by decide) (by decide) (by decide) 1).setV (by decide) (by decide) (by decide) 1).wr (by decide) (by decide) 1).event ..

theorem undeferred : RunOver s.undeferred :=
  ((h.wr (by decide) (by decide) 0).setV (by decide) (by decide) (by decide) 0).setV (by decide) (by decide) (by decide) 0

theorem autoRetune : RunOver s.autoRetune := by
  unfold State.autoRetune
  extract_lets r u
  have hu : RunOver u := by
    unfold u
    split
    · exact h.setV (by decide) (by decide) (by decide) _
    · exact h
  split
  · exact h.undeferred
  · split
    · exact (h.undeferred.stageRetune r).publishSwap
    · split
      · exact hu.undeferred
      · exact (hu.wr (by decide) (by decide) 1).setV (by decide) (by decide) (by decide) _

theorem esrResult (r : Nat) (l : List Point) : RunOver (s.esrResult r l) := by
  unfold State.esrResult
  split
  · exact h
  · extract_lets prd zs e base a d b w
    have ha : RunOver a := ((h.wr_behind (by decide) r e).wr_behind (by decide) r zs.length).wr_behind (by decide) r 1
    have hb : RunOver b := ha.wr_behind (by decide) r _
    split
    · split
      · exact hb
      · split
        · exact ((hb.wr_behind (by decide) r 1).event ..).alertEvent _
        · split
          · exact hb.wr_behind (by decide) r 0
          · exact hb
    · exact (h.wr_behind (by decide) r 0).wr_behind (by decide) r _

end RunOver

/-- A run ends: it shows as published, its record is written, and the session that started it is answered (R166, R170). -/
def endRun (s : State) (r : Nat) : State :=
  let a := (((s.wr Reg.IDENT_STAT_RUN 0 0).wr Reg.IDENT_STAT_DONE 0 1).event 0x1003 0 (leBytes 1 r)).alertEvent 0x1003
  ((a.complete (a.vn .identPort) (a.vn .identTag) 0x58 stOk).setV .identPort 0 0).setV .identRunning 0 0

/-- A run that has ended is over: no completion entry and no alert changes a field or a variable. -/
theorem runOver_endRun (s : State) (r : Nat) : RunOver (s.endRun r) := by
  unfold endRun
  extract_lets a
  have hrun : a.rd Reg.IDENT_STAT_RUN = 0 := (rd_alertEvent ..).trans ((rd_event _ _ _ _ (by decide) (by decide)).trans ((rd_wr_ne _ _ (by decide) (by decide) (by decide)).trans (rd_wr_same ..)))
  have hdone : a.rd Reg.IDENT_STAT_DONE = 1 := (rd_alertEvent ..).trans ((rd_event _ _ _ _ (by decide) (by decide)).trans (rd_wr_same ..))
  have shown : ∀ f : Fld, (((a.complete (a.vn .identPort) (a.vn .identTag) 0x58 stOk).setV .identPort 0 0).setV .identRunning 0 0).rd f = a.rd f := fun f =>
    (rd_setV ..).trans ((rd_setV ..).trans (rd_complete ..))
  exact ⟨(shown _).trans hrun, (shown _).trans hdone, v_setV_same .., (v_setV_ne _ _ (by decide) (by decide) (by decide)).trans (v_setV_same ..)⟩

/-- The publication forms the results, ends the run, and goes on to the ESR and the automatic retune (R166, R343). -/
theorem identPublish_ends {s : State} (hrun : s.vn .identRunning = 2) (hac : s.on Reg.DBG_STAT_ACHALTED = false) :
    ∃ (u : State) (r : Nat) (l : List Point), s.identPublish = ((u.endRun r).esrResult r l).autoRetune := by
  unfold State.identPublish
  rw [if_neg (by simpa [hrun] using hac)]
  exact ⟨_, _, _, rfl⟩

/-- Neither the ESR nor the retune that follows touches what the end of the run shows. -/
theorem runOver_identPublish {s : State} (hrun : s.vn .identRunning = 2) (hac : s.on Reg.DBG_STAT_ACHALTED = false) : RunOver s.identPublish := by
  obtain ⟨u, r, l, h⟩ := identPublish_ends hrun hac
  rw [h]
  exact ((runOver_endRun u r).esrResult r l).autoRetune

/-- Nothing is published unless a run waits for it. -/
theorem identPublish_none {s : State} (hrun : s.vn .identRunning ≠ 2) : s.identPublish = s := if_pos (.inl hrun)

/-! ### The deferred retune -/

/-- No retry acts when none is due, or when the AC is halted (R20, R173). -/
theorem autoRetry_none {s : State} (h : s.vn .tAuto = 0 ∨ s.on Reg.DBG_STAT_ACHALTED = true) : s.autoRetry = s := if_pos h

/-- A retry that is due tries the retune at its tick. -/
theorem autoRetry_due {s : State} (ht : s.vn .tAuto ≠ 0) (hac : s.on Reg.DBG_STAT_ACHALTED = false) : s.autoRetry = (s.upTo (s.vn .tAuto - 1)).autoRetune :=
  if_neg (by simpa [ht] using hac)

/-- A rail without AUTO gives the proposal up (R173). -/
theorem autoRetune_givenUp {s : State} (h : s.on Reg.LE_AUTO (s.rd Reg.IDENT_CFG_RAIL) = false) : s.autoRetune = s.undeferred :=
  if_pos (.inr (.inr (.inl (by rw [h]; decide))))

/-- A proposal inside the envelope is applied when AUTO is on, the basic law runs, and nothing is swapped (R173). -/
theorem autoRetune_applied {s : State} (hprop : s.on Reg.IDENT_STAT_PROPV = true) (hin : s.on Reg.IDENT_STAT_OOE = false) (hauto : s.on Reg.LE_AUTO (s.rd Reg.IDENT_CFG_RAIL) = true)
    (hlaw : s.rd Reg.LE_LAW (s.rd Reg.IDENT_CFG_RAIL) = 0) (hswap : s.on Reg.LE_CTL_SWPEND = false) (hbank : s.vOn .bankTouched = false) :
    s.autoRetune = (s.undeferred.stageRetune (s.rd Reg.IDENT_CFG_RAIL)).publishSwap := by
  unfold State.autoRetune
  dsimp only
  rw [hprop, hin, hauto, hlaw, hswap, hbank, if_neg (by decide), if_pos (by decide)]
  rfl

end Sys2Proof.Machine.State
end

section
/-!
PROOF. The opcodes of identification: what IDENT_RUN, IDENT_READ and RETUNE do once their checks pass (R160, R173, R177, R400).
-/

namespace Sys2Proof.Machine.State

/-- Nothing in the state of the part keeps a run on a rail from starting (R160, R162). -/
structure IdentReady (t : State) (r amp : Nat) : Prop where
  mode : t.mode = mActive ∨ t.mode = mCharacterise
  regulates : t.railState r = railRegulate
  noRampDown : t.rampingDown r = false
  noRun : t.on Reg.IDENT_STAT_RUN = false
  noSwap : t.on Reg.LE_CTL_SWPEND = false
  acRuns : t.on Reg.DBG_STAT_ACHALTED = false
  notFatal : t.on Reg.ICU_CORE_FATAL 1 = false
  inWindow : amp ≤ min (t.rd Reg.LE_PGLO r) (t.rd Reg.LE_PGHI r)

/-- The queue of a session keeps no run from starting. -/
theorem IdentReady.taken {s : State} {r amp : Nat} (h : s.IdentReady r amp) (p : Port) : (s.taken p).IdentReady r amp where
  mode := (Laws.taken_mode s p).symm ▸ h.mode
  regulates := (Laws.taken_railState ..).trans h.regulates
  noRampDown := (Laws.taken_rampingDown ..).trans h.noRampDown
  noRun := (Laws.taken_on ..).trans h.noRun
  noSwap := (Laws.taken_on ..).trans h.noSwap
  acRuns := (Laws.taken_on ..).trans h.acRuns
  notFatal := (Laws.taken_on ..).trans h.notFatal
  inWindow := by rw [Laws.taken_rd, Laws.taken_rd]; exact h.inWindow

/-- No check of IDENT_RUN that looks at the state fails where four channels are free (R520). -/
theorem IdentReady.status {t : State} {r amp : Nat} (h : t.IdentReady r amp) (got : State × List Nat) :
    firstFail [(t.railState r != railRegulate || t.rampingDown r || t.on Reg.IDENT_STAT_RUN || t.on Reg.LE_CTL_SWPEND || t.on Reg.DBG_STAT_ACHALTED || t.on Reg.ICU_CORE_FATAL 1, stBusy),
      ((some got).isNone, stConflict), (decide (min (t.rd Reg.LE_PGLO r) (t.rd Reg.LE_PGHI r) < amp), stBadParam)] = stOk := by
  rw [h.regulates, h.noRampDown, h.noRun, h.noSwap, h.acRuns, h.notFatal, decide_eq_false (Nat.not_lt.2 h.inWindow)]
  rfl

/-- IDENT_RUN of a rail that is ready starts a run on the four channels that are free (R160, R162, R163). -/
theorem identRunBody_starts {t u : State} (p : Port) {c : Cmd} (ho : c.obj = 0xFFFF) {r amp navg coh : Byte} (hpl : c.payload = [r, amp, navg, coh]) (hr : r.toNat < 4)
    (hamp : 1 ≤ amp.toNat ∧ amp.toNat ≤ 8) (hnavg : 1 ≤ navg.toNat ∧ navg.toNat ≤ 64) (h : t.IdentReady r.toNat amp.toNat) {chans : List Nat} (hgot : t.allocateAll holdIdent [8, 8, 8, 8] = some (u, chans)) :
    t.identRunBody p c = (t.identStart (p.idx + 1) c.tag r.toNat amp.toNat navg.toNat coh.toNat chans (chans.map (fun ch => u.rd Reg.CAP_TOK0 ch)), stAccepted, []) := by
  have hmode : [mActive, mCharacterise].contains t.mode = true := by rcases h.mode with e | e <;> rw [e] <;> rfl
  have hcheck : checkCmd c (decide (c.payload.length = 4)) (decide (r.toNat < 4) && decide (1 ≤ amp.toNat) && decide (amp.toNat ≤ 8) && decide (1 ≤ navg.toNat) && decide (navg.toNat ≤ 64)) [mActive, mCharacterise] t = stOk :=
    checkCmd_ok (by rw [hpl]; rfl) ho (by simp [hr, hamp, hnavg]) hmode
  have f0 : fieldAt c.payload 0 1 = r.toNat := by rw [hpl]; exact fieldAt_byte [] [amp, navg, coh] r
  have f1 : fieldAt c.payload 1 1 = amp.toNat := by rw [hpl]; exact fieldAt_byte [r] [navg, coh] amp
  have f2 : fieldAt c.payload 2 1 = navg.toNat := by rw [hpl]; exact fieldAt_byte [r, amp] [coh] navg
  have f3 : fieldAt c.payload 3 1 = coh.toNat := by rw [hpl]; exact fieldAt_byte [r, amp, navg] [] coh
  unfold State.identRunBody
  extract_lets f r' amp' st got st'
  have hst : st' = stOk := by
    simp only [st', st, got, amp', r', f, f0, f1, f2, hcheck, hgot]
    exact h.status _
  simp only [hst, got, hgot, ne_eq, not_true_eq_false, if_false, amp', r', f, f0, f1, f2, f3]

/-- IDENT_READ returns the bytes that it names (R177, R400). -/
theorem identReadBody_reads {t : State} (p : Port) {c : Cmd} (ho : c.obj = 0xFFFF) (hlen : c.payload.length = 3) {a n : Nat} (hfa : fieldAt c.payload 0 2 = a) (hfn : fieldAt c.payload 2 1 = n)
    (hm : modesSes.contains t.mode = true) (hn1 : 1 ≤ n) (hn : n ≤ 240) (hend : a + n ≤ 0x220) : t.identReadBody p c = (t, stOk, (List.range n).map (fun i => t.resByte (a + i))) := by
  have hcheck : checkCmd c (decide (c.payload.length = 3)) (decide (1 ≤ n) && decide (n ≤ 240) && decide (a + n ≤ 0x220)) modesSes t = stOk :=
    checkCmd_ok (decide_eq_true hlen) ho (by simp [hn1, hn, hend]) hm
  unfold State.identReadBody
  dsimp only
  rw [hfa, hfn, hcheck]
  rfl

/-- RETUNE of the rail whose proposal stands is turned away outside the envelope, and else publishes the proposal; its reply waits for the swap (R173). -/
theorem retuneBody_eq {t : State} (p : Port) {c : Cmd} (ho : c.obj = 0xFFFF) (hlen : c.payload.length = 1) {r : Nat} (hf : fieldAt c.payload 0 1 = r) (hr : r < 4) (hm : modesCfg.contains t.mode = true)
    (hprop : t.on Reg.IDENT_STAT_PROPV = true) (hrail : t.rd Reg.IDENT_CFG_RAIL = r) (hlaw : t.rd Reg.LE_LAW r = 0) (hswap : t.on Reg.LE_CTL_SWPEND = false) :
    t.retuneBody p c =
      if t.on Reg.IDENT_STAT_OOE = true then (t, stEnvelope, [])
      else
        let a := (t.stageRetune r).publish
        if a.on Reg.LE_CTL_SWPEND = true then ({ a with retuning := some (p, c) }, stLater, []) else (a, stOk, []) := by
  have hcheck : checkCmd c (decide (c.payload.length = 1)) (decide (r < 4)) modesCfg t = stOk := checkCmd_ok (decide_eq_true hlen) ho (decide_eq_true hr) hm
  have hst : firstFail [(!t.on Reg.IDENT_STAT_PROPV || t.rd Reg.IDENT_CFG_RAIL != r || t.rd Reg.LE_LAW r != 0, stBadParam), (t.on Reg.IDENT_STAT_OOE, stEnvelope), (t.on Reg.LE_CTL_SWPEND, stBusy)] =
      if t.on Reg.IDENT_STAT_OOE = true then stEnvelope else stOk := by
    rw [hprop, hlaw, hswap, bne_eq_false_iff_eq.2 hrail]
    cases t.on Reg.IDENT_STAT_OOE <;> rfl
  unfold State.retuneBody
  dsimp only
  rw [hf, hcheck, if_neg (not_not.2 rfl), hst]
  by_cases hout : t.on Reg.IDENT_STAT_OOE = true
  · rw [if_pos hout, if_pos hout]
    exact if_pos (by decide)
  · rw [if_neg hout, if_neg hout]
    exact if_neg (not_not.2 rfl)

end Sys2Proof.Machine.State
end

section
/-!
PROOF. Every row and every opcode of identification.
-/

namespace Sys2Proof.Proofs

open Machine Machine.State

/-! ### The chips -/

theorem exec_identChip {s : State} (hp : s.power = .running) : exec .identChip s = .next s.identChip.after := act_after (f := State.identChip) hp

/-- The first chip of a run: the perturbation takes the sign of the generator's output, and the generator shifts (R161, R162). -/
theorem identChip_firstChip {s : State} (hp : s.power = .running) (hrun : s.vn .identRunning = 1) (hn : s.vn .identChips = 0) (hat : s.vn .identChipAt = 0) (hr : s.rd Reg.IDENT_CFG_RAIL < 4) :
    Answers .identChip s (fun t => t.v .pert (s.rd Reg.IDENT_CFG_RAIL) = (if bit (s.vn .lfsr) 14 then 1 else -1) * rdiv ((s.rd Reg.IDENT_CFG_AMP : Int) * 2 ^ 28) 4000 ∧
      t.vn .lfsr = s.vn .lfsr * 2 % 32768 + b2n (bit (s.vn .lfsr) 14 != bit (s.vn .lfsr) 13) ∧ t.v .identChips = 1) := by
  refine ⟨_, exec_identChip hp, ?_, ?_, ?_⟩
  · rw [after_v _ (by decide) (by omega), identChip_first hrun hn hat]
    dsimp only
    rw [v_setV_ne _ _ (by decide) (by decide) (by omega), v_setV_ne _ _ (by decide) (by decide) (by omega), v_setV_ne _ _ (by decide) (by decide) (by omega), v_setV_same, pertStep]
    split
    · exact (one_mul _).symm
    · exact (neg_one_mul _).symm
  · rw [vn_eq, after_v _ (by decide) (by decide), identChip_first hrun hn hat]
    dsimp only
    rw [v_setV_ne _ _ (by decide) (by decide) (by decide), v_setV_ne _ _ (by decide) (by decide) (by decide), v_setV_same]
    rfl
  · rw [after_v _ (by decide) (by decide), identChip_first hrun hn hat]
    exact (v_setV_ne _ _ (by decide) (by decide) (by decide)).trans (v_setV_same ..)

/-- The chip after the end of a run: no rail is perturbed, and no further chip is due (R166). -/
theorem identChip_lastChip {s : State} (hp : s.power = .running) (hrun : s.vn .identRunning ≠ 1) (hat : s.vn .identChipAt ≠ 0) :
    Answers .identChip s (fun t => (∀ r < 4, t.v .pert r = 0) ∧ t.v .identChipAt = 0) := by
  refine ⟨_, exec_identChip hp, fun r hr => ?_, ?_⟩
  · rw [after_v _ (by decide) (by omega), identChip_stopped hrun hat]
    exact (v_setV_ne _ _ (by decide) (by decide) (by omega)).trans (v_pert_cleared _ hr)
  · rw [after_v _ (by decide) (by decide), identChip_stopped hrun hat]
    exact v_setV_same ..

/-! ### The results -/

/-- A published run is DONE and no longer RUN, and nothing waits for it (R166). -/
theorem identPublish_publishes {s : State} (hp : s.power = .running) (hrun : s.vn .identRunning = 2) (hac : s.on Reg.DBG_STAT_ACHALTED = false) :
    Answers .identPublish s (fun t => t.rd Reg.IDENT_STAT_RUN = 0 ∧ t.rd Reg.IDENT_STAT_DONE = 1 ∧ t.v .identRunning = 0 ∧ t.v .identPort = 0) := by
  obtain ⟨hoff, hdone, hidle, hport⟩ := runOver_identPublish hrun hac
  refine ⟨_, act_after (f := State.identPublish) hp, ?_, ?_, ?_, ?_⟩
  · exact (after_rd _ (by decide) (by decide) (by decide)).trans hoff
  · exact (after_rd _ (by decide) (by decide) (by decide)).trans hdone
  · exact (after_v _ (by decide) (by decide)).trans hidle
  · exact (after_v _ (by decide) (by decide)).trans hport

theorem exec_autoRetuneRetry {s : State} (hp : s.power = .running) : exec .autoRetuneRetry s = .next s.autoRetry.after := act_after (f := State.autoRetry) hp

/-! ### The opcodes -/

section
variable {s : State} {p : Port} {h : Hdr} {pl : List Byte} (ho : h.objId = 0xFFFF#16)
include ho

/-- IDENT_RUN of a rail that is ready starts a run (R160, R162, R163). -/
theorem runs_identRun {r : Rail} {amp navg coh : Byte} {u : State} {chans : List Nat} (hpl : pl = [BitVec.ofNat 8 r, amp, navg, coh]) (hamp : 1 ≤ amp.toNat ∧ amp.toNat ≤ 8)
    (hnavg : 1 ≤ navg.toNat ∧ navg.toNat ≤ 64) (hready : s.IdentReady r amp.toNat) (hgot : (s.taken p).allocateAll holdIdent [8, 8, 8, 8] = some (u, chans)) :
    Runs (.identRun p h pl) s p h pl 0x58 (fun t c => (t.identStart (p.idx + 1) c.tag r amp.toNat navg.toNat coh.toNat chans (chans.map (fun ch => u.rd Reg.CAP_TOK0 ch)), stAccepted, [])) := by
  have hr : (BitVec.ofNat 8 r : Byte).toNat = r := by rw [BitVec.toNat_ofNat]; omega
  refine runs_of_noObject ho (f := State.identRunBody) rfl fun c hcpl hobj => ?_
  rw [identRunBody_starts p hobj (hcpl.trans hpl) (by omega) hamp hnavg (by rw [hr]; exact hready.taken p) hgot, hr]

/-- IDENT_READ inside the window of the results returns its bytes (R177). -/
theorem runs_identRead {a : BitVec 16} {n : Byte} (hpl : pl = leBytes 2 a.toNat ++ [n]) (hm : modesSes.contains s.mode = true) (hn1 : 1 ≤ n.toNat) (hn : n.toNat ≤ 240) (hend : a.toNat + n.toNat ≤ 0x220) :
    Runs (.identRead p h pl) s p h pl 0x59 (fun t _ => (t, stOk, (List.range n.toNat).map (fun i => t.resByte (a.toNat + i)))) := by
  refine runs_of_noObject ho (f := State.identReadBody) rfl fun c hcpl hobj => ?_
  have hcp : c.payload = leBytes 2 a.toNat ++ [n] := hcpl.trans hpl
  have hfa : fieldAt c.payload 0 2 = a.toNat := by rw [hcp]; exact fieldAt_leBytes [] [n] a.isLt
  have hfn : fieldAt c.payload 2 1 = n.toNat := by rw [hcp]; exact fieldAt_byte (leBytes 2 a.toNat) [] n
  exact identReadBody_reads p hobj (by rw [hcp]; rfl) hfa hfn (by rw [Laws.taken_mode]; exact hm) hn1 hn hend

/-- RETUNE of the proposal that stands, by whether it lies inside the envelope (R173). -/
theorem runs_retune {r : Rail} (hpl : pl = [BitVec.ofNat 8 r]) (hm : modesCfg.contains s.mode = true) (hprop : s.on Reg.IDENT_STAT_PROPV = true) (hrail : s.rd Reg.IDENT_CFG_RAIL = r)
    (hlaw : s.rd Reg.LE_LAW r = 0) (hswap : s.on Reg.LE_CTL_SWPEND = false) :
    Runs (.retune p h pl) s p h pl 0x5A (fun t c =>
      if s.on Reg.IDENT_STAT_OOE = true then (t, stEnvelope, [])
      else
        let a := (t.stageRetune r).publish
        if a.on Reg.LE_CTL_SWPEND = true then ({ a with retuning := some (p, c) }, stLater, []) else (a, stOk, [])) := by
  have hr : (BitVec.ofNat 8 r : Byte).toNat = r := by rw [BitVec.toNat_ofNat]; omega
  refine runs_of_noObject ho (f := State.retuneBody) rfl fun c hcpl hobj => ?_
  have hcp : c.payload = [BitVec.ofNat 8 r] := hcpl.trans hpl
  have hf : fieldAt c.payload 0 1 = r := by rw [hcp]; exact (fieldAt_byte [] [] _).trans hr
  rw [retuneBody_eq p hobj (by rw [hcp]; rfl) hf r.isLt (by rw [Laws.taken_mode]; exact hm) ((Laws.taken_on ..).trans hprop) ((Laws.taken_rd ..).trans hrail) ((Laws.taken_rd ..).trans hlaw)
    ((Laws.taken_on ..).trans hswap), Laws.taken_on]

end

/-- Settles O39: the first chip is read off the generator, each row by what it waits for, and each opcode by its checks; that the perturbation follows the generator's last stage before the shift (log entry 43), and that a proposal counts as a change of the staged bank until its swap is copied, with a deferred one tried at the retries (log entry 70), are the model's choices. -/
theorem identRowsAct : Obligations.IdentRowsAct := by
  refine ⟨fun s hp => ⟨identChip_firstChip hp, identChip_lastChip hp⟩, fun s hp => ⟨fun hrun hfull _ hbad => ?_, fun h hn => ?_, identPublish_publishes hp, fun hrun => ?_, fun hn => ?_, fun ht hac hprop hin => ?_⟩,
    fun p h pl s ho => ⟨fun r amp navg coh u chans hpl hm ha1 ha8 hn1 hn64 hs hdown hrun hswap hac hfatal hgot hpg => ?_, fun a n hpl hm hn1 hn hend => runs_identRead ho hpl hm hn1 hn hend, fun r hpl hm hprop hrail hlaw hswap => ?_⟩⟩
  · exact (act_after (f := fun u => u.recordEnds true) hp).trans (by rw [recordEnds_good hrun hfull hbad])
  · exact (act_after (f := fun u => u.recordEnds h) hp).trans (by rw [recordEnds_none hn])
  · exact (act_after (f := State.identPublish) hp).trans (by rw [identPublish_none hrun])
  · rw [exec_autoRetuneRetry hp, autoRetry_none hn]
  · rw [exec_autoRetuneRetry hp, autoRetry_due ht hac]
    refine ⟨fun hauto => ?_, fun hauto hlaw hswap hbank => ?_⟩
    · rw [autoRetune_givenUp (s := s.upTo _) hauto]; rfl
    · rw [autoRetune_applied (s := s.upTo _) hprop hin hauto hlaw hswap hbank]; rfl
  · exact runs_identRun ho hpl ⟨ha1, ha8⟩ ⟨hn1, hn64⟩ ⟨hm, hs, hdown, hrun, hswap, hac, hfatal, hpg⟩ hgot
  · have runs := runs_retune (p := p) ho hpl hm hprop hrail hlaw hswap
    refine ⟨fun hout => ?_, fun hin => ?_⟩
    · simpa only [hout, if_true] using runs
    · simpa only [hin, Bool.false_eq_true, if_false] using runs

end Sys2Proof.Proofs
end

section
/-!
PROOF. The ports of a rail's context: the number and the current of its active phases (R133, R180; the rounding and the saturation of ITOT by log entry 14).
-/

namespace Sys2Proof.Machine.State

/-- The active phases of a rail, picked from the channels by one test (R180). -/
theorem active_eq_filter (s : State) (r : Nat) : s.active r = (List.range 32).filter (fun c => s.on Reg.PHM_ASSIGN c && s.rd Reg.PHM_RAIL c == r && s.rd Reg.PHM_ROLE c == 1) := by
  unfold State.active State.phasesIn State.assigned
  rw [List.filter_filter]
  exact List.filter_congr fun _ _ => Bool.and_comm ..

/-- ITOT sums the latest CUR of the active phases (R180). -/
theorem itot_eq_sum (s : State) (r : Nat) : s.itot r = ((s.active r).map (fun c => s.rdS Reg.CSA_CUR c)).sum := by
  rw [List.sum_eq_foldl, List.foldl_map]; rfl

end Sys2Proof.Machine.State

namespace Sys2Proof.Proofs

open Machine Machine.State

/-- Settles O25: both ports go over the rail's active phases; that ITOT is rounded once to Q4.28 and saturates there is the model's choice (log entry 14). -/
theorem portsCountLivePhases : Obligations.PortsCountLivePhases := by
  intro r s live
  have hlive : s.active r = live := s.active_eq_filter r
  have hcount : s.nlive r = live.length := congrArg List.length hlive
  have hcurrent : s.itot r = (live.map (fun c => s.rdS Reg.CSA_CUR c)).sum := by rw [itot_eq_sum, hlive]
  rw [← hcount, ← hcurrent]
  exact ⟨rfl, rfl⟩

end Sys2Proof.Proofs
end

section
/-!
PROOF. Shedding and the charge balance: the dwell of a shed condition, the hold-off after a reversal, and the windows of the charge balance (R187 to R190, R196).
-/

namespace Sys2Proof.Machine

/-- A field of a later object has another key, whatever its index: also where the store holds a rail that does not exist. -/
theorem Fld.key_ne_of_obj_lt {f g : Fld} {i j : Nat} (h : f.obj < g.obj) (hw : f.word < 16) (hl : f.lo < 32) (hi : i < 256) : f.key i ≠ g.key j := by
  unfold Fld.key; omega

namespace State

/-! ### Shedding -/

/-- The dwell of a shed condition elapsed (R187). -/
def dwellElapsed (s : State) (r : Nat) : State := (s.upTo (s.vn .tDwell r - 1)).setV .tDwell r 0

/-- The dwell of a shed condition that still holds, with nothing in the step's way, ends in a shed step (R187, R189, R192). -/
theorem dwellEnds_sheds {s : State} {r : Nat} (ht : s.vn .tDwell r ≠ 0) (hthr : s.throttled r = false) (hcond : (s.dwellElapsed r).shedCond r = true) (hfrozen : (s.dwellElapsed r).shedFrozen r = false)
    (hdep : (s.dwellElapsed r).departing r = none) (hhold : (s.dwellElapsed r).on Reg.PHM_LEDG_HOLDING r = false) : s.dwellEnds r = (s.dwellElapsed r).startShed r := by
  have hruns : ¬ (s.vn .tDwell r = 0 ∨ s.throttled r = true) := by simp [ht, hthr]
  have hsheds : (s.dwellElapsed r).shedCond r = true ∧ ¬ (s.dwellElapsed r).shedFrozen r = true ∧ ((s.dwellElapsed r).departing r).isNone = true ∧ ¬ (s.dwellElapsed r).on Reg.PHM_LEDG_HOLDING r = true :=
    ⟨hcond, by rw [hfrozen]; decide, by rw [hdep]; rfl, by rw [hhold]; decide⟩
  exact (if_neg hruns).trans (if_pos hsheds)

/-- A shed step lets the chosen phase depart (R188, R189). -/
theorem startShed_chosen {s : State} {r c : Nat} (h : s.shedChoice r = some c) :
    s.startShed r = (((s.wr Reg.PHM_DEPART c 1).wr Reg.PHM_LEDG_SHEDDING r 1).setV .shedJ r 1).setV .tDwell r 0 := by unfold State.startShed; rw [h]; rfl

/-- What a shed step sets (R189). -/
theorem startShed_effect {s : State} {r c : Nat} (hr : r < 4) (h : s.shedChoice r = some c) :
    (s.startShed r).rd Reg.PHM_DEPART c = 1 ∧ (s.startShed r).rd Reg.PHM_LEDG_SHEDDING r = 1 ∧ (s.startShed r).v .shedJ r = 1 ∧ (s.startShed r).v .tDwell r = 0 := by
  have hc : c < 32 := phasesIn_lt (shedChoice_mem h)
  rw [startShed_chosen h]
  refine ⟨?_, ?_, ?_, v_setV_same ..⟩
  · rw [rd_setV, rd_setV, rd_wr_ne _ _ (by decide) (by omega) (by omega)]
    exact rd_wr_same ..
  · rw [rd_setV, rd_setV]
    exact rd_wr_same ..
  · exact (v_setV_ne _ _ (by decide) (by omega) (by omega)).trans (v_setV_same ..)

/-- The hold-off after a reversal ends, and the dwell is looked at again (R187, R190). -/
theorem holdEnds_runs {s : State} {r : Nat} (h : s.vn .tHold r ≠ 0) :
    s.holdEnds r = (((s.upTo (s.vn .tHold r - 1)).setV .tHold r 0).wr Reg.PHM_LEDG_HOLDING r 0).dwellCheck r := if_neg h

/-! ### Parts of a window's end -/

/-- Setting one variable at several indices, each to a value of its own, changes no field. -/
theorem regs_foldl_setV (x : Var) (g : State → Nat → Int) (l : List Nat) (s : State) : (l.foldl (fun t c => t.setV x c (g t c)) s).regs = s.regs :=
  foldl_keeps (P := fun t : State => t.regs = s.regs) (fun (t : State) c => t.setV x c (g t c)) (fun _ _ h => h) l s rfl

/-- Setting one variable at several indices changes no other variable. -/
theorem v_foldl_setV_ne {x y : Var} (hxy : x.ctorIdx ≠ y.ctorIdx) (g : State → Nat → Int) {l : List Nat} (hl : ∀ c ∈ l, c < 1024) {i : Nat} (hi : i < 1024) (s : State) :
    (l.foldl (fun t c => t.setV x c (g t c)) s).v y i = s.v y i :=
  List.foldlRecOn (motive := fun t : State => t.v y i = s.v y i) l _ rfl fun _ ht c hc => (v_setV_ne _ _ hxy (hl c hc) hi).trans ht

@[simp] theorem clearShares_regs (s : State) : s.clearShares.regs = s.regs := regs_foldl_setV .cbShare (fun _ _ => 0) _ s

@[simp] theorem passWindow_regs (s : State) : s.passWindow.regs = s.regs := regs_foldl_setV .senseWin _ _ s

/-- A window that has passed leaves the sums of the charge balance alone. -/
theorem v_passWindow_cbRun (s : State) : s.passWindow.v .cbRun 0 = s.v .cbRun 0 := v_foldl_setV_ne (by decide) _ (fun _ hc => (List.mem_range.1 hc).trans (by decide)) (by decide) s

/-- Keeping a window changes no field. -/
@[simp] theorem keepWindow_regs (s : State) (q : Int) : (s.keepWindow q).regs = s.regs := by
  have hclear : s.clearShares.regs = s.regs := s.clearShares_regs
  unfold State.keepWindow
  generalize s.clearShares = u at hclear
  extract_lets w
  split <;> exact hclear

/-- Phases declared failed in this window or the one before show SENSEQ (R196). -/
def flagSense (s : State) : State := (List.range 32).foldl (fun s c => if s.vn .senseWin c = 0 then s else s.wr Reg.PHM_SENSEQ c 1) s

/-- Showing SENSEQ changes no variable. -/
@[simp] theorem flagSense_vars (s : State) : s.flagSense.vars = s.vars :=
  foldl_keeps (P := fun t : State => t.vars = s.vars) (fun (t : State) c => if t.vn .senseWin c = 0 then t else t.wr Reg.PHM_SENSEQ c 1) (fun t c h => by split <;> exact h) _ s rfl

/-- Showing SENSEQ changes no other field. -/
theorem rd_flagSense (s : State) {f : Fld} {i : Nat} (hf : Reg.PHM_SENSEQ.base ≠ f.base) (hi : i < 256) : s.flagSense.rd f i = s.rd f i := by
  refine List.foldlRecOn (motive := fun t : State => t.rd f i = s.rd f i) _ _ rfl fun t ht c hc => ?_
  split
  · exact ht
  · exact (rd_wr_ne _ _ hf ((List.mem_range.1 hc).trans (by decide)) hi).trans ht

/-! ### Windows of the charge balance -/

/-- A window kept and judged: CBF shows its mismatch, CBFL holds one, and the sums restart (R196). -/
def windowJudged (s : State) (q : Int) : State :=
  let t := ((s.keepWindow q).wrB Reg.PHM_CTL_CBF 0 (s.mismatch q)).setV .cbRun 0 0
  if s.mismatch q then t.wr Reg.PHM_CTL_CBFL 0 1 else t

/-- The end of a window that declares no phase, where `m` says whether it had a mismatch: the windows in a row count anew (R193, R196). -/
def windowClosed (s : State) (m : Bool) : State :=
  let t := s.setV .cbWins 0 0
  (if m then t.flagSense else t).passWindow

/-- With the check on, a window that leaves CBFL 0, or finds no phase at its trim limit, declares no phase (R193, R196). -/
theorem balanceWindow_undeclared {s : State} {q : Int} (hen : s.on Reg.PHM_CTL_CBEN = true)
    (h : (s.windowJudged q).on Reg.PHM_CTL_CBFL = false ∨ (s.windowJudged q).allActive.filter (s.windowJudged q).trimAtLimit = []) :
    s.balanceWindow q = (s.windowJudged q).windowClosed (s.mismatch q) := by
  have undeclared : ∀ (b : Bool) (l : List Nat) (t : State) (d : Nat → State), b = false ∨ l = [] → (match b, l with | true, [c] => d c | _, _ => t) = t := by
    rintro b l t d (rfl | rfl)
    · rfl
    · cases b <;> rfl
  unfold State.balanceWindow
  rw [if_pos hen]
  exact congrArg (fun t : State => (if s.mismatch q then t.flagSense else t).passWindow) (undeclared _ _ _ _ h)

/-- CHARGE_BALANCE_WINDOW of a running block, by what the window's end is. -/
theorem exec_chargeBalanceWindow {s t : State} {q : Int} (hp : s.power = .running) (h : s.balanceWindow q = t) : exec (.chargeBalanceWindow q) s = .next t.after :=
  (act_after (f := fun u => u.balanceWindow q) hp).trans (by rw [h])

/-- With the check off the sums restart, and nothing is judged (R196). -/
theorem balanceWindow_off {s : State} (q : Int) (hen : s.on Reg.PHM_CTL_CBEN = false) : s.balanceWindow q = (s.clearShares.setV .cbRun 0 0).passWindow := if_neg (by rw [hen]; decide)

/-- Judging a window changes no field of the objects behind PHM_CTL, whatever the index. -/
theorem rd_windowJudged (s : State) (q : Int) {f : Fld} (hf : Reg.PHM_CTL_CBF.obj < f.obj) (i : Nat) : (s.windowJudged q).rd f i = s.rd f i := by
  have hcbf : Reg.PHM_CTL_CBF.key 0 ≠ f.key i := Fld.key_ne_of_obj_lt hf (by decide) (by decide) (by decide)
  have hcbfl : Reg.PHM_CTL_CBFL.key 0 ≠ f.key i := Fld.key_ne_of_obj_lt hf (by decide) (by decide) (by decide)
  have hflag : (((s.keepWindow q).wrB Reg.PHM_CTL_CBF 0 (s.mismatch q)).setV .cbRun 0 0).rd f i = s.rd f i := (rd_wr_key _ _ hcbf).trans (rd_of_regs (keepWindow_regs ..) f i)
  unfold State.windowJudged
  split
  · exact (rd_wr_key _ _ hcbfl).trans hflag
  · exact hflag

/-- Judging a window leaves the active phases at their trim limit as they are (R193). -/
theorem atLimit_windowJudged (s : State) (q : Int) : (s.windowJudged q).allActive.filter (s.windowJudged q).trimAtLimit = s.allActive.filter s.trimAtLimit := by
  have hrd : ∀ f ∈ [Reg.PHM_ASSIGN, Reg.PHM_ROLE, Reg.PHM_RAIL, Reg.PHM_BAL_TRIMMAX, Reg.PHM_TTAB, Reg.PHM_TINT], ∀ i, (s.windowJudged q).rd f i = s.rd f i := by
    have hobj : ∀ f ∈ [Reg.PHM_ASSIGN, Reg.PHM_ROLE, Reg.PHM_RAIL, Reg.PHM_BAL_TRIMMAX, Reg.PHM_TTAB, Reg.PHM_TINT], Reg.PHM_CTL_CBF.obj < f.obj := by decide
    exact fun f hf => s.rd_windowJudged q (hobj f hf)
  have hactive : (s.windowJudged q).allActive = s.allActive := by
    unfold State.allActive State.on
    simp only [hrd Reg.PHM_ASSIGN (by simp), hrd Reg.PHM_ROLE (by simp)]
  have hlimit : (s.windowJudged q).trimAtLimit = s.trimAtLimit := by
    funext c
    unfold State.trimAtLimit State.trim State.rdS
    simp only [hrd Reg.PHM_RAIL (by simp), hrd Reg.PHM_BAL_TRIMMAX (by simp), hrd Reg.PHM_TTAB (by simp), hrd Reg.PHM_TINT (by simp)]
  rw [hactive, hlimit]

/-- CBF shows whether the window had a mismatch (R196). -/
theorem rd_windowJudged_cbf (s : State) (q : Int) : (s.windowJudged q).rd Reg.PHM_CTL_CBF = b2n (s.mismatch q) := by
  have hflag : (((s.keepWindow q).wrB Reg.PHM_CTL_CBF 0 (s.mismatch q)).setV .cbRun 0 0).rd Reg.PHM_CTL_CBF = b2n (s.mismatch q) := by
    refine (rd_wr_same ..).trans ?_
    cases s.mismatch q <;> rfl
  unfold State.windowJudged
  split
  · exact (rd_wr_ne _ _ (by decide) (by decide) (by decide)).trans hflag
  · exact hflag

/-- A mismatch sets CBFL (R196). -/
theorem rd_windowJudged_cbfl_mismatch {s : State} {q : Int} (hm : s.mismatch q = true) : (s.windowJudged q).rd Reg.PHM_CTL_CBFL = 1 := by
  unfold State.windowJudged
  rw [if_pos hm]
  exact rd_wr_same ..

/-- Without a mismatch CBFL stays (R196). -/
theorem rd_windowJudged_cbfl_match {s : State} {q : Int} (hm : s.mismatch q = false) : (s.windowJudged q).rd Reg.PHM_CTL_CBFL = s.rd Reg.PHM_CTL_CBFL := by
  unfold State.windowJudged
  rw [if_neg (by rw [hm]; decide)]
  exact (rd_wr_ne _ _ (by decide) (by decide) (by decide)).trans (rd_of_regs (keepWindow_regs ..) _ _)

/-- A judged window's sums restart (R196). -/
theorem v_windowJudged_cbRun (s : State) (q : Int) : (s.windowJudged q).v .cbRun 0 = 0 := by
  unfold State.windowJudged
  split
  · exact (v_wr ..).trans (v_setV_same ..)
  · exact v_setV_same ..

/-- Closing a window changes no field but SENSEQ. -/
theorem rd_windowClosed (s : State) (m : Bool) {f : Fld} {i : Nat} (hf : Reg.PHM_SENSEQ.base ≠ f.base) (hi : i < 256) : (s.windowClosed m).rd f i = s.rd f i := by
  refine (rd_of_regs (passWindow_regs ..) f i).trans ?_
  split
  · exact rd_flagSense _ hf hi
  · rfl

/-- Closing a window leaves the sums of the charge balance as judging it left them. -/
theorem v_windowClosed_cbRun (s : State) (m : Bool) : (s.windowClosed m).v .cbRun 0 = s.v .cbRun 0 := by
  have hwins : (s.setV .cbWins 0 0).v .cbRun 0 = s.v .cbRun 0 := v_setV_ne _ _ (by decide) (by decide) (by decide)
  refine (v_passWindow_cbRun _).trans ?_
  split
  · exact (v_of_vars (flagSense_vars _) .cbRun 0).trans hwins
  · exact hwins

/-- What a window that declares no phase shows: CBF by its mismatch, CBFL as it was judged, and sums that restart (R196). -/
theorem windowClosed_effect (s : State) (q : Int) :
    let t := (s.windowJudged q).windowClosed (s.mismatch q)
    t.after.rd Reg.PHM_CTL_CBF = b2n (s.mismatch q) ∧ t.after.rd Reg.PHM_CTL_CBFL = (s.windowJudged q).rd Reg.PHM_CTL_CBFL ∧ t.after.v .cbRun 0 = 0 := by
  intro t
  refine ⟨?_, ?_, ?_⟩
  · exact (after_rd _ (by decide) (by decide) (by decide)).trans ((rd_windowClosed _ _ (by decide) (by decide)).trans (s.rd_windowJudged_cbf q))
  · exact (after_rd _ (by decide) (by decide) (by decide)).trans (rd_windowClosed _ _ (by decide) (by decide))
  · exact (after_v _ (by decide) (by decide)).trans ((v_windowClosed_cbRun _ _).trans (s.v_windowJudged_cbRun q))

/-! ### The fields that stay -/

namespace SameRegs

variable {l : List Nat} {s t : State}

/-- A write of a field whose key is named. -/
theorem wr {f : Fld} {i n : Nat} (hk : f.key i ∈ l) (h : s.SameRegs t l) : s.SameRegs (t.wr f i n) l :=
  fun g j hg => (rd_wr_key _ _ fun e => hg (e ▸ hk)).trans (h g j hg)

/-- What leaves the registers alone. -/
theorem congr {u : State} (h : s.SameRegs t l) (hr : u.regs = t.regs) : s.SameRegs u l := fun g j hg => (rd_of_regs hr g j).trans (h g j hg)

theorem rateCheck (h : s.SameRegs t afterKeys) : s.SameRegs t.rateCheck afterKeys := by
  refine List.foldlRecOn (motive := fun u : State => s.SameRegs u afterKeys) _ _ h fun u hu c hc => ?_
  split
  · exact hu.wr (List.mem_append_left _ (List.mem_map_of_mem hc))
  · exact hu

theorem wakeCheck {c : CoreId} (h : s.SameRegs t afterKeys) : s.SameRegs (t.wakeCheck c) afterKeys := by
  have hc : c.idx < 2 := by cases c <;> decide
  rcases t.wakeCheck_cases c with e | e <;> rw [e]
  · exact h
  · exact (h.wr (n := 1) (List.mem_append_right _ (List.mem_map_of_mem (List.mem_range.2 hc)))).congr rfl

theorem settle (h : s.SameRegs t afterKeys) : s.SameRegs t.settle afterKeys := by
  have hr : s.SameRegs t.rateCheck afterKeys := h.rateCheck
  unfold State.settle
  generalize t.rateCheck = u at hr
  exact wakeCheck (wakeCheck (hr.congr rfl))

/-- What follows a command changes the fields of `afterKeys` alone (R337, R441). -/
theorem after (h : s.SameRegs t afterKeys) : s.SameRegs t.after afterKeys := by
  rcases t.after_cases with e | e <;> rw [e]
  · exact h.settle
  · exact h

end SameRegs

end State

end Sys2Proof.Machine

namespace Sys2Proof.Proofs

open Machine Machine.State

/-- Settles O28: the timers of shedding by what their expiry does, and a window of the charge balance by its mismatch, where it declares no phase failed; that the dwell runs on while a rail is throttled and the step then waits is the model's choice (log entry 48). -/
theorem phaseTimersAct : Obligations.PhaseTimersAct := by
  refine ⟨fun r s hp => ⟨?_, fun h => ?_⟩, fun q s hp => ⟨fun hen hm hfl => ?_, fun hen hm hlimit => ?_, fun hen => ?_⟩⟩
  · intro u c _ ht hcond hfrozen hthr hdep hhold hchoice
    have hsheds : s.dwellEnds r = u.startShed r := dwellEnds_sheds ht hthr hcond hfrozen hdep hhold
    obtain ⟨hdepart, hshedding, hstep, hdwell⟩ := startShed_effect r.isLt hchoice
    refine ⟨(u.startShed r).after, (act_after (f := fun t => t.dwellEnds r) hp).trans (by rw [hsheds]), ?_, ?_, ?_, ?_⟩
    · exact (after_rd _ (by decide) (by decide) (by omega)).trans hdepart
    · exact (after_rd _ (by decide) (by decide) (by omega)).trans hshedding
    · exact (after_v _ (by decide) (by omega)).trans hstep
    · exact (after_v _ (by decide) (by omega)).trans hdwell
  · exact (act_after (f := fun t => t.holdEnds r) hp).trans (by rw [holdEnds_runs h])
  · have hclear : (s.windowJudged q).rd Reg.PHM_CTL_CBFL = 0 := (rd_windowJudged_cbfl_match hm).trans (by simpa using hfl)
    have hwindow := balanceWindow_undeclared hen (.inl (by rw [on_eq, hclear]; rfl))
    obtain ⟨hcbf, hcbfl, hrun⟩ := s.windowClosed_effect q
    exact ⟨_, exec_chargeBalanceWindow hp hwindow, hcbf.trans (by rw [hm]; rfl), hcbfl.trans hclear, hrun⟩
  · have hwindow := balanceWindow_undeclared hen (.inr ((s.atLimit_windowJudged q).trans hlimit))
    obtain ⟨hcbf, hcbfl, hrun⟩ := s.windowClosed_effect q
    exact ⟨_, exec_chargeBalanceWindow hp hwindow, hcbf.trans (by rw [hm]; rfl), hcbfl.trans (rd_windowJudged_cbfl_mismatch hm), hrun⟩
  · have hregs : (s.clearShares.setV .cbRun 0 0).passWindow.regs = s.regs := by rw [passWindow_regs, setV_regs, clearShares_regs]
    refine ⟨_, exec_chargeBalanceWindow hp (balanceWindow_off q hen), ?_, ?_⟩
    · exact (after_v _ (by decide) (by decide)).trans ((v_passWindow_cbRun _).trans (v_setV_same ..))
    · exact SameRegs.after fun f i _ => rd_of_regs hregs f i

end Sys2Proof.Proofs
end

section
/-!
PROOF. The characterisation table and its procedure: the save timer, the hourly look, the points and the end of a characterisation (R199, R200, R202 to R204).
-/

namespace Sys2Proof.Machine

/-- A bit of a number, in the library's terms. -/
theorem bit_eq_testBit (n i : Nat) : bit n i = n.testBit i := by rw [Nat.testBit_eq_decide_div_mod_eq]; rfl

/-- A bit that stands in a field's width is not lost where the number is cut to that width. -/
theorem bit_mod_two_pow {n i w : Nat} (h : i < w) : bit (n % 2 ^ w) i = bit n i := by
  rw [bit_eq_testBit, bit_eq_testBit, Nat.testBit_mod_two_pow, decide_eq_true h, Bool.true_and]

/-- A bit that was clear stands where its weight is added. -/
theorem bit_add_two_pow {n i : Nat} (h : bit n i = false) : bit (n + 2 ^ i) i = true := by
  rw [bit_eq_testBit] at h ⊢
  rw [Nat.add_comm, Nat.testBit_two_pow_add_eq, h]; rfl

namespace State

/-! ### The timers of the table -/

/-- PHASE_TABLE_SAVE_TIMER saves a table that has changed. -/
theorem exec_phaseTableSaveTimer {s : State} (hp : s.power = .running) : exec .phaseTableSaveTimer s = .next (if s.vOn .tableDirty then s.saveTable else s).after :=
  act_after (f := fun u => if u.vOn .tableDirty then u.saveTable else u) hp

/-- A table whose segments are queued waits for no save (R200). -/
theorem saveTable_effect (s : State) : s.saveTable.v .tableDirty 0 = 0 ∧ s.saveTable.rd Reg.PHM_TAB_SAVEPEND = 0 := ⟨(v_wr ..).trans (v_setV_same ..), rd_wr_same ..⟩

/-- The hit rate shown, in whole percent (R202). -/
def hitShown (s : State) : State := s.wr Reg.PHM_TAB_HITPCT 0 (100 * s.vn .goodLookups / s.vn .lookups)

/-- The hourly look after lookups: the hit rate, STALE where it is under 75 %, and counts that restart (R202). -/
theorem staleCheck_counted {s : State} (hn : 0 < s.vn .lookups) :
    s.staleCheck = ((if 100 * s.vn .goodLookups < 75 * s.vn .lookups then s.hitShown.wr Reg.PHM_TAB_STALE 0 1 else s.hitShown).setV .lookups 0 0).setV .goodLookups 0 0 := by
  have hshown : (if s.vn .lookups = 0 then s else s.hitShown) = s.hitShown := if_neg hn.ne'
  exact congrArg (fun u : State => ((if 100 * s.vn .goodLookups < 75 * s.vn .lookups then u.wr Reg.PHM_TAB_STALE 0 1 else u).setV .lookups 0 0).setV .goodLookups 0 0) hshown

/-- What the hourly look after lookups sets (R202). -/
theorem staleCheck_effect {s : State} (hn : 0 < s.vn .lookups) (hg : s.vn .goodLookups ≤ s.vn .lookups) :
    s.staleCheck.rd Reg.PHM_TAB_HITPCT = 100 * s.vn .goodLookups / s.vn .lookups ∧ (100 * s.vn .goodLookups < 75 * s.vn .lookups → s.staleCheck.rd Reg.PHM_TAB_STALE = 1) ∧
      s.staleCheck.v .lookups 0 = 0 ∧ s.staleCheck.v .goodLookups 0 = 0 := by
  have hpct : s.hitShown.rd Reg.PHM_TAB_HITPCT = 100 * s.vn .goodLookups / s.vn .lookups := by
    have hle : 100 * s.vn .goodLookups / s.vn .lookups ≤ 100 := Nat.div_le_of_le_mul (by rw [Nat.mul_comm]; exact Nat.mul_le_mul_right 100 hg)
    exact (rd_wr_same ..).trans (Nat.mod_eq_of_lt (hle.trans_lt (by decide)))
  rw [staleCheck_counted hn]
  refine ⟨?_, fun hstale => ?_, (v_setV_ne _ _ (by decide) (by decide) (by decide)).trans (v_setV_same ..), v_setV_same ..⟩
  · rw [rd_setV, rd_setV]
    split
    · exact (rd_wr_ne _ _ (by decide) (by decide) (by decide)).trans hpct
    · exact hpct
  · rw [rd_setV, rd_setV, if_pos hstale]
    exact rd_wr_same ..

/-! ### Points of a characterisation -/

/-- An entry that learns its trim changes, of the fields, NVALID and SAVEPEND (R199, R200). -/
theorem rd_learnEntry (s : State) (c band bin : Nat) (t : Int) {f : Fld} {i : Nat} (hvalid : Reg.PHM_TAB_NVALID.base ≠ f.base) (hpend : Reg.PHM_TAB_SAVEPEND.base ≠ f.base) (hi : i < 256) :
    (s.learnEntry c band bin t).rd f i = s.rd f i := by
  unfold State.learnEntry
  extract_lets e old nt e' s1 s2
  have h2 : s2.rd f i = s.rd f i := by
    have h1 : s1.rd f i = s.rd f i := rd_putWord ..
    simp only [s2]
    split
    · exact h1
    · exact (rd_wr_ne _ _ hvalid (by decide) hi).trans h1
  exact (rd_wr_ne _ _ hpend (by decide) hi).trans h2

/-- A point learned: its band marked, and counted (R199, R203). -/
def pointLearned (s : State) (c bin : Nat) (t : Int) : State :=
  let u := s.learnEntry c s.band bin t
  let m := u.rd Reg.PHM_CHAR_BANDS
  (u.wr Reg.PHM_CHAR_BANDS 0 (if bit m u.band then m else m + 2 ^ u.band)).bump Reg.PHM_CHAR_POINTS 0

/-- A point that a running procedure takes is learned; after the rail's last one the rail's ramp-down is asked for (R203). -/
theorem charPoint_taken {s : State} {r c bin : Nat} (t : Int) (hrun : s.on Reg.PHM_CHAR_RUN = true) (h : s.charTakes r c bin = true) :
    s.charPoint r c bin t = if (s.pointLearned c bin t).charMore r c bin then s.pointLearned c bin t else (s.pointLearned c bin t).setV .curDown r 1 := if_pos ⟨hrun, h⟩

/-- A point that the procedure does not take changes nothing (R203). -/
theorem charPoint_passed {s : State} {r c bin : Nat} (t : Int) (h : s.charTakes r c bin = false) : s.charPoint r c bin t = s := if_neg (by simp [h])

/-- A point that a running procedure takes shows in the fields that its learning changes (R203). -/
theorem rd_charPoint_taken {s : State} {r c bin : Nat} (t : Int) (hrun : s.on Reg.PHM_CHAR_RUN = true) (h : s.charTakes r c bin = true) (f : Fld) (i : Nat) :
    (s.charPoint r c bin t).rd f i = (s.pointLearned c bin t).rd f i := by
  rw [charPoint_taken t hrun h]
  split
  · rfl
  · exact rd_setV ..

/-- A point learned counts. -/
theorem rd_pointLearned_points (s : State) (c bin : Nat) (t : Int) :
    (s.pointLearned c bin t).rd Reg.PHM_CHAR_POINTS = min (s.rd Reg.PHM_CHAR_POINTS + 1) (2 ^ Reg.PHM_CHAR_POINTS.width - 1) := by
  unfold State.pointLearned
  rw [rd_bump_same, rd_wr_ne _ _ (by decide) (by decide) (by decide), rd_learnEntry _ _ _ _ _ (by decide) (by decide) (by decide)]

/-- A point learned marks the die's band (R203). -/
theorem bit_pointLearned_bands (s : State) (c bin : Nat) (t : Int) (hb : s.band < 8) : bit ((s.pointLearned c bin t).rd Reg.PHM_CHAR_BANDS) s.band = true := by
  have hband : (s.learnEntry c s.band bin t).band = s.band := rd_learnEntry _ _ _ _ _ (by decide) (by decide) (by decide)
  unfold State.pointLearned State.bump
  rw [rd_wr_ne _ _ (by decide) (by decide) (by decide), rd_wr_same, hband, bit_mod_two_pow (w := Reg.PHM_CHAR_BANDS.width) hb]
  split
  · assumption
  · exact bit_add_two_pow (Bool.eq_false_of_not_eq_true ‹_›)

/-- CHARACTERISE_POINT of a running block. -/
theorem exec_characterisePoint {s : State} (hp : s.power = .running) (c bin : Fin 32) (t : Int) :
    exec (.characterisePoint c bin t) s = .next (s.charPoint (s.rd Reg.PHM_RAIL c) c bin t).after :=
  act_after (f := fun u => u.charPoint (u.rd Reg.PHM_RAIL c) c bin t) hp

end State

end Sys2Proof.Machine

namespace Sys2Proof.Proofs

open Machine Machine.State

/-- Settles O29: the timers, the points and the end of the procedure, each by what it sets; SAVEPEND is the stored field, and that the segments enter the queue is in `State.saveTable`, which the statement does not name. That an hour of service is the row STALE_CHECK (log entry 58), and that the procedure takes its rails in turn, by the sender's points (log entry 29), are the model's choices. -/
theorem tableRowsAct : Obligations.TableRowsAct := by
  refine ⟨fun s hp => ⟨fun hdirty => ?_, fun hclean => ?_, fun hn hg => ?_⟩, fun s hp hrun hband => ⟨fun c bin t h => ?_, fun c bin t h => ?_, ?_⟩⟩
  · obtain ⟨hdirty', hpend⟩ := s.saveTable_effect
    refine ⟨_, (exec_phaseTableSaveTimer hp).trans (by rw [if_pos hdirty]), ?_, ?_⟩
    · exact (after_v _ (by decide) (by decide)).trans hdirty'
    · exact (after_rd _ (by decide) (by decide) (by decide)).trans hpend
  · rw [exec_phaseTableSaveTimer hp, hclean]; rfl
  · obtain ⟨hpct, hstale, hlookups, hgood⟩ := staleCheck_effect hn hg
    refine ⟨_, act_after (f := State.staleCheck) hp, ?_, fun h => ?_, ?_, ?_⟩
    · exact (after_rd _ (by decide) (by decide) (by decide)).trans hpct
    · exact (after_rd _ (by decide) (by decide) (by decide)).trans (hstale h)
    · exact (after_v _ (by decide) (by decide)).trans hlookups
    · exact (after_v _ (by decide) (by decide)).trans hgood
  · have hrd : ∀ (f : Fld), f.base ≠ Reg.CAP_RATECHG.base → f.base ≠ Reg.ICU_CORE_WAKEREQ.base →
        (s.charPoint (s.rd Reg.PHM_RAIL c) c bin t).after.rd f = (s.pointLearned c bin t).rd f :=
      fun f h1 h2 => (after_rd _ h1 h2 (by decide)).trans (rd_charPoint_taken t hrun h f 0)
    refine ⟨_, exec_characterisePoint hp c bin t, ?_, ?_⟩
    · exact (hrd _ (by decide) (by decide)).trans (s.rd_pointLearned_points c bin t)
    · rw [hrd _ (by decide) (by decide)]
      exact s.bit_pointLearned_bands c bin t hband
  · rw [exec_characterisePoint hp, charPoint_passed t h]
  · exact (act_after (f := State.charDone) hp).trans (congrArg (fun u : State => Host.Outcome.next u.after) (if_pos hrun))

end Sys2Proof.Proofs
end

section
/-!
PROOF. Packets of the Cue link: which ones a link in UP takes, what taking one changes, and what a discarded one leaves (R216, R220, R224).
-/

namespace Sys2Proof.Machine.State

variable {s : State}

/-! ### Taken packets -/

/-- In UP, a packet of a type that the agreed version has, with its fields in order, acts (R216, R220, R224). -/
theorem cuePacket_up {av : Nat} {fmt : Bool} (hup : s.link = linkUp) (hav : av ≤ s.rd Reg.CUE_LINK_AV) (hfmt : fmt = true) (q : Nat) (f : State → State) :
    s.cuePacket q av fmt f = f (s.cueSeq q) := by
  have htrained : ¬ s.link < linkNegot := by rw [hup]; decide
  have hagreed : ¬ (s.link = linkNegot ∨ s.link = linkNover) := by rw [hup]; decide
  unfold State.cuePacket
  rw [if_neg htrained, if_neg hagreed, if_neg (Nat.not_lt.2 hav), hfmt]
  rfl

/-- A running block whose link is up answers a packet that it takes with the packet's effect. -/
theorem exec_packet {c : Instr} {q av : Nat} {fmt : State → Bool} {g : State → State} (hx : exec c s = act s fun u => u.cuePacket q av (fmt u) g)
    (hp : s.power = .running) (hup : s.link = linkUp) (hav : av ≤ s.rd Reg.CUE_LINK_AV) (hfmt : fmt s = true) : exec c s = .next (g (s.cueSeq q)).after := by
  rw [hx, act_after hp, cuePacket_up hup hav hfmt]

/-- Of the fields, the sequence base of a packet concerns SEQERR alone (R224). -/
theorem rd_cueSeq (s : State) (q : Nat) {f : Fld} {i : Nat} (hf : Reg.CUE_ERR_SEQERR.base ≠ f.base) (hi : i < 256) : (s.cueSeq q).rd f i = s.rd f i := by
  unfold State.cueSeq
  rw [rd_setV, rd_setV]
  split
  · exact rd_wr_ne _ _ hf (by decide) hi
  · rfl

/-- Of the variables, it moves the base itself and the note that there is one (R224). -/
theorem v_cueSeq (s : State) (q : Nat) {x : Var} {i : Nat} (hlast : Var.lastCueSeq.ctorIdx ≠ x.ctorIdx) (hknown : Var.cueSeqKnown.ctorIdx ≠ x.ctorIdx) (hi : i < 1024) :
    (s.cueSeq q).v x i = s.v x i := by
  unfold State.cueSeq
  rw [v_setV_ne _ _ hknown (by decide) hi, v_setV_ne _ _ hlast (by decide) hi]
  split <;> rfl

/-- The base is the packet's own SEQ (R224). -/
theorem v_cueSeq_last (s : State) (q : Nat) : (s.cueSeq q).v .lastCueSeq = q := (v_setV_ne _ _ (by decide) (by decide) (by decide)).trans (v_setV_same ..)

@[simp] theorem cueSeq_now (s : State) (q : Nat) : (s.cueSeq q).now = s.now := by
  unfold State.cueSeq
  dsimp only [setV_now]
  split <;> rfl

@[simp] theorem mode_cueSeq (s : State) (q : Nat) : (s.cueSeq q).mode = s.mode := rd_cueSeq _ _ (by decide) (by decide)

/-- A rail's state has its place apart from the link's counters. -/
theorem railState_cueSeq (s : State) (q r : Nat) : (s.cueSeq q).railState r = s.railState r := by
  have apart : ∀ f ∈ [Reg.SYS_RAILST_STATE_A, Reg.SYS_RAILST_STATE_B, Reg.SYS_RAILST_STATE_C, Reg.SYS_RAILST_STATE_D], Reg.CUE_ERR_SEQERR.base ≠ f.base := by decide
  exact rd_cueSeq _ _ (apart _ (stateFld_mem r)) (by decide)

/-! ### Discarded packets -/

/-- In UP a discarded packet asks for a NAK with the last good SEQ, counts, raises source 51 and is recorded (R224, R435). -/
theorem cueDiscard_up (hup : s.link = linkUp) (f : Fld) (err : Nat) :
    s.cueDiscard f err = ((((s.setV .nakDue 0 1).setV .nakVal 0 (err * 16 + s.vn .lastCueSeq : Nat)).bump f 0).irq 51).event 0x5004 1 (leBytes 1 err) := by
  unfold State.cueDiscard
  rw [if_pos hup, Nat.cast_add, Nat.cast_mul]
  rfl

/-- A running block whose link is up answers a packet that fails a check with its discarding. -/
theorem exec_discard {c : Instr} {f : Fld} {err : Nat} (hx : exec c s = act s fun u => if u.link < linkNegot then u else u.cueDiscard f err) (hp : s.power = .running) (hup : s.link = linkUp) :
    exec c s = .next (((((s.setV .nakDue 0 1).setV .nakVal 0 (err * 16 + s.vn .lastCueSeq : Nat)).bump f 0).irq 51).event 0x5004 1 (leBytes 1 err)).after := by
  have htrained : ¬ s.link < linkNegot := by rw [hup]; decide
  rw [hx, act_after hp, if_neg htrained, cueDiscard_up hup]

end Sys2Proof.Machine.State
end

section
/-!
PROOF. The training of the Cue link, and its voltage and slew commands (R138, R139, R220, R221, R225).
-/

namespace Sys2Proof.Machine

/-- Between two bounds in order, a natural number is clamped as a natural number. -/
theorem toNat_clamp {lo hi : Nat} (h : lo ≤ hi) (x : Nat) : (clamp lo hi x).toNat = max lo (min hi x) := by
  unfold clamp
  split
  · omega
  · split <;> omega

namespace State

variable {s : State}

/-! ### Training -/

/-- The fields of a TRAIN packet shown (R221). -/
def loadShown (s : State) (vmax vmin rails : Nat) : State := ((s.wr Reg.CUE_LINK_LDMAX 0 vmax).wr Reg.CUE_LINK_LDMIN 0 vmin).wr Reg.CUE_LINK_LRAILS 0 rails

/-- A version agreed on: a change of it starts every SCORE anew (R221, R231). -/
def agreeOn (s : State) (av : Nat) : State :=
  if av = s.rd Reg.CUE_LINK_AV then s else (List.range 4).foldl (fun s r => s.wr Reg.CUE_SCORE r 65535) (s.wr Reg.CUE_LINK_AV 0 av)

/-- The reply to a TRAIN queued, with the versions of this moment (R221). -/
def replyQueued (s : State) : State := (s.setV .trainDue 0 1).setV .trainVal 0 (s.rd Reg.CUE_CTL_CUEVMAX * 16 + s.rd Reg.CUE_CTL_CUEVMIN)

/-- A negotiation that found no version (R221). -/
def noVersion (s : State) (vmax vmin : Nat) : State := ((s.wr Reg.CUE_LINK_STATE 0 linkNover).wr Reg.CUE_LINK_NOVERF 0 1).event 0x5003 2 (leBytes 1 vmax ++ leBytes 1 vmin)

/-- Writing one field at several indices changes no other field. -/
theorem rd_foldl_wr_ne {f g : Fld} {i : Nat} (h : g.base ≠ f.base) (n : Nat) {l : List Nat} (hl : ∀ c ∈ l, c < 256) (hi : i < 256) (s : State) :
    (l.foldl (fun t c => t.wr g c n) s).rd f i = s.rd f i :=
  List.foldlRecOn (motive := fun t : State => t.rd f i = s.rd f i) l _ rfl fun _ ht c hc => (rd_wr_ne _ _ h (hl c hc) hi).trans ht

/-- The version agreed on shows in AV. -/
theorem rd_agreeOn_av (s : State) {av : Nat} (hav : av < 4) : (s.agreeOn av).rd Reg.CUE_LINK_AV = av := by
  unfold State.agreeOn
  split
  · exact (‹av = s.rd Reg.CUE_LINK_AV›).symm
  · exact (rd_foldl_wr_ne (by decide) _ (fun _ hc => (List.mem_range.1 hc).trans (by decide)) (by decide) _).trans ((rd_wr_same ..).trans (Nat.mod_eq_of_lt hav))

/-- Agreeing on a version changes no field but AV and the scores. -/
theorem rd_agreeOn (s : State) (av : Nat) {f : Fld} {i : Nat} (hav : Reg.CUE_LINK_AV.base ≠ f.base) (hscore : Reg.CUE_SCORE.base ≠ f.base) (hi : i < 256) :
    (s.agreeOn av).rd f i = s.rd f i := by
  unfold State.agreeOn
  split
  · rfl
  · exact (rd_foldl_wr_ne hscore _ (fun _ hc => (List.mem_range.1 hc).trans (by decide)) hi _).trans (rd_wr_ne _ _ hav (by decide) hi)

/-- Showing the load's fields changes no other field. -/
theorem rd_loadShown (s : State) (vmax vmin rails : Nat) {f : Fld} {i : Nat} (hmax : Reg.CUE_LINK_LDMAX.base ≠ f.base) (hmin : Reg.CUE_LINK_LDMIN.base ≠ f.base)
    (hrails : Reg.CUE_LINK_LRAILS.base ≠ f.base) (hi : i < 256) : (s.loadShown vmax vmin rails).rd f i = s.rd f i :=
  (rd_wr_ne _ _ hrails (by decide) hi).trans ((rd_wr_ne _ _ hmin (by decide) hi).trans (rd_wr_ne _ _ hmax (by decide) hi))

/-- A TRAIN in NEGOT with its fields in order: the highest version in common is agreed on, and without one the negotiation ends (R221). -/
theorem trainIn_negot {vmax vmin rails : Nat} (hlink : s.link = linkNegot) (hmax : vmax ≠ 0 ∧ vmax ≤ 15) (hmin : vmin ≠ 0 ∧ vmin ≤ vmax) (hrails : rails ≤ 15) :
    let m := min vmax (s.rd Reg.CUE_CTL_CUEVMAX)
    s.trainIn vmax vmin rails = if vmin ≤ m ∧ s.rd Reg.CUE_CTL_CUEVMIN ≤ m then ((s.loadShown vmax vmin rails).agreeOn m).replyQueued
      else (((s.loadShown vmax vmin rails).agreeOn 0).replyQueued).noVersion vmax vmin := by
  intro m
  have hstate : (s.loadShown vmax vmin rails).link = linkNegot := (rd_loadShown _ _ _ _ (by decide) (by decide) (by decide) (by decide)).trans hlink
  have hvmax : (s.loadShown vmax vmin rails).rd Reg.CUE_CTL_CUEVMAX = s.rd Reg.CUE_CTL_CUEVMAX := rd_loadShown _ _ _ _ (by decide) (by decide) (by decide) (by decide)
  have hvmin : (s.loadShown vmax vmin rails).rd Reg.CUE_CTL_CUEVMIN = s.rd Reg.CUE_CTL_CUEVMIN := rd_loadShown _ _ _ _ (by decide) (by decide) (by decide) (by decide)
  have htrained : ¬ s.link < linkNegot := by rw [hlink]; decide
  have hok : ¬ (vmax = 0 ∨ 15 < vmax ∨ vmin = 0 ∨ vmax < vmin ∨ 15 < rails) := by omega
  have hup : ¬ ((s.loadShown vmax vmin rails).link = linkUp ∨ (s.loadShown vmax vmin rails).link = linkListen) := by rw [hstate]; decide
  unfold State.trainIn
  rw [if_neg htrained, if_neg hok]
  dsimp only
  rw [← State.loadShown, hvmax, hvmin, if_neg hup, ← Bool.decide_and]
  by_cases h : vmin ≤ m ∧ s.rd Reg.CUE_CTL_CUEVMIN ≤ m
  · rw [decide_eq_true h, if_pos h]; rfl
  · rw [decide_eq_false h, if_neg h]; rfl

/-- What a negotiation that finds a version leaves (R221). -/
theorem replyQueued_effect {vmax vmin : Nat} (rails : Nat) (hlink : s.link = linkNegot) (hmax : vmax ≤ 15) (hmin : vmin ≤ 15) {m : Nat} (hm : m < 4) :
    let t := ((s.loadShown vmax vmin rails).agreeOn m).replyQueued
    t.rd Reg.CUE_LINK_AV = m ∧ t.rd Reg.CUE_LINK_LDMAX = vmax ∧ t.rd Reg.CUE_LINK_LDMIN = vmin ∧ t.v .trainDue = 1 ∧ t.link = linkNegot := by
  intro t
  have agreed : ∀ f : Fld, Reg.CUE_LINK_AV.base ≠ f.base → Reg.CUE_SCORE.base ≠ f.base → t.rd f = (s.loadShown vmax vmin rails).rd f := fun f hav hscore => rd_agreeOn _ _ hav hscore (by decide)
  refine ⟨rd_agreeOn_av _ hm, (agreed _ (by decide) (by decide)).trans ?_, (agreed _ (by decide) (by decide)).trans ?_, (v_setV_ne _ _ (by decide) (by decide) (by decide)).trans (v_setV_same ..), ?_⟩
  · unfold State.loadShown
    rw [rd_wr_ne _ _ (by decide) (by decide) (by decide), rd_wr_ne _ _ (by decide) (by decide) (by decide), rd_wr_same]
    exact Nat.mod_eq_of_lt (Nat.lt_succ_of_le hmax)
  · unfold State.loadShown
    rw [rd_wr_ne _ _ (by decide) (by decide) (by decide), rd_wr_same]
    exact Nat.mod_eq_of_lt (Nat.lt_succ_of_le hmin)
  · exact (agreed _ (by decide) (by decide)).trans ((rd_loadShown _ _ _ _ (by decide) (by decide) (by decide) (by decide)).trans hlink)

/-- What a negotiation without a version leaves (R221). -/
theorem noVersion_effect (s : State) (vmax vmin : Nat) :
    let t := ((s.agreeOn 0).replyQueued).noVersion vmax vmin
    t.rd Reg.CUE_LINK_AV = 0 ∧ t.link = linkNover ∧ t.rd Reg.CUE_LINK_NOVERF = 1 ∧ t.v .trainDue = 1 := by
  refine ⟨?_, ?_, ?_, ?_⟩
  · refine (rd_event _ _ _ _ (by decide) (by decide)).trans ?_
    rw [rd_wr_ne _ _ (by decide) (by decide) (by decide), rd_wr_ne _ _ (by decide) (by decide) (by decide)]
    exact rd_agreeOn_av s (by decide)
  · refine (rd_event _ _ _ _ (by decide) (by decide)).trans ?_
    rw [rd_wr_ne _ _ (by decide) (by decide) (by decide)]
    exact rd_wr_same ..
  · exact (rd_event _ _ _ _ (by decide) (by decide)).trans (rd_wr_same ..)
  · exact (v_event ..).trans ((v_setV_ne _ _ (by decide) (by decide) (by decide)).trans (v_setV_same ..))

/-! ### Voltage commands -/

/-- CUE_VCMD of a running block whose link is up. -/
theorem exec_cueVcmd_up (hp : s.power = .running) (hup : s.link = linkUp) (hav : 1 ≤ s.rd Reg.CUE_LINK_AV) (q : BitVec 4) (r : BitVec 2) (code : BitVec 12) (vid : Byte) :
    exec (.cueVcmd q r code vid) s = .next ((s.cueSeq q.toNat).vcmd r.toNat code.toNat vid.toNat).after :=
  exec_packet (av := 1) (fmt := fun _ => true) (g := fun u => u.vcmd r.toNat code.toNat vid.toNat) rfl hp hup hav rfl

/-- A target taken: outside ramp-down and the wake time the reference of a rail in RAMP or REGULATE aims for it (R140, R143). -/
theorem setTarget_cases (s : State) (r c : Nat) : s.setTarget r c = s.wr Reg.LE_TGTNOW r c ∨ s.setTarget r c = (s.wr Reg.LE_TGTNOW r c).aimRef r (codeVolts c) := by
  unfold State.setTarget
  dsimp only
  split
  · exact .inl rfl
  · split
    · exact .inr rfl
    · exact .inl rfl

/-- A new aim changes no field. -/
@[simp] theorem aimRef_regs (s : State) (r : Nat) (t : Int) : (s.aimRef r t).regs = s.regs := by
  rcases s.aimRef_cases r t with h | h <;> rw [h]
  · rfl
  · unfold State.identSpoil; split <;> rfl

/-- A target shows in TGTNOW. -/
theorem rd_setTarget_tgtnow (s : State) (r c : Nat) : (s.setTarget r c).rd Reg.LE_TGTNOW r = c % 2 ^ Reg.LE_TGTNOW.width := by
  rcases s.setTarget_cases r c with h | h <;> rw [h]
  · exact rd_wr_same ..
  · exact (rd_of_regs (aimRef_regs ..) _ _).trans (rd_wr_same ..)

/-- A target changes no variable outside the reference. -/
theorem v_setTarget (s : State) {r : Nat} (hr : r < 4) (c : Nat) {x : Var} {i : Nat} (hx : x.ctorIdx ∉ fixVars) (ht : Var.refTgt.ctorIdx ≠ x.ctorIdx) (hi : i < 1024) :
    (s.setTarget r c).v x i = s.v x i := by
  rcases s.setTarget_cases r c with h | h <;> rw [h]
  · rfl
  · exact v_aimRef _ hr _ hx ht hi

/-- CLAMPF set where the code had to be clamped (R138). -/
def clampShown (s : State) (r c code : Nat) : State := if c = code then s else s.wr Reg.LE_CLAMPF r 1

/-- Showing a clamp changes no variable. -/
@[simp] theorem clampShown_vars (s : State) (r c code : Nat) : (s.clampShown r c code).vars = s.vars := by unfold State.clampShown; split <;> rfl

/-- A voltage command for a live rail that follows the Cue: the clamped code is the target, and its VID is kept (R138, R139, R225). -/
theorem vcmd_taken {r code : Nat} (vid : Nat) (hsrc : s.rd Reg.LE_VSRC r ≠ 0) (hlive : s.railState r = railRamp ∨ s.railState r = railRegulate) (hcode : code ≤ 3200)
    (hlim : s.rd Reg.LE_VMIN r ≤ s.rd Reg.LE_VMAX r) :
    let c := max (s.rd Reg.LE_VMIN r) (min (s.rd Reg.LE_VMAX r) code)
    s.vcmd r code vid = ((s.clampShown r c code).setTarget r c).setV .lastVid r vid := by
  intro c
  have hc : (clamp (s.rd Reg.LE_VMIN r) (s.rd Reg.LE_VMAX r) code).toNat = c := toNat_clamp hlim code
  have hruns : ¬ (s.rd Reg.LE_VSRC r = 0 ∨ s.railState r = railDisabled ∨ s.railState r = railFaultOff) := by
    rcases hlive with h | h <;> rw [h] <;> simpa [railDisabled, railFaultOff, railRamp, railRegulate] using hsrc
  unfold State.vcmd
  rw [if_neg hruns, if_neg (Nat.not_lt.2 hcode), hc]
  rfl

/-- A voltage command for a rail that follows the host counts as rejected (R138). -/
theorem vcmd_rejected {r : Nat} (code vid : Nat) (hsrc : s.rd Reg.LE_VSRC r = 0) : s.vcmd r code vid = s.bump Reg.LE_CMDREJ r := if_pos (.inl hsrc)

/-- What a voltage command that is taken leaves (R138, R225). -/
theorem vcmd_taken_effect {r code : Nat} (vid : Nat) (hr : r < 4) (hsrc : s.rd Reg.LE_VSRC r ≠ 0) (hlive : s.railState r = railRamp ∨ s.railState r = railRegulate) (hcode : code ≤ 3200)
    (hlim : s.rd Reg.LE_VMIN r ≤ s.rd Reg.LE_VMAX r) (hmax : s.rd Reg.LE_VMAX r < 4096) :
    (s.vcmd r code vid).rd Reg.LE_TGTNOW r = max (s.rd Reg.LE_VMIN r) (min (s.rd Reg.LE_VMAX r) code) ∧ (s.vcmd r code vid).v .lastVid r = vid ∧
      (s.vcmd r code vid).v .lastCueSeq = s.v .lastCueSeq := by
  rw [vcmd_taken vid hsrc hlive hcode hlim]
  refine ⟨?_, v_setV_same .., ?_⟩
  · rw [rd_setV, rd_setTarget_tgtnow]
    exact Nat.mod_eq_of_lt (show _ < 4096 by omega)
  · rw [v_setV_ne _ _ (by decide) (by omega) (by decide), v_setTarget _ hr _ (by decide) (by decide) (by decide)]
    exact v_of_vars (clampShown_vars ..) _ _

/-! ### Slew commands -/

/-- CUE_SLEW of a running block whose link is up, with a slew in its range. -/
theorem exec_cueSlew_up (hp : s.power = .running) (hup : s.link = linkUp) (hav : 1 ≤ s.rd Reg.CUE_LINK_AV) (q : BitVec 4) (r : BitVec 2) {slew : BitVec 10} (hslew : slew ≠ 0#10) (hslew' : slew.toNat ≤ 1000) :
    exec (.cueSlew q r slew) s = .next ((s.cueSeq q.toNat).cueSlewCmd r.toNat slew.toNat).after :=
  exec_packet (av := 1) (fmt := fun _ => slew != 0 && decide (slew.toNat ≤ 1000)) (g := fun u => u.cueSlewCmd r.toNat slew.toNat) rfl hp hup hav (by simp [hslew, hslew'])

/-- A slew command for a rail that follows the Cue keeps the slew; in REGULATE outside a ramp-down the reference takes it at once (R139, R225). -/
theorem cueSlewCmd_cases {r : Nat} (code : Nat) (hsrc : s.rd Reg.LE_VSRC r ≠ 0) :
    s.cueSlewCmd r code = s.setV .cueSlew r code ∨ s.cueSlewCmd r code = (s.setV .cueSlew r code).slewRef r ((s.setV .cueSlew r code).railSlew r) := by
  unfold State.cueSlewCmd
  rw [if_neg hsrc]
  dsimp only
  split
  · exact .inr rfl
  · exact .inl rfl

/-- What such a slew command leaves (R139, R225). -/
theorem cueSlewCmd_effect {r : Nat} (code : Nat) (hr : r < 4) (hsrc : s.rd Reg.LE_VSRC r ≠ 0) :
    (s.cueSlewCmd r code).v .cueSlew r = code ∧ (s.cueSlewCmd r code).v .lastCueSeq = s.v .lastCueSeq := by
  have hkept : (s.setV .cueSlew r code).v .lastCueSeq = s.v .lastCueSeq := v_setV_ne _ _ (by decide) (by omega) (by decide)
  rcases s.cueSlewCmd_cases code hsrc with h | h <;> rw [h]
  · exact ⟨v_setV_same .., hkept⟩
  · exact ⟨(v_slewRef _ hr _ (by decide) (by decide) (by omega)).trans (v_setV_same ..), (v_slewRef _ hr _ (by decide) (by decide) (by decide)).trans hkept⟩

/-! ### PING -/

/-- CUE_PING of a running block whose link is up asks for an ECHO of its token (R227). -/
theorem exec_cuePing_up (hp : s.power = .running) (hup : s.link = linkUp) (hav : 1 ≤ s.rd Reg.CUE_LINK_AV) (q : BitVec 4) (tok : Byte) :
    exec (.cuePing q tok) s = .next (((s.cueSeq q.toNat).setV .echoDue 0 1).setV .echoVal 0 tok.toNat).after := by
  have hstill : (s.cueSeq q.toNat).link = linkUp := (rd_cueSeq _ _ (by decide) (by decide)).trans hup
  have hexec := exec_packet (c := .cuePing q tok) (av := 1) (fmt := fun _ => true) (g := fun u => if u.link = linkUp then (u.setV .echoDue 0 1).setV .echoVal 0 tok.toNat else u) rfl hp hup hav rfl
  rwa [if_pos hstill] at hexec

end State

end Sys2Proof.Machine

namespace Sys2Proof.Proofs

open Machine Machine.State

/-- Settles O30: the training by its states and versions, and each command in UP by its effect behind the sequence base; the record of NOVER is in `State.noVersion`, which the statement does not name. That AV is 0 without a common version is the model's choice (log entry 59). -/
theorem cueTrainingAndCommandsAct : Obligations.CueTrainingAndCommandsAct := by
  refine ⟨fun s hp => ⟨fun h => ?_, fun h => ?_, fun vmax vmin rails hlink hmax hmax' hmin hle hrails => ?_⟩,
    fun q r s hp hup hav => ⟨fun code vid hsrc hlive hcode hlim hvmax => ?_, fun code vid hsrc => ?_, fun slew hslew hslew' hsrc => ?_, fun tok => ?_⟩⟩
  · exact (act_after (f := fun u => if u.link = linkWait then u.wr Reg.CUE_LINK_STATE 0 linkDeskew else u) hp).trans (by rw [if_pos h])
  · exact (act_after (f := fun u => if u.link = linkDeskew then u.wr Reg.CUE_LINK_STATE 0 linkNegot else u) hp).trans (by rw [if_pos h])
  · intro m
    have hmax0 : vmax.toNat ≠ 0 := fun h => hmax (BitVec.eq_of_toNat_eq h)
    have hmin0 : vmin.toNat ≠ 0 := fun h => hmin (BitVec.eq_of_toNat_eq h)
    have htrain := trainIn_negot hlink ⟨hmax0, hmax'⟩ ⟨hmin0, hle⟩ hrails
    have hexec := act_after (f := fun u => u.trainIn vmax.toNat vmin.toNat rails.toNat) hp
    refine ⟨fun hlo hlo' hm => ?_, fun hlo => ?_⟩
    · obtain ⟨hav, hldmax, hldmin, hdue, hstate⟩ := replyQueued_effect rails.toNat hlink hmax' (hle.trans hmax') hm
      refine ⟨_, hexec.trans (by rw [htrain, if_pos ⟨hlo, hlo'⟩]), ?_, ?_, ?_, ?_, ?_⟩
      · exact (after_rd _ (by decide) (by decide) (by decide)).trans hav
      · exact (after_rd _ (by decide) (by decide) (by decide)).trans hldmax
      · exact (after_rd _ (by decide) (by decide) (by decide)).trans hldmin
      · exact (after_v _ (by decide) (by decide)).trans hdue
      · exact (after_rd _ (by decide) (by decide) (by decide)).trans hstate
    · obtain ⟨hav, hstate, hflag, hdue⟩ := (s.loadShown vmax.toNat vmin.toNat rails.toNat).noVersion_effect vmax.toNat vmin.toNat
      refine ⟨_, hexec.trans (by rw [htrain, if_neg fun ⟨h, _⟩ => Nat.not_le.2 hlo h]), ?_, ?_, ?_, ?_⟩
      · exact (after_rd _ (by decide) (by decide) (by decide)).trans hav
      · exact (after_rd _ (by decide) (by decide) (by decide)).trans hstate
      · exact (after_rd _ (by decide) (by decide) (by decide)).trans hflag
      · exact (after_v _ (by decide) (by decide)).trans hdue
  · have hkept : ∀ f ∈ [Reg.LE_VSRC, Reg.LE_VMIN, Reg.LE_VMAX], (s.cueSeq q.toNat).rd f r.toNat = s.rd f r.toNat := by
      have apart : ∀ f ∈ [Reg.LE_VSRC, Reg.LE_VMIN, Reg.LE_VMAX], Reg.CUE_ERR_SEQERR.base ≠ f.base := by decide
      exact fun f hf => rd_cueSeq _ _ (apart f hf) (by omega)
    have hmin := hkept Reg.LE_VMIN (by simp)
    have hmax := hkept Reg.LE_VMAX (by simp)
    obtain ⟨htgt, hvid, hseq⟩ := vcmd_taken_effect (s := s.cueSeq q.toNat) vid.toNat r.isLt (by rwa [hkept _ (by simp)]) (by rwa [railState_cueSeq]) hcode (by rwa [hmin, hmax]) (by rwa [hmax])
    refine ⟨_, exec_cueVcmd_up hp hup hav q r code vid, ?_, ?_, ?_⟩
    · exact (after_rd _ (by decide) (by decide) (by omega)).trans (htgt.trans (by rw [hmin, hmax]))
    · exact (after_v _ (by decide) (by omega)).trans hvid
    · exact (after_v _ (by decide) (by decide)).trans (hseq.trans (v_cueSeq_last ..))
  · have hsrc' : (s.cueSeq q.toNat).rd Reg.LE_VSRC r.toNat = 0 := (rd_cueSeq _ _ (by decide) (by omega)).trans hsrc
    refine ⟨_, (exec_cueVcmd_up hp hup hav q r code vid).trans (by rw [vcmd_rejected _ _ hsrc']), ?_, ?_⟩
    · rw [after_rd _ (by decide) (by decide) (by omega), rd_bump_same, rd_cueSeq _ _ (by decide) (by omega)]
    · exact (after_rd _ (by decide) (by decide) (by omega)).trans ((rd_wr_ne _ _ (by decide) (by omega) (by omega)).trans (rd_cueSeq _ _ (by decide) (by omega)))
  · have hsrc' : (s.cueSeq q.toNat).rd Reg.LE_VSRC r.toNat ≠ 0 := by rwa [rd_cueSeq _ _ (by decide) (by omega)]
    obtain ⟨hkept, hseq⟩ := cueSlewCmd_effect slew.toNat r.isLt hsrc'
    refine ⟨_, exec_cueSlew_up hp hup hav q r hslew hslew', ?_, ?_⟩
    · exact (after_v _ (by decide) (by omega)).trans hkept
    · exact (after_v _ (by decide) (by decide)).trans (hseq.trans (v_cueSeq_last ..))
  · refine ⟨_, exec_cuePing_up hp hup hav q tok, ?_, ?_, ?_⟩
    · exact (after_v _ (by decide) (by decide)).trans ((v_setV_ne _ _ (by decide) (by decide) (by decide)).trans (v_setV_same ..))
    · exact (after_v _ (by decide) (by decide)).trans (v_setV_same ..)
    · rw [after_v _ (by decide) (by decide), v_setV_ne _ _ (by decide) (by decide) (by decide), v_setV_ne _ _ (by decide) (by decide) (by decide), v_cueSeq_last]

end Sys2Proof.Proofs
end

section
/-!
PROOF. Forecast, CANCEL, STATE and QUIET packets, and the timers of a forecast's window (R141, R226, R228 to R230, R237).
-/

namespace Sys2Proof.Machine.State

variable {s : State}

/-! ### Forecasts and cancels -/

/-- CUE_FCST of a running block whose link is up, with a current step and a lead in its range: the forecast is presented (R216, R228). -/
theorem exec_cueFcst_up (hp : s.power = .running) (hup : s.link = linkUp) (hav : 3 ≤ s.rd Reg.CUE_LINK_AV) (q : BitVec 4) (r : BitVec 2) (fid : BitVec 4) {di lead : BitVec 16} (lc dur : Byte) (t : Nat)
    (hdi : di ≠ 0#16) (hlead : lead.toNat ≤ 40000) :
    exec (.cueFcst q r fid di lead lc dur t) s = .next ((s.cueSeq q.toNat).fcstIn r.toNat fid.toNat di.toInt lead.toNat lc.toNat dur.toNat t).after :=
  exec_packet (av := 2) (fmt := fun u => di != 0 && decide (lead.toNat ≤ 40000) && (dur == 0 || decide (3 ≤ u.rd Reg.CUE_LINK_AV)))
    (g := fun u => u.fcstIn r.toNat fid.toNat di.toInt lead.toNat lc.toNat dur.toNat t) rfl hp hup (le_trans (by decide) hav) (by simp [hdi, hlead, hav])

/-- CUE_CANCEL of a running block whose link is up. -/
theorem exec_cueCancel_up (hp : s.power = .running) (hup : s.link = linkUp) (hav : 2 ≤ s.rd Reg.CUE_LINK_AV) (q : BitVec 4) (r : BitVec 2) (fid : BitVec 4) (t : Nat) :
    exec (.cueCancel q r fid t) s = .next ((s.cueSeq q.toNat).cancelIn r.toNat fid.toNat t).after :=
  exec_packet (av := 2) (fmt := fun _ => true) (g := fun u => u.cancelIn r.toNat fid.toNat t) rfl hp hup hav rfl

/-- A CANCEL of the open window before its arrival closes it as cancelled (R230). -/
theorem cancelIn_open {r fid t : Nat} (hopen : s.on Reg.CUE_OPEN r = true) (hfid : s.rd Reg.CUE_FID r = fid) (hbefore : max s.now t < s.vn .fcTa r) :
    s.cancelIn r fid t = (s.upTo t).closeWindow r outCancelled := by
  have hnow : (s.upTo t).now < (s.upTo t).vn .fcTa r := hbefore
  unfold State.cancelIn
  dsimp only
  rw [if_pos hnow]
  exact if_pos ⟨hopen, hfid⟩

/-- A CANCEL of no open window closes none (R230). -/
theorem cancelIn_none {r fid : Nat} (t : Nat) (h : s.on Reg.CUE_OPEN r = false ∨ s.rd Reg.CUE_FID r ≠ fid) : s.cancelIn r fid t = s.upTo t := by
  have hnone : ¬ ((s.upTo t).on Reg.CUE_OPEN r = true ∧ (s.upTo t).rd Reg.CUE_FID r = fid) := by
    rintro ⟨hopen, hfid⟩
    exact h.elim (fun h => absurd (h.symm.trans hopen) (by decide)) fun h => h hfid
  exact if_neg hnone

/-! ### STATE -/

/-- CUE_STATE of a running block whose link is up. -/
theorem exec_cueState_up (hp : s.power = .running) (hup : s.link = linkUp) (hav : 1 ≤ s.rd Reg.CUE_LINK_AV) (q : BitVec 4) (lp : Bool) :
    exec (.cueState q lp) s = .next ((s.cueSeq q.toNat).stateIn lp).after :=
  exec_packet (av := 1) (fmt := fun _ => true) (g := fun u => u.stateIn lp) rfl hp hup hav rfl

/-- STATE with LP starts the entry into INTERMISSION in a settled ACTIVE where INTREQ allows it (R226). -/
theorem stateIn_enters (hreq : s.on Reg.CUE_CTL_INTREQ = true) (hmode : s.mode = mActive) (htrans : s.on Reg.SYS_MODE_TRANS = false) : s.stateIn true = (s.irq 53).startInter 0 0 := by
  have hallowed : (s.irq 53).on Reg.CUE_CTL_INTREQ = true ∧ (s.irq 53).mode = mActive ∧ ¬ (s.irq 53).on Reg.SYS_MODE_TRANS = true :=
    ⟨by rwa [on_eq, rd_irq], (rd_irq ..).trans hmode, by rw [on_eq, rd_irq]; simpa using htrans⟩
  exact if_pos hallowed

/-- Outside ACTIVE it is turned away, counted and recorded (R226). -/
theorem stateIn_rejected (hmode : s.mode ≠ mActive) : s.stateIn true = ((s.irq 53).bump Reg.CUE_ERR_STREJ 0).event 0x5009 0 [] := by
  have hnot : ¬ ((s.irq 53).on Reg.CUE_CTL_INTREQ = true ∧ (s.irq 53).mode = mActive ∧ ¬ (s.irq 53).on Reg.SYS_MODE_TRANS = true) := fun ⟨_, hactive, _⟩ => hmode ((rd_irq ..).symm.trans hactive)
  exact if_neg hnot

/-! ### QUIET -/

/-- CUE_QUIET of a running block whose link is up. -/
theorem exec_cueQuiet_up (hp : s.power = .running) (hup : s.link = linkUp) (hav : 3 ≤ s.rd Reg.CUE_LINK_AV) (q : BitVec 4) (start : Byte) (qdur : BitVec 16) :
    exec (.cueQuiet q start qdur) s = .next ((s.cueSeq q.toNat).quiet start.toNat qdur.toNat).after :=
  exec_packet (av := 3) (fmt := fun _ => true) (g := fun u => u.quiet start.toNat qdur.toNat) rfl hp hup hav rfl

/-- A QUIET with a duration is stored with its start; where no grant waits for one, that is all (R237, R279). -/
theorem quiet_stored {start qdur : Nat} (hq : qdur ≠ 0) (honly : s.on Reg.GAU_REST_QONLY = false) :
    s.quiet start qdur = (((s.wr Reg.CUE_QUIET_QDUR 0 qdur).wr Reg.CUE_QUIET_START 0 start).wr Reg.CUE_QUIET_VALID 0 1).irq 54 := by
  have hon : (qdur != 0) = true := bne_iff_ne.2 hq
  have honly' : ((((s.wr Reg.CUE_QUIET_QDUR 0 qdur).wr Reg.CUE_QUIET_START 0 start).wr Reg.CUE_QUIET_VALID 0 1).irq 54).on Reg.GAU_REST_QONLY = false := by
    rw [on_eq, rd_irq, rd_wr_ne _ _ (by decide) (by decide) (by decide), rd_wr_ne _ _ (by decide) (by decide) (by decide), rd_wr_ne _ _ (by decide) (by decide) (by decide)]
    exact honly
  unfold State.quiet
  dsimp only
  rw [hon, if_pos rfl, if_pos rfl]
  refine if_neg fun ⟨h, _⟩ => ?_
  exact absurd (honly'.symm.trans h) (by decide)

/-- What storing it leaves in CUE_QUIET (R237). -/
theorem quiet_stored_effect {start qdur : Nat} (hq : qdur ≠ 0) (hq' : qdur < 2 ^ 16) (hstart : start < 2 ^ 8) (honly : s.on Reg.GAU_REST_QONLY = false) :
    (s.quiet start qdur).rd Reg.CUE_QUIET_QDUR = qdur ∧ (s.quiet start qdur).rd Reg.CUE_QUIET_START = start ∧ (s.quiet start qdur).rd Reg.CUE_QUIET_VALID = 1 := by
  rw [quiet_stored hq honly, rd_irq, rd_irq, rd_irq]
  refine ⟨?_, ?_, rd_wr_same ..⟩
  · rw [rd_wr_ne _ _ (by decide) (by decide) (by decide), rd_wr_ne _ _ (by decide) (by decide) (by decide), rd_wr_same]
    exact Nat.mod_eq_of_lt hq'
  · rw [rd_wr_ne _ _ (by decide) (by decide) (by decide), rd_wr_same]
    exact Nat.mod_eq_of_lt hstart

/-! ### The timers of a window -/

/-- The ramp start of a window reached (R141). -/
def rampElapsed (s : State) (r : Nat) : State := (s.upTo (s.vn .tFcRamp r - 1)).setV .tFcRamp r 0

/-- The ramp start of an open window: the lift rises to the forecast's by the arrival (R141). -/
theorem fcRamp_open {r : Nat} (ht : s.vn .tFcRamp r ≠ 0) (hopen : s.on Reg.CUE_OPEN r = true) :
    s.fcRamp r = (s.rampElapsed r).liftTo r ((s.rampElapsed r).v .fcLift r) ((s.rampElapsed r).vn .fcTa r) := by
  have hruns : ¬ (s.vn .tFcRamp r = 0 ∨ ¬ s.on Reg.CUE_OPEN r = true) := not_or.2 ⟨ht, not_not.2 hopen⟩
  exact if_neg hruns

/-- What a ramp of the lift leaves: where it ends, and when (R141). -/
theorem liftTo_effect (s : State) {r : Nat} (hr : r < 4) (x : Int) (t : Nat) : (s.liftTo r x t).v .liftV1 r = x ∧ (s.liftTo r x t).v .liftT1 r = t :=
  ⟨(v_setV_ne _ _ (by decide) (by omega) (by omega)).trans (v_setV_same ..), v_setV_same ..⟩

/-- It changes no variable outside the lift. -/
theorem v_liftTo (s : State) {r : Nat} (hr : r < 4) (t : Nat) (y : Int) {x : Var} {i : Nat} (hx : x.ctorIdx ∉ [Var.liftV0.ctorIdx, Var.liftT0.ctorIdx, Var.liftV1.ctorIdx, Var.liftT1.ctorIdx]) (hi : i < 1024) :
    (s.liftTo r y t).v x i = s.v x i := by
  simp only [List.mem_cons, List.not_mem_nil, or_false, not_or] at hx
  obtain ⟨hv0, ht0, hv1, ht1⟩ := hx
  unfold State.liftTo
  rw [v_setV_ne _ _ (Ne.symm ht1) (by omega) hi, v_setV_ne _ _ (Ne.symm hv1) (by omega) hi, v_setV_ne _ _ (Ne.symm ht0) (by omega) hi, v_setV_ne _ _ (Ne.symm hv0) (by omega) hi]

/-- What the ramp start of an open window leaves (R141). -/
theorem fcRamp_effect {r : Nat} (hr : r < 4) (ht : s.vn .tFcRamp r ≠ 0) (hopen : s.on Reg.CUE_OPEN r = true) :
    (s.fcRamp r).v .tFcRamp r = 0 ∧ (s.fcRamp r).v .liftV1 r = s.v .fcLift r ∧ (s.fcRamp r).v .liftT1 r = s.vn .fcTa r := by
  have elapsed : ∀ x : Var, Var.tFcRamp.ctorIdx ≠ x.ctorIdx → (s.rampElapsed r).v x r = s.v x r := fun x hx => v_setV_ne _ _ hx (by omega) (by omega)
  have hlift : (s.rampElapsed r).v .fcLift r = s.v .fcLift r := elapsed _ (by decide)
  have hta : (s.rampElapsed r).vn .fcTa r = s.vn .fcTa r := congrArg Int.toNat (elapsed _ (by decide))
  rw [fcRamp_open ht hopen, hlift, hta]
  exact ⟨(v_liftTo _ hr _ _ (by decide) (by omega)).trans (v_setV_same ..), liftTo_effect _ hr _ _⟩

/-- The close of a window without an arrival is a miss (R229, R230). -/
theorem fcClose_miss {r : Nat} (hopen : s.on Reg.CUE_OPEN r = true) (hnone : (s.upTo (s.vn .fcClose r - 1)).arrived r false = false) :
    s.fcClose r = (s.upTo (s.vn .fcClose r - 1)).closeWindow r outMiss :=
  (if_pos hopen).trans (if_neg fun h => absurd (hnone.symm.trans h.2) (by decide))

end Sys2Proof.Machine.State

namespace Sys2Proof.Proofs

open Machine Machine.State

/-- Settles O31: each packet in UP behind the sequence base, and the two timers of a window; a forecast outside REGULATE is reported in `State.fcstIn`, which the statement names alone. That the times of FCST and CANCEL are operands is the model's choice (log entry 59). -/
theorem cueForecastsAct : Obligations.CueForecastsAct := by
  intro q r fid t s hp hup hav
  have hstate := exec_cueState_up hp hup (le_trans (by decide) hav) q
  refine ⟨fun di lead lc dur hdi hlead => exec_cueFcst_up hp hup hav q r fid lc dur t hdi hlead, fun hopen hfid hbefore => ?_, fun h => ?_, hstate false, fun hreq hmode htrans => ?_, fun hmode => ?_,
    fun start qdur hq honly => ?_, fun k ht hopen => ?_, fun k hopen hnone => ?_⟩
  · have hopen' : (s.cueSeq q.toNat).on Reg.CUE_OPEN r.toNat = true := by rwa [on_eq, rd_cueSeq _ _ (by decide) (by omega)]
    have hfid' : (s.cueSeq q.toNat).rd Reg.CUE_FID r.toNat = fid.toNat := (rd_cueSeq _ _ (by decide) (by omega)).trans hfid
    have hbefore' : max (s.cueSeq q.toNat).now t < (s.cueSeq q.toNat).vn .fcTa r.toNat := by rwa [cueSeq_now, vn_eq, v_cueSeq _ _ (by decide) (by decide) (by omega)]
    rw [exec_cueCancel_up hp hup (le_trans (by decide) hav), cancelIn_open hopen' hfid' hbefore']
  · have hother : (s.cueSeq q.toNat).on Reg.CUE_OPEN r.toNat = false ∨ (s.cueSeq q.toNat).rd Reg.CUE_FID r.toNat ≠ fid.toNat := by
      rwa [on_eq, rd_cueSeq _ _ (by decide) (by omega), rd_cueSeq _ _ (by decide) (by omega)]
    rw [exec_cueCancel_up hp hup (le_trans (by decide) hav), cancelIn_none _ hother]
  · have hreq' : (s.cueSeq q.toNat).on Reg.CUE_CTL_INTREQ = true := by rwa [on_eq, rd_cueSeq _ _ (by decide) (by decide)]
    have htrans' : (s.cueSeq q.toNat).on Reg.SYS_MODE_TRANS = false := by rwa [on_eq, rd_cueSeq _ _ (by decide) (by decide)]
    rw [hstate, stateIn_enters hreq' ((mode_cueSeq ..).trans hmode) htrans']
  · rw [hstate, stateIn_rejected fun h => hmode ((mode_cueSeq ..).symm.trans h)]
  · have honly' : (s.cueSeq q.toNat).on Reg.GAU_REST_QONLY = false := by rwa [on_eq, rd_cueSeq _ _ (by decide) (by decide)]
    have hq0 : qdur.toNat ≠ 0 := fun h => hq (BitVec.eq_of_toNat_eq h)
    obtain ⟨hqdur, hstart, hvalid⟩ := quiet_stored_effect hq0 qdur.isLt start.isLt honly'
    refine ⟨_, exec_cueQuiet_up hp hup hav q start qdur, ?_, ?_, ?_⟩
    · exact (after_rd _ (by decide) (by decide) (by decide)).trans hqdur
    · exact (after_rd _ (by decide) (by decide) (by decide)).trans hstart
    · exact (after_rd _ (by decide) (by decide) (by decide)).trans hvalid
  · obtain ⟨htimer, hlift, hby⟩ := fcRamp_effect k.isLt ht hopen
    refine ⟨_, act_after (f := fun u => u.fcRamp k) hp, ?_, ?_, ?_⟩
    · exact (after_v _ (by decide) (by omega)).trans htimer
    · exact (after_v _ (by decide) (by omega)).trans hlift
    · exact (after_v _ (by decide) (by omega)).trans hby
  · exact (act_after (f := fun u => u.fcClose k) hp).trans (by rw [fcClose_miss hopen hnone])

end Sys2Proof.Proofs
end

section
/-!
PROOF. Errors of the Cue link, its loss, and its return lane with its timers (R219, R221, R223, R224, R233, R236).
-/

namespace Sys2Proof.Machine.State

variable {s : State}

/-! ### Loss -/

/-- CUE_LINK_LOSS of a running block loses the link with the cause's code (R223). -/
theorem exec_cueLinkLoss (hp : s.power = .running) (why : CueLoss) : ∃ cause, exec (.cueLinkLoss why) s = .next (s.linkLost cause).after := ⟨_, act_after (f := fun u => u.linkLost _) hp⟩

/-- What the loss of a trained link leaves: it waits for the clock again, with LOSSF (R223). -/
theorem linkLost_effect (h : linkDeskew ≤ s.link) (cause : Nat) : (s.linkLost cause).link = linkWait ∧ (s.linkLost cause).rd Reg.CUE_LINK_LOSSF = 1 := by
  unfold State.linkLost
  rw [if_neg (Nat.not_lt.2 h)]
  extract_lets u t
  have recorded : ∀ f : Fld, f.base ∉ evrBases → ((t.event 0x5002 2 (leBytes 1 cause)).alertEvent 0x5002).rd f = t.rd f := fun f hf => (rd_alertEvent ..).trans (rd_event _ _ _ _ hf (by decide))
  refine ⟨(recorded _ (by decide)).trans ?_, (recorded _ (by decide)).trans ?_⟩
  · exact (rd_wr_ne _ _ (by decide) (by decide) (by decide)).trans ((rd_wr_ne _ _ (by decide) (by decide) (by decide)).trans (rd_wr_same ..))
  · exact (rd_wr_ne _ _ (by decide) (by decide) (by decide)).trans (rd_wr_same ..)

/-! ### The return lane -/

/-- The telemetry that waits for a disabled rail is dropped (R233). -/
def telemDropped (s : State) : State := (List.range 4).foldl (fun s r => if s.railState r = railDisabled then s.setV .telemDue r 0 else s) s

/-- Dropping telemetry changes no field. -/
@[simp] theorem telemDropped_regs (s : State) : s.telemDropped.regs = s.regs :=
  List.foldlRecOn (motive := fun t : State => t.regs = s.regs) _ _ rfl fun t ht r _ => by split <;> exact ht

/-- It changes no variable but what it drops. -/
theorem v_telemDropped (s : State) {x : Var} {i : Nat} (hx : Var.telemDue.ctorIdx ≠ x.ctorIdx) (hi : i < 1024) : s.telemDropped.v x i = s.v x i := by
  refine List.foldlRecOn (motive := fun t : State => t.v x i = s.v x i) _ _ rfl fun t ht r hr => ?_
  split
  · exact (v_setV_ne _ _ hx ((List.mem_range.1 hr).trans (by decide)) hi).trans ht
  · exact ht

theorem link_telemDropped (s : State) : s.telemDropped.link = s.link := rd_of_regs (telemDropped_regs s) _ _

/-- The versions that a queued TRAIN reply carries (R218, R221). -/
def trainBody (s : State) : List Byte := leBytes 1 (s.vn .trainVal / 16) ++ leBytes 1 (s.vn .trainVal % 16) ++ [0#8]

/-- A packet that starts on the return lane changes no field. -/
@[simp] theorem sendCue_regs (s : State) (type : Nat) (pl : List Byte) : (s.sendCue type pl).regs = s.regs := by unfold State.sendCue; dsimp only; split <;> rfl

/-- A TRAIN reply that starts, behind the telemetry dropped (R218, R221). -/
def trainSent (s : State) : State := (s.telemDropped.setV .trainDue 0 0).sendCue 0xF s.telemDropped.trainBody

theorem link_trainSent (s : State) : s.trainSent.link = s.link := (rd_of_regs (sendCue_regs ..) _ _).trans (link_telemDropped s)

section
variable (hup : s.link = linkUp) (hav : s.rd Reg.CUE_LINK_AV = 1)
include hup hav

/-- At version 1 the lane carries no THROTTLE, so a queued TRAIN reply starts first (R218, R219, R221). -/
theorem returnStart_train (hdue : s.vOn .trainDue = true) : s.returnStart = s.trainSent := by
  have hlink : s.telemDropped.link = linkUp := (link_telemDropped s).trans hup
  have hqueued : s.telemDropped.vOn .trainDue = true ∧ linkNegot ≤ s.telemDropped.link := ⟨by rwa [vOn_eq, v_telemDropped _ (by decide) (by decide)], by rw [hlink]; decide⟩
  have hstays : ¬ ((s.trainSent.link = linkNegot ∨ s.trainSent.link = linkNover) ∧ s.trainSent.rd Reg.CUE_LINK_AV ≠ 0) := by
    rw [link_trainSent, hup]
    exact fun ⟨h, _⟩ => absurd h (by decide)
  unfold State.returnStart
  rw [hup, hav]
  extract_lets up av thr u tel sent
  have hthr : thr = none := rfl
  rw [hthr]
  exact (if_pos hqueued).trans (if_neg hstays)

/-- With no reply queued, a STATUS for a change of mode or of the link starts (R219, R233). -/
theorem returnStart_status (hnone : s.vOn .trainDue = false) (hdue : s.vn .statusDue = 2) : s.returnStart = (s.telemDropped.setV .statusDue 0 0).sendCue 3 s.telemDropped.statusBody := by
  have hnone' : ¬ (s.telemDropped.vOn .trainDue = true ∧ linkNegot ≤ s.telemDropped.link) := by
    rw [vOn_eq, v_telemDropped _ (by decide) (by decide), ← vOn_eq, hnone]
    exact fun ⟨h, _⟩ => absurd h (by decide)
  have hdue' : s.telemDropped.vn .statusDue = 2 := (congrArg Int.toNat (v_telemDropped s (by decide) (by decide))).trans hdue
  unfold State.returnStart
  rw [hup, hav]
  extract_lets up av thr u tel sent
  have hthr : thr = none := rfl
  have hup' : ¬ (!up) = true := by decide
  rw [hthr]
  exact (if_neg hnone').trans ((if_neg hup').trans (if_pos hdue'))

end

/-! ### The timers of the lane -/

/-- In UP the STATUS interval ends: STATUS is due, a queued one stays as urgent as it was, and the next interval runs (R233). -/
theorem statusTick_up (hup : s.link = linkUp) :
    let u := s.upTo (s.vn .tStatus - 1)
    s.statusTick = (u.setV .statusDue 0 (max 1 (u.v .statusDue))).setV .tStatus 0 (u.now + u.rd Reg.CUE_CTL_STATPER * 40000 + 1) := if_pos hup

/-- Outside UP no STATUS falls due (R233). -/
theorem statusTick_down (hdown : s.link ≠ linkUp) : s.statusTick = s := if_neg hdown

/-- The round of the rails begins with the one whose telemetry comes next, and every rail is in it once (R233). -/
theorem railsFromNext_next {r : Rail} (h : s.vn .telemNext = r) : ∃ rest, s.railsFromNext = r.val :: rest ∧ (r.val :: rest).Perm (List.range 4) := by
  have round : ∀ r : Fin 4, (List.range 4).map (fun i => (r.val + i) % 4) = r.val :: [(r.val + 1) % 4, (r.val + 2) % 4, (r.val + 3) % 4] ∧
      (r.val :: [(r.val + 1) % 4, (r.val + 2) % 4, (r.val + 3) % 4]).Perm (List.range 4) := by decide
  obtain ⟨hround, hperm⟩ := round r
  unfold State.railsFromNext
  rw [h]
  exact ⟨_, hround, hperm⟩

/-- The telemetry interval of a rail outside DISABLED ends: its telemetry is due, the next rail's comes after it, in a share of TELPER (R233; log entry 79). -/
theorem telemTick_next {r : Rail} (hup : s.link = linkUp) (hper : s.rd Reg.CUE_CTL_TELPER ≠ 0) (hnext : s.vn .telemNext = r) (hlive : s.railState r ≠ railDisabled) :
    let u := s.upTo (s.vn .tTelem - 1)
    let n := ((List.range 4).filter (fun k => s.railState k != railDisabled)).length
    s.telemTick = ((u.setV .telemDue r 1).setV .telemNext 0 (((r.val + 1) % 4 : Nat))).setV .tTelem 0 (u.now + u.rd Reg.CUE_CTL_TELPER * 400 / n + 1) := by
  intro u n
  obtain ⟨rest, hround, hperm⟩ := railsFromNext_next hnext
  have hhead : (r.val :: rest).filter (fun k => s.railState k != railDisabled) = r.val :: rest.filter (fun k => s.railState k != railDisabled) := List.filter_cons_of_pos (bne_iff_ne.2 hlive)
  have hfilter : s.railsFromNext.filter (fun k => s.railState k != railDisabled) = r.val :: rest.filter (fun k => s.railState k != railDisabled) := by
    rw [hround, hhead]
  have hcount : (rest.filter (fun k => s.railState k != railDisabled)).length + 1 = n := by
    have hlen := (hperm.filter (fun k => s.railState k != railDisabled)).length_eq
    rwa [hhead] at hlen
  have hruns : ¬ (s.link ≠ linkUp ∨ s.rd Reg.CUE_CTL_TELPER = 0) := not_or.2 ⟨not_not.2 hup, hper⟩
  unfold State.telemTick
  rw [hfilter]
  refine (if_neg hruns).trans ?_
  dsimp only
  rw [← hcount]
  push_cast
  rfl

/-- The repeat interval of THROTTLE ended, and begun anew while a capacity is in force (R236). -/
def throttleElapsed (s : State) : State := ((s.upTo (s.vn .tThr - 1)).setV .tThr 0 0).throttleTimer

/-- The repeat timer changes no field. -/
@[simp] theorem throttleElapsed_regs (s : State) : s.throttleElapsed.regs = s.regs := by
  unfold State.throttleElapsed State.throttleTimer
  split
  · rfl
  · split <;> rfl

/-- THROTTLE falls due for a rail with a capacity in force (R236). -/
def throttleDueAgain (s : State) (r : Nat) : State := if s.rd Reg.CUE_CAP r = capNone then s else s.setOn .throttleDue r true

/-- With a capacity in force THROTTLE is due. -/
theorem throttleDueAgain_due {r : Nat} (hcap : s.rd Reg.CUE_CAP r ≠ capNone) : s.throttleDueAgain r = s.setV .throttleDue r 1 := if_neg hcap

/-- THROTTLE falls due for each such rail. -/
def throttleAgain (s : State) : State := (List.range 4).foldl State.throttleDueAgain s

/-- It is then due for each of them. -/
theorem v_throttleAgain (s : State) {r : Nat} (hr : r < 4) (hcap : s.rd Reg.CUE_CAP r ≠ capNone) : s.throttleAgain.v .throttleDue r = 1 := by
  have later : ∀ (t : State) (q : Nat), t.v .throttleDue r = 1 → (t.throttleDueAgain q).v .throttleDue r = 1 := fun t q ht => by
    unfold State.throttleDueAgain
    split
    · exact ht
    · rcases eq_or_ne q r with rfl | hq
      · exact v_setV_same ..
      · exact (v_setV_inst t _ hq).trans ht
  have caps : ∀ l : List Nat, (l.foldl State.throttleDueAgain s).regs = s.regs := fun l =>
    List.foldlRecOn (motive := fun t : State => t.regs = s.regs) l _ rfl fun t ht q _ => by unfold State.throttleDueAgain; split <;> exact ht
  obtain ⟨l₁, l₂, hl⟩ := List.append_of_mem (List.mem_range.2 hr)
  have hdue : ((l₁.foldl State.throttleDueAgain s).throttleDueAgain r).v .throttleDue r = 1 := by
    rw [throttleDueAgain_due (by rwa [rd_of_regs (caps l₁)])]
    exact v_setV_same ..
  unfold State.throttleAgain
  rw [hl, List.foldl_append, List.foldl_cons]
  exact foldl_keeps _ later l₂ _ hdue

/-- The repeat interval of THROTTLE ends from version 2 on (R236). -/
theorem throttleTick_repeats (ht : s.vn .tThr ≠ 0) (hav : 2 ≤ s.rd Reg.CUE_LINK_AV) : s.throttleTick = s.throttleElapsed.throttleAgain := by
  have hav' : ¬ s.throttleElapsed.rd Reg.CUE_LINK_AV < 2 := by rw [rd_of_regs (throttleElapsed_regs s)]; omega
  exact (if_neg ht).trans (if_neg hav')

/-- Version 1 has no THROTTLE to repeat (R236). -/
theorem throttleTick_silent (ht : s.vn .tThr ≠ 0) (hav : s.rd Reg.CUE_LINK_AV < 2) : s.throttleTick = s.throttleElapsed := by
  have hav' : s.throttleElapsed.rd Reg.CUE_LINK_AV < 2 := by rwa [rd_of_regs (throttleElapsed_regs s)]
  exact (if_neg ht).trans (if_pos hav')

/-- A repeat timer that does not run ends nothing. -/
theorem throttleTick_none (ht : s.vn .tThr = 0) : s.throttleTick = s := if_pos ht

end Sys2Proof.Machine.State

namespace Sys2Proof.Proofs

open Machine Machine.State

/-- Settles O32: an error by its counter, the loss by what it leaves (its record is in `State.linkLost`, which the statement does not name), and the lane by what is due first; that AV stays over a loss (log entry 59), how intervals begin on the lane (log entry 79) and the DATA bytes of the records (log entry 15) are the model's choices. -/
theorem cueReturnRowsAct : Obligations.CueReturnRowsAct := by
  refine ⟨fun s hp hup => ⟨fun e => ?_, ?_, fun why => ?_⟩, fun s hp => ⟨?_, ?_, fun hdown => ?_, fun r hup hper hnext hlive => ?_, fun ht hav => ?_, fun ht hav => ?_, fun ht => ?_⟩⟩
  · cases e with
    | crc => exact exec_discard rfl hp hup
    | framing => exact exec_discard rfl hp hup
    | type => exact exec_discard rfl hp hup
    | format => exact exec_discard rfl hp hup
  · exact (act_after (f := fun u => if u.link < linkDeskew then u else u.bump Reg.CUE_ERR_CVERR 0) hp).trans (by rw [if_neg (by rw [hup]; decide)])
  · obtain ⟨cause, hexec⟩ := exec_cueLinkLoss hp why
    obtain ⟨hwait, hflag⟩ := linkLost_effect (s := s) (by rw [hup]; decide) cause
    refine ⟨_, hexec, ?_, ?_⟩
    · exact (after_rd _ (by decide) (by decide) (by decide)).trans hwait
    · exact (after_rd _ (by decide) (by decide) (by decide)).trans hflag
  · intro u
    have hexec := act_after (f := State.returnStart) hp
    exact ⟨fun hup hav hdue => hexec.trans (by rw [returnStart_train hup hav hdue]; rfl), fun hup hav hnone hdue => hexec.trans (by rw [returnStart_status hup hav hnone hdue]; rfl)⟩
  · exact fun hup => (act_after (f := State.statusTick) hp).trans (by rw [statusTick_up hup])
  · exact (act_after (f := State.statusTick) hp).trans (by rw [statusTick_down hdown])
  · exact (act_after (f := State.telemTick) hp).trans (by rw [telemTick_next hup hper hnext hlive])
  · refine ⟨_, (act_after (f := State.throttleTick) hp).trans (by rw [throttleTick_repeats ht hav]), fun r hr hcap => ?_⟩
    exact (after_v _ (by decide) (by omega)).trans (v_throttleAgain _ hr (by rwa [rd_of_regs (throttleElapsed_regs s)]))
  · exact (act_after (f := State.throttleTick) hp).trans (by rw [throttleTick_silent ht hav]; rfl)
  · exact (act_after (f := State.throttleTick) hp).trans (by rw [throttleTick_none ht])

end Sys2Proof.Proofs
end

section
/-!
PROOF. The timers of the intermediate bus and of the Hamper: a qualified bus with and without a loss before it, the longest hold-up, the gap of a CURTAIN and the headroom limit (R254, R257 to R259).
-/

namespace Sys2Proof.Machine.State

variable {s : State}

/-! ### The qualification of the bus -/

/-- The safe-voltage rail starts in MINIMAL alone (R57). -/
theorem safeStart_outsideMinimal (h : s.mode ≠ mMinimal) : s.safeStart = s := if_neg fun ⟨hm, _⟩ => h hm

/-- The qualification time has passed: the bus is qualified (R257). -/
def busQualified (s : State) : State := ((s.upTo (s.vn .tQual - 1)).setV .tQual 0 0).setV .ibQual 0 1

@[simp] theorem mode_busQualified (s : State) : s.busQualified.mode = s.mode := rfl

/-- The variables that do not speak of the qualification stay. -/
theorem v_busQualified (s : State) {x : Var} (hq : Var.tQual.ctorIdx ≠ x.ctorIdx) (hi : Var.ibQual.ctorIdx ≠ x.ctorIdx) : s.busQualified.v x = s.v x :=
  (v_setV_ne _ _ hi (by decide) (by decide)).trans (v_setV_ne _ _ hq (by decide) (by decide))

theorem vOn_busQualified_ibLost (s : State) : s.busQualified.vOn .ibLost = s.vOn .ibLost := by
  rw [vOn_eq, v_busQualified _ (by decide) (by decide)]; rfl

theorem vn_busQualified_tHoldmax (s : State) : s.busQualified.vn .tHoldmax = s.vn .tHoldmax := by
  rw [vn_eq, v_busQualified _ (by decide) (by decide)]; rfl

/-- A bus that was not lost is noted as qualified, and the Hamper and the safe-voltage rail look at it (R257). -/
theorem ibRestored_notLost (ht : s.vn .tQual ≠ 0) (hlost : s.vOn .ibLost = false) (hm : s.mode ≠ mHoldup) : s.ibRestored = (s.busQualified.setV .ibLost 0 0).hamAtOnce.safeStart := by
  have hlost' : ¬ s.busQualified.vOn .ibLost = true := by rw [vOn_busQualified_ibLost, hlost]; decide
  unfold State.ibRestored
  rw [if_neg ht]
  extract_lets u lost a m b held ended back c
  have ha : a = s.busQualified := if_neg fun ⟨h, _⟩ => hm h
  have hc : c = b := if_neg fun ⟨h, _⟩ => hlost' h
  rw [hc]
  unfold b
  rw [ha]

/-- The bus came back in HOLDUP: the hold-up ends, its capacities are withdrawn and the return is recorded (R257; the record's DATA by log entry 15). -/
def busBack (s : State) : State :=
  ((List.range 4).foldl (fun s r => s.dropCap r 3) ((((s.setV .ibLost 0 0).holdEnd).setV .tHoldmax 0 0).wr Reg.HAM_STAT_RESTF 0 1)).event 0x6002 0 []

/-- HOLDUP ends for STANDBY where no rail is left, and else for ACTIVE (R42, R257). -/
def leaveHoldup (s : State) : State := s.enterMode (if (List.range 4).all (fun r => s.railState r == railDisabled) then mStandby else mActive) 0x05

/-- A lost bus that qualifies before the longest hold-up ends leaves HOLDUP (R257). -/
theorem ibRestored_lost (ht : s.vn .tQual ≠ 0) (hlost : s.vOn .ibLost = true) (hm : s.mode = mHoldup) (hmax : s.vn .tHoldmax = 0 ∨ s.busQualified.now + 1 < s.vn .tHoldmax) :
    s.ibRestored = s.busQualified.busBack.leaveHoldup.hamAtOnce.safeStart := by
  have hlost' : s.busQualified.vOn .ibLost = true := by rw [vOn_busQualified_ibLost, hlost]
  have hearly : ¬ (s.busQualified.mode = mHoldup ∧ s.busQualified.vn .tHoldmax ≠ 0 ∧ s.busQualified.vn .tHoldmax ≤ s.busQualified.now + 1) := by
    rw [vn_busQualified_tHoldmax]
    omega
  unfold State.ibRestored
  rw [if_neg ht]
  extract_lets u lost a m b held ended back c
  have ha : a = s.busQualified := if_neg hearly
  have hmode : m = mHoldup := by unfold m; rw [ha]; exact hm
  have hback : back = s.busQualified.busBack := by unfold back ended held b; rw [ha]; rfl
  have hc : c = back.leaveHoldup := (if_pos (c := _ ∧ _) ⟨hlost', .inl hmode⟩).trans (if_pos hmode)
  rw [hc, hback]

/-! ### The other timers -/

/-- A hold-up is exhausted in HOLDUP: the part goes to a CURTAIN, with the reason recorded (R258). -/
theorem exhaust_holdup (why : Nat) (hm : s.mode = mHoldup) : s.exhaust why = ((s.wr Reg.HAM_STAT_EXHF 0 1).event 0x6003 2 (leBytes 1 why)).enterCurtain 0x06 0 := if_pos hm

end Sys2Proof.Machine.State

namespace Sys2Proof.Proofs

open Machine Machine.State

section
variable {s : State} (hp : s.power = .running)
include hp

/-- A running block answers with what an effect came to, and what follows it. -/
theorem act_of_eq {f : State → State} {t : State} (h : f s = t) : act s f = .next t.after := h ▸ act_after hp

/-- IB_QUALIFIED of a running block. -/
theorem exec_ibQualified : exec .ibQualified s = .next s.ibRestored.after := act_after (f := State.ibRestored) hp

/-- A bus that was not lost, while H0 runs outside MINIMAL and HOLDUP, changes no field but those that follow every command (R257). -/
theorem ibQualified_notes (ht : s.vn .tQual ≠ 0) (hlost : s.vOn .ibLost = false) (hmin : s.mode ≠ mMinimal) (hhold : s.mode ≠ mHoldup) (hcen : s.on Reg.PWM_CEN 32 = true) :
    Answers .ibQualified s (fun t => t.v .ibQual = 1 ∧ t.v .tQual = 0 ∧ t.v .ibLost = 0 ∧ s.SameRegs t afterKeys) := by
  have heffect : s.ibRestored = s.busQualified.setV .ibLost 0 0 := by
    rw [ibRestored_notLost ht hlost hhold, hamAtOnce_running (show (s.busQualified.setV .ibLost 0 0).on Reg.PWM_CEN 32 = true from hcen)]
    exact safeStart_outsideMinimal hmin
  refine ⟨_, (exec_ibQualified hp).trans (by rw [heffect]), ?_, ?_, ?_, ?_⟩
  · exact (after_v _ (by decide) (by decide)).trans ((v_setV_ne _ _ (by decide) (by decide) (by decide)).trans (v_setV_same ..))
  · exact (after_v _ (by decide) (by decide)).trans ((v_setV_ne _ _ (by decide) (by decide) (by decide)).trans ((v_setV_ne _ _ (by decide) (by decide) (by decide)).trans (v_setV_same ..)))
  · exact (after_v _ (by decide) (by decide)).trans (v_setV_same ..)
  · exact SameRegs.after fun f i _ => rfl

end

/-- Settles O33: a qualified bus by whether it was lost, and each other timer by what its end does; that a mode of the Hamper is in force at once while the carrier of H0 stands still (log entry 55) and the DATA bytes of the records (log entry 15) are the model's choices. -/
theorem hamperTimersAct : Obligations.HamperTimersAct := by
  refine fun s hp => ⟨fun ht hlost hmin hhold hcen => ibQualified_notes hp ht hlost hmin hhold hcen, ?_, fun ht hm => ?_, fun ht => ?_, fun ht => ?_⟩
  · intro u w ht hlost hm hmax
    exact (exec_ibQualified hp).trans (by rw [ibRestored_lost ht hlost hm hmax]; rfl)
  · have hholdup : ((s.upTo (s.vn .tHoldmax - 1)).setV .tHoldmax 0 0).mode = mHoldup := hm
    have hruns : ¬ (s.vn .tHoldmax = 0 ∨ s.mode ≠ mHoldup) := not_or.2 ⟨ht, not_not.2 hm⟩
    show execHoldmaxExpiry s = _
    exact act_of_eq hp ((if_neg hruns).trans (exhaust_holdup 2 hholdup))
  · show execCurtainGapExpiry s = _
    exact act_of_eq hp (if_neg ht)
  · show execHeadroomWithdraw s = _
    exact act_of_eq hp (if_neg ht)

end Sys2Proof.Proofs
end

section
/-!
PROOF. The opcodes of the Hamper and of the estimator: what HAMPER_CFG, GAUGE_READ and REST_WINDOW do once their checks pass (R246, R252, R269, R279, R386, R396).
-/

namespace Sys2Proof.Machine.State

/-! What an opcode of this family looks at beside registers is no part of a session either. -/

theorem taken_prdOk (s : State) (p : Port) (c prd : Nat) : (s.taken p).prdOk c prd = s.prdOk c prd := by cases p <;> rfl
theorem taken_causeActive (s : State) (p : Port) (b : Nat) : (s.taken p).causeActive b = s.causeActive b := by cases p <;> rfl

variable {t : State} (p : Port) {c : Cmd}

/-! ### HAMPER_CFG -/

/-- The half-period that a HAMPER_CFG asks for, in LE ticks (R104, R396). -/
def hamPrd (pl : List Byte) : Int := rdiv 400000000 (fieldAt pl 0 4)

/-- The ranges of the operands of HAMPER_CFG (R246, R396). -/
structure HamRanges (pl : List Byte) : Prop where
  prdLow : 134 ≤ hamPrd pl
  prdHigh : hamPrd pl ≤ 2666
  inductance : fieldAt pl 4 2 ≠ 0
  rrv : fieldAt pl 6 2 ≠ 0
  riib : fieldAt pl 8 2 ≠ 0
  second : fieldAt pl 10 1 ≤ 1
  reserved : fieldAt pl 11 1 = 0

/-- With its operands in range and the Hamper isolated, HAMPER_CFG stages both carriers, the shunts and H1, and computes the coefficients for a swap (R246, R252, R396; that the carriers and the sense channels are staged on, log entry 38; that the coefficients are free values, log entry 27). -/
theorem hamperCfgBody_stages (ho : c.obj = 0xFFFF) (hm : modesCfg.contains t.mode = true) (hlen : c.payload.length = 12) (hg : HamRanges c.payload) (hswap : t.on Reg.LE_CTL_SWPEND = false)
    (hiso : t.rd Reg.HAM_CTL_AMODE = 0) (hprd : t.prdOk 32 (hamPrd c.payload).toNat = true) :
    t.hamperCfgBody p c =
      let a := [32, 33].foldl (fun u ch => ((u.stage Reg.PWM_PRD ch (hamPrd c.payload).toNat).stage Reg.PWM_CEN ch 1).stage Reg.CSA_EN ch 1) t
      let b := (a.stage Reg.PWM_SYNCSEL 33 2).stage Reg.PWM_PHSV 33 (hamPrd c.payload).toNat
      let d := ((b.stage Reg.HAM_SHUNT_RRV 0 (fieldAt c.payload 6 2)).stage Reg.HAM_SHUNT_RIIB 0 (fieldAt c.payload 8 2)).stage Reg.HAM_CTL_H1EN 0 (fieldAt c.payload 10 1)
      ((d.hamperCoefs.setV .swapStaged 0 1).setV .bankTouched 0 1, stOk, []) := by
  obtain ⟨hlo, hhi, hl, hrv, hib, h1, hres⟩ := hg
  have hcheck : checkCmd c (decide (c.payload.length = 12)) (decide (134 ≤ hamPrd c.payload) && decide (hamPrd c.payload ≤ 2666) && fieldAt c.payload 4 2 != 0 && fieldAt c.payload 6 2 != 0 && fieldAt c.payload 8 2 != 0 &&
      decide (fieldAt c.payload 10 1 ≤ 1) && fieldAt c.payload 11 1 == 0) modesCfg t = stOk :=
    checkCmd_ok (decide_eq_true hlen) ho (by simp [hlo, hhi, hl, hrv, hib, h1, hres]) hm
  have hstate : ∀ moves : Bool, firstFail [(t.on Reg.LE_CTL_SWPEND || (moves && t.rd Reg.HAM_CTL_AMODE != 0), stBusy), (!t.prdOk 32 (hamPrd c.payload).toNat, stBadParam)] = stOk := fun moves => by
    rw [hswap, hiso, hprd, show ((0 : Nat) != 0) = false from rfl, Bool.and_false]
    rfl
  unfold State.hamperCfgBody
  extract_lets f prd checked moves st a b d
  have hst : st = stOk := (if_neg (not_not.2 hcheck)).trans (hstate moves)
  rw [hst]
  rfl

/-! ### GAUGE_READ -/

/-- GAUGE_READ answers with the ledger as it stood, and clears it where it says so; before interface level 2 the last object reads as zeros (R269, R387, R396). -/
theorem gaugeReadBody_reads (ho : c.obj = 0xFFFF) (hm : modesCfg.contains t.mode = true) {k : Byte} (hpl : c.payload = [k]) (hk : k.toNat ≤ 1) :
    t.gaugeReadBody p c = (if k = 1#8 then t.clearLedger else t, stOk,
      t.objBytes 0x0A12 0 ++ t.objBytes 0x0A13 0 ++ t.objBytes 0x0A14 0 ++ (if 2 ≤ t.servedIl then t.objBytes 0x0A15 0 else List.replicate 8 0)) := by
  have hnat : leNat c.payload = k.toNat := by rw [hpl]; rfl
  have hclear : (k.toNat = 1) = (k = 1#8) := propext (BitVec.toNat_inj (x := k) (y := 1#8))
  have hcheck : checkCmd c (decide (c.payload.length = 1)) (decide (k.toNat ≤ 1)) modesCfg t = stOk := checkCmd_ok (by rw [hpl]; rfl) ho (decide_eq_true hk) hm
  unfold State.gaugeReadBody
  dsimp only
  rw [hnat, hcheck, if_neg (not_not.2 rfl)]
  simp only [hclear]

/-! ### REST_WINDOW -/

/-- An action of REST_WINDOW is refused below its interface level and outside the modes of the opcode, and else acts (R279, R386). -/
theorem restAction_eq (ho : c.obj = 0xFFFF) (hlen : c.payload.length = 1) (il : Nat) (f : State → State) :
    restAction il f t p c = if t.servedIl < il then (t, stVersion, []) else if restModes.contains t.mode = true then (f t, stOk, []) else (t, stWrongMode, []) := by
  unfold State.restAction
  rw [hlen, ho]
  rcases Nat.lt_or_ge t.servedIl il with hil | hil
  · rw [if_pos hil, decide_eq_true hil]
    rfl
  · rw [if_neg (Nat.not_lt.2 hil), decide_eq_false (Nat.not_lt.2 hil)]
    cases restModes.contains t.mode <;> rfl

end Sys2Proof.Machine.State
end

section
/-!
PROOF. The opcodes of the protection and of the sensors: what each kind of PROT_CFG and of THERM_CFG does once its checks pass (R293, R294, R301, R313, R314, R318, R326, R397, R398).
-/

namespace Sys2Proof.Machine

/-! ### Ranges -/

/-- A field without a stated range takes every value (R384). -/
theorem inRange_of_none {f : Fld} (h : ranges.find? (fun y => y.1.same f) = none) (x : Nat) : inRange f x = true := by
  unfold inRange
  rw [h]
  rfl

/-- A field takes the values of its range (R384). -/
theorem inRange_of_some {f g : Fld} {lo hi x : Nat} (h : ranges.find? (fun y => y.1.same f) = some (g, lo, hi)) (hlo : lo ≤ x) (hhi : x ≤ hi) : inRange f x = true := by
  unfold inRange
  rw [h]
  exact Bool.and_eq_true_iff.2 ⟨decide_eq_true hlo, decide_eq_true hhi⟩

/-! ### Temperatures -/

/-- The value of a code of 16 bits, read as two's complement. -/
theorem sgn_toNat (x : BitVec 16) : sgn 16 x.toNat = x.toInt := by
  rw [BitVec.toInt_eq_toNat_cond]
  unfold sgn
  split <;> split <;> omega

/-- A temperature within the range of the codes has one (R326). -/
theorem tempCode_of_range {x : BitVec 16} (hlo : -64 ≤ x.toInt) (hhi : x.toInt ≤ 191) : tempCode x.toNat = some (x.toInt + 64).toNat := by
  unfold tempCode
  rw [sgn_toNat]
  exact if_pos ⟨hlo, hhi⟩

/-- The fields of two bytes behind other bytes read as what a list spells there. -/
theorem fieldAt_flatMap (l : List (BitVec 16)) : ∀ pre : List Byte,
    (List.range l.length).map (fun k => fieldAt (pre ++ l.flatMap (fun x => leBytes 2 x.toNat)) (pre.length + 2 * k) 2) = l.map BitVec.toNat := by
  induction l with
  | nil => exact fun _ => rfl
  | cons a l ih =>
    intro pre
    have hhead : fieldAt (pre ++ (a :: l).flatMap (fun x => leBytes 2 x.toNat)) (pre.length + 2 * 0) 2 = a.toNat := fieldAt_leBytes pre _ a.isLt
    have htail := ih (pre ++ leBytes 2 a.toNat)
    rw [List.length_append, leBytes_length] at htail
    rw [List.length_cons, List.range_succ_eq_map, List.map_cons, hhead, List.map_map, List.map_cons, ← htail]
    refine congrArg _ (List.map_congr_left fun k _ => ?_)
    rw [List.flatMap_cons, List.append_assoc, Function.comp_apply, show pre.length + 2 * k.succ = pre.length + 2 + 2 * k by omega]

namespace State

variable {t : State} (p : Port) {c : Cmd}

/-! ### The kinds -/

section
variable {pl : List Byte}

theorem protCfgBody_comparator (h : c.payload = 0#8 :: pl) : t.protCfgBody p c = t.cfgComparator c := by unfold State.protCfgBody; rw [h]; rfl
theorem protCfgBody_rail (h : c.payload = 1#8 :: pl) : t.protCfgBody p c = t.cfgRailPolicy c := by unfold State.protCfgBody; rw [h]; rfl
theorem protCfgBody_device (h : c.payload = 2#8 :: pl) : t.protCfgBody p c = t.cfgDevice c := by unfold State.protCfgBody; rw [h]; rfl
theorem thermCfgBody_sensor (h : c.payload = 0#8 :: pl) : t.thermCfgBody p c = t.cfgSensor c := by unfold State.thermCfgBody; rw [h]; rfl
theorem thermCfgBody_bands (h : c.payload = 1#8 :: pl) : t.thermCfgBody p c = t.cfgBands c := by unfold State.thermCfgBody; rw [h]; rfl

end

/-! ### PROT_CFG -/

/-- The current gain by which the amperes of a comparator count, as it stands staged (R293, R397). -/
def cmpGain (t : State) (i : Nat) : Nat := match gainChan i with
  | some k => t.stg Reg.CSA_SGAIN k
  | none => 0

theorem taken_cmpGain (s : State) (p : Port) (i : Nat) : (s.taken p).cmpGain i = s.cmpGain i := by cases p <;> rfl

/-- The threshold code of a comparator: comparator 42 keeps its own (R294, R397). -/
def cmpDac (t : State) (i x : Nat) : Nat := if i = 42 then t.stg Reg.CMP_DAC 42 else dacCode i x (t.cmpGain i)

section
variable (ho : c.obj = 0xFFFF) (hm : modesCfg.contains t.mode = true)
include ho hm

/-- PROT_CFG of a comparator writes the word of its object where the codes fit (R293, R294, R301, R397). -/
theorem cfgComparator_writes {i flags : Byte} {hys dac : BitVec 16} {o : Obj} (hpl : c.payload = [0#8, i, flags] ++ leBytes 2 hys.toNat ++ leBytes 2 dac.toNat) (hi : i.toNat < 48)
    (hfilt : bits flags.toNat 4 3 ≠ 3) (hobj : findObj 0x05C0 = some o) (hy : dacCode i.toNat hys.toNat (t.cmpGain i.toNat) ≤ 63) (hd : t.cmpDac i.toNat dac.toNat ≤ 1023)
    (hok : fieldsOk 0x05C0 o i.toNat [cmpWord flags.toNat (dacCode i.toNat hys.toNat (t.cmpGain i.toNat)) (t.cmpDac i.toNat dac.toNat)] = true) :
    t.cfgComparator c = (t.writeObj o i.toNat [cmpWord flags.toNat (dacCode i.toNat hys.toNat (t.cmpGain i.toNat)) (t.cmpDac i.toNat dac.toNat)], stOk, []) := by
  have hfi : fieldAt c.payload 1 1 = i.toNat := by rw [hpl]; exact fieldAt_byte [0#8] _ i
  have hff : fieldAt c.payload 2 1 = flags.toNat := by rw [hpl]; exact fieldAt_byte [0#8, i] _ flags
  have hfh : fieldAt c.payload 3 2 = hys.toNat := by rw [hpl]; exact fieldAt_leBytes [0#8, i, flags] (leBytes 2 dac.toNat) hys.isLt
  have hfd : fieldAt c.payload 5 2 = dac.toNat := by rw [hpl]; exact fieldAt_leBytes_last ([0#8, i, flags] ++ leBytes 2 hys.toNat) dac.isLt
  have hlen : c.payload.length = 7 := by rw [hpl]; rfl
  unfold State.cfgComparator
  extract_lets f n gain y d fits w
  have hn : n = i.toNat := hfi
  have hyv : y = dacCode i.toNat hys.toNat (t.cmpGain i.toNat) := by unfold y gain f; rw [hn, hfh]; rfl
  have hdv : d = t.cmpDac i.toNat dac.toNat := by unfold d gain f; rw [hn, hfd]; rfl
  have hfits : fits = true := by unfold fits; rw [hyv, hdv, decide_eq_true hy, decide_eq_true hd]; rfl
  have hw : w = cmpWord flags.toNat (dacCode i.toNat hys.toNat (t.cmpGain i.toNat)) (t.cmpDac i.toNat dac.toNat) := by
    unfold w f
    rw [hyv, hdv, hff, Nat.min_eq_left hy, Nat.min_eq_left hd]
  rw [hobj]
  dsimp only
  rw [hw, hn, hfits, hok, checkCmd_ok (decide_eq_true hlen) ho (by simp [f, hff, hi, hfilt]) hm]
  rfl

/-- PROT_CFG of a rail stages its policies and its hiccup (R307, R397). -/
theorem cfgRailPolicy_stages {pol hn hr : Byte} {off : BitVec 16} {r : Rail} (hpl : c.payload = [1#8, BitVec.ofNat 8 r, pol, hn, hr] ++ leBytes 2 off.toNat) (hpol : pol.toNat < 6) (hhn : 1 ≤ hn.toNat)
    (hlo : 1 ≤ off.toNat) (hhi : off.toNat ≤ 2000) :
    t.cfgRailPolicy c = (((((t.stage Reg.PROT_OVPOL r (pol.toNat % 2)).stage Reg.PROT_UVPOL r (pol.toNat / 2)).stage Reg.PROT_HN r hn.toNat).stage Reg.PROT_HRETRY r hr.toNat).stage
      Reg.PROT_HOFF r off.toNat, stOk, []) := by
  have hfr : fieldAt c.payload 1 1 = r.val := by rw [hpl]; exact (fieldAt_byte [1#8] _ (BitVec.ofNat 8 r)).trans (Nat.mod_eq_of_lt (r.isLt.trans (by decide)))
  have hfp : fieldAt c.payload 2 1 = pol.toNat := by rw [hpl]; exact fieldAt_byte [1#8, BitVec.ofNat 8 r] _ pol
  have hfn : fieldAt c.payload 3 1 = hn.toNat := by rw [hpl]; exact fieldAt_byte [1#8, BitVec.ofNat 8 r, pol] _ hn
  have hft : fieldAt c.payload 4 1 = hr.toNat := by rw [hpl]; exact fieldAt_byte [1#8, BitVec.ofNat 8 r, pol, hn] _ hr
  have hfo : fieldAt c.payload 5 2 = off.toNat := by rw [hpl]; exact fieldAt_leBytes_last [1#8, BitVec.ofNat 8 r, pol, hn, hr] off.isLt
  have huv : bits pol.toNat 2 1 = pol.toNat / 2 := Nat.mod_eq_of_lt (by omega)
  have hlen : c.payload.length = 7 := by rw [hpl]; rfl
  have hranges : [(Reg.PROT_OVPOL, pol.toNat % 2), (Reg.PROT_UVPOL, pol.toNat / 2), (Reg.PROT_HN, hn.toNat), (Reg.PROT_HRETRY, hr.toNat), (Reg.PROT_HOFF, off.toNat)].all (fun x => inRange x.1 x.2) = true := by
    simp only [List.all_cons, List.all_nil, Bool.and_eq_true, Bool.and_true]
    exact ⟨inRange_of_none rfl _, inRange_of_none rfl _, inRange_of_some rfl hhn (by have := hn.isLt; omega), inRange_of_none rfl _, inRange_of_some rfl hlo hhi⟩
  unfold State.cfgRailPolicy
  dsimp only
  simp only [hfr, hfp, hfn, hft, hfo, huv]
  rw [checkCmd_ok (decide_eq_true hlen) ho (by rw [hranges, decide_eq_true r.isLt, decide_eq_true (show pol.toNat < 8 by omega)]; rfl) hm]
  rfl

/-- PROT_CFG of the device stages its policies (R294, R397). -/
theorem cfgDevice_stages {pol n pct : Byte} (hpl : c.payload = [2#8, pol, n, pct]) (hpol : pol.toNat < 16) (hov : bits pol.toNat 1 0 ≠ 3) (hn : 1 ≤ n.toNat) (hlo : 10 ≤ pct.toNat) (hhi : pct.toNat ≤ 100) :
    t.cfgDevice c = (((((t.stage Reg.PROT_CTL_IBOVPOL 0 (bits pol.toNat 1 0)).stage Reg.PROT_CTL_FNRAIL 0 (bits pol.toNat 2 2)).stage Reg.PROT_CTL_FNHAM 0 (bits pol.toNat 3 3)).stage
      Reg.PROT_CTL_HTRIPN 0 n.toNat).stage Reg.PROT_CTL_THRPCT 0 pct.toNat, stOk, []) := by
  have hfp : fieldAt c.payload 1 1 = pol.toNat := by rw [hpl]; exact fieldAt_byte [2#8] _ pol
  have hfn : fieldAt c.payload 2 1 = n.toNat := by rw [hpl]; exact fieldAt_byte [2#8, pol] _ n
  have hfc : fieldAt c.payload 3 1 = pct.toNat := by rw [hpl]; exact fieldAt_byte [2#8, pol, n] [] pct
  have hlen : c.payload.length = 4 := by rw [hpl]; rfl
  have hov2 : bits pol.toNat 1 0 ≤ 2 := by
    have : bits pol.toNat 1 0 < 4 := Nat.mod_lt _ (by decide)
    omega
  have hranges : [(Reg.PROT_CTL_IBOVPOL, bits pol.toNat 1 0), (Reg.PROT_CTL_FNRAIL, bits pol.toNat 2 2), (Reg.PROT_CTL_FNHAM, bits pol.toNat 3 3), (Reg.PROT_CTL_HTRIPN, n.toNat),
      (Reg.PROT_CTL_THRPCT, pct.toNat)].all (fun x => inRange x.1 x.2) = true := by
    simp only [List.all_cons, List.all_nil, Bool.and_eq_true, Bool.and_true]
    exact ⟨inRange_of_some rfl (Nat.zero_le _) hov2, inRange_of_none rfl _, inRange_of_none rfl _, inRange_of_some rfl hn (by have := n.isLt; omega), inRange_of_some rfl hlo hhi⟩
  unfold State.cfgDevice
  dsimp only
  simp only [hfp, hfn, hfc]
  rw [checkCmd_ok (decide_eq_true hlen) ho (by rw [hranges, decide_eq_true hpol]; rfl) hm]
  rfl

end

/-! ### THERM_CFG -/

/-- The thresholds of a sensor rise within the range of the codes (R314, R326). -/
structure TempsRise (w u d : BitVec 16) : Prop where
  low : -64 ≤ w.toInt
  warn : w.toInt < u.toInt
  throttle : u.toInt < d.toInt
  high : d.toInt ≤ 191

/-- The fields of every sensor that a THERM_CFG stages. -/
def sensorOwn (w u d : BitVec 16) (hys : Nat) : List (Fld × Nat) :=
  [(Reg.THM_WARN, (w.toInt + 64).toNat), (Reg.THM_THR, (u.toInt + 64).toNat), (Reg.THM_SD, (d.toInt + 64).toNat), (Reg.THM_HYS, hys)]

/-- The fields of an external sensor that it stages beside them. -/
def sensorRest (pl : List Byte) : List (Fld × Nat) :=
  [(Reg.HKA_TYPE, fieldAt pl 2 1), (Reg.THM_RAILMASK, fieldAt pl 3 1), (Reg.THM_NF, fieldAt pl 11 1), (Reg.THM_RNOM, fieldAt pl 12 2), (Reg.THM_BETA, fieldAt pl 14 2), (Reg.THM_RPU, fieldAt pl 16 2)]

/-- The thresholds that a THERM_CFG of sensor `i` spells, and the ranges of its other operands (R313, R314, R398). -/
structure SensorFits (pl : List Byte) (i : Nat) (w u d : BitVec 16) (hys : Nat) : Prop where
  length : pl.length = 18
  index : fieldAt pl 1 1 = i
  bound : i ≤ 8
  type : fieldAt pl 2 1 ≤ 2
  mask : fieldAt pl 3 1 < 16
  warn : fieldAt pl 4 2 = w.toNat
  throttle : fieldAt pl 6 2 = u.toNat
  shutdown : fieldAt pl 8 2 = d.toNat
  hysteresis : fieldAt pl 10 1 = hys
  hysLow : 1 ≤ hys
  hysHigh : hys ≤ 15
  die : i = 0 → fieldAt pl 2 1 = 0 ∧ fieldAt pl 3 1 = 0 ∧ (pl.drop 11).all (fun b => b == 0#8) = true

/-- THERM_CFG of a sensor stages its thresholds, and of an external one its kind and its constants (R313, R314, R398). -/
theorem cfgSensor_stages (ho : c.obj = 0xFFFF) (hm : modesCfg.contains t.mode = true) {i : Nat} {w u d : BitVec 16} {hys : Nat} (hfit : SensorFits c.payload i w u d hys) (hrise : TempsRise w u d) :
    t.cfgSensor c = ((if i = 0 then sensorOwn w u d hys else sensorOwn w u d hys ++ sensorRest c.payload).foldl (fun v x => v.stage x.1 i x.2) t, stOk, []) := by
  obtain ⟨hlen, hfi, hi, hty, hmask, hfw, hfu, hfd, hfh, hh1, hh2, hdie⟩ := hfit
  obtain ⟨hlow, hwu, hud, hhigh⟩ := hrise
  have hw := tempCode_of_range (x := w) hlow (by omega)
  have hu := tempCode_of_range (x := u) (by omega) (by omega)
  have hd := tempCode_of_range (x := d) (by omega) hhigh
  have hzero : (i != 0 || (fieldAt c.payload 2 1 == 0 && fieldAt c.payload 3 1 == 0 && (c.payload.drop 11).all (fun b => b == 0#8))) = true := by
    by_cases h0 : i = 0
    · obtain ⟨htype, hmask0, hrest⟩ := hdie h0
      rw [htype, hmask0, hrest]
      exact Bool.or_true _
    · rw [bne_iff_ne.2 h0]; rfl
  have hok : (decide (i ≤ 8) && decide (fieldAt c.payload 2 1 ≤ 2) && decide (fieldAt c.payload 3 1 < 16) && decide (1 ≤ hys) && decide (hys ≤ 15) && decide ((u.toInt + 64).toNat < (d.toInt + 64).toNat) &&
      decide ((w.toInt + 64).toNat < (u.toInt + 64).toNat) && (i != 0 || (fieldAt c.payload 2 1 == 0 && fieldAt c.payload 3 1 == 0 && (c.payload.drop 11).all (fun b => b == 0#8)))) = true := by
    rw [hzero, decide_eq_true hi, decide_eq_true hty, decide_eq_true hmask, decide_eq_true hh1, decide_eq_true hh2, decide_eq_true (show (u.toInt + 64).toNat < (d.toInt + 64).toNat by omega),
      decide_eq_true (show (w.toInt + 64).toNat < (u.toInt + 64).toNat by omega)]
    rfl
  unfold State.cfgSensor
  dsimp only
  rw [hfw, hfu, hfd, hw, hu, hd]
  dsimp only
  simp only [hfi, hfh]
  rw [checkCmd_ok (decide_eq_true hlen) ho hok hm]
  rfl

section
variable {pl : List Byte} {i ty mask hys nf : Byte} {w u d rnom beta rpu : BitVec 16}
  (hpl : pl = [0#8, i, ty, mask] ++ leBytes 2 w.toNat ++ leBytes 2 u.toNat ++ leBytes 2 d.toNat ++ [hys, nf] ++ leBytes 2 rnom.toNat ++ leBytes 2 beta.toNat ++ leBytes 2 rpu.toNat)
include hpl

/-- The kind and the mask of an external sensor stand behind its number (R398). -/
theorem sensorKind_external : fieldAt pl 2 1 = ty.toNat ∧ fieldAt pl 3 1 = mask.toNat := by
  rw [hpl]; exact ⟨fieldAt_byte [0#8, i] _ ty, fieldAt_byte [0#8, i, ty] _ mask⟩

/-- The payload of an external sensor with its operands in range fits (R313, R314, R398). -/
theorem sensorFits_external (h1 : 1 ≤ i.toNat) (h8 : i.toNat ≤ 8) (hty : ty.toNat ≤ 2) (hmask : mask.toNat < 16) (hh1 : 1 ≤ hys.toNat) (hh2 : hys.toNat ≤ 15) : SensorFits pl i.toNat w u d hys.toNat := by
  obtain ⟨htype, hm⟩ := sensorKind_external hpl
  refine ⟨by rw [hpl]; rfl, ?_, h8, htype ▸ hty, hm ▸ hmask, ?_, ?_, ?_, ?_, hh1, hh2, fun h0 => absurd h0 (by omega)⟩ <;> rw [hpl]
  · exact fieldAt_byte [0#8] _ i
  · exact fieldAt_leBytes [0#8, i, ty, mask] _ w.isLt
  · exact fieldAt_leBytes ([0#8, i, ty, mask] ++ leBytes 2 w.toNat) _ u.isLt
  · exact fieldAt_leBytes ([0#8, i, ty, mask] ++ leBytes 2 w.toNat ++ leBytes 2 u.toNat) _ d.isLt
  · exact fieldAt_byte ([0#8, i, ty, mask] ++ leBytes 2 w.toNat ++ leBytes 2 u.toNat ++ leBytes 2 d.toNat) _ hys

/-- What it stages beside its thresholds (R313, R398). -/
theorem sensorRest_external :
    sensorRest pl = [(Reg.HKA_TYPE, ty.toNat), (Reg.THM_RAILMASK, mask.toNat), (Reg.THM_NF, nf.toNat), (Reg.THM_RNOM, rnom.toNat), (Reg.THM_BETA, beta.toNat), (Reg.THM_RPU, rpu.toNat)] := by
  obtain ⟨htype, hm⟩ := sensorKind_external hpl
  have hnf : fieldAt pl 11 1 = nf.toNat := by rw [hpl]; exact fieldAt_byte ([0#8, i, ty, mask] ++ leBytes 2 w.toNat ++ leBytes 2 u.toNat ++ leBytes 2 d.toNat ++ [hys]) _ nf
  have hrnom : fieldAt pl 12 2 = rnom.toNat := by rw [hpl]; exact fieldAt_leBytes ([0#8, i, ty, mask] ++ leBytes 2 w.toNat ++ leBytes 2 u.toNat ++ leBytes 2 d.toNat ++ [hys, nf]) _ rnom.isLt
  have hbeta : fieldAt pl 14 2 = beta.toNat := by
    rw [hpl]; exact fieldAt_leBytes ([0#8, i, ty, mask] ++ leBytes 2 w.toNat ++ leBytes 2 u.toNat ++ leBytes 2 d.toNat ++ [hys, nf] ++ leBytes 2 rnom.toNat) _ beta.isLt
  have hrpu : fieldAt pl 16 2 = rpu.toNat := by
    rw [hpl]; exact fieldAt_leBytes_last ([0#8, i, ty, mask] ++ leBytes 2 w.toNat ++ leBytes 2 u.toNat ++ leBytes 2 d.toNat ++ [hys, nf] ++ leBytes 2 rnom.toNat ++ leBytes 2 beta.toNat) rpu.isLt
  unfold sensorRest
  rw [htype, hm, hnf, hrnom, hbeta, hrpu]

end

/-- The payload of the die sensor, with zeros where it has nothing to set, fits (R314, R398). -/
theorem sensorFits_die {pl : List Byte} {hys : Byte} {w u d : BitVec 16} (hpl : pl = [0#8, 0#8, 0#8, 0#8] ++ leBytes 2 w.toNat ++ leBytes 2 u.toNat ++ leBytes 2 d.toNat ++ [hys] ++ List.replicate 7 0#8)
    (hh1 : 1 ≤ hys.toNat) (hh2 : hys.toNat ≤ 15) : SensorFits pl 0 w u d hys.toNat := by
  refine ⟨by rw [hpl]; rfl, by rw [hpl]; rfl, by decide, ?_, ?_, ?_, ?_, ?_, ?_, hh1, hh2, fun _ => by rw [hpl]; exact ⟨rfl, rfl, rfl⟩⟩ <;> rw [hpl]
  · exact Nat.zero_le 2
  · exact Nat.zero_lt_succ 15
  · exact fieldAt_leBytes [0#8, 0#8, 0#8, 0#8] _ w.isLt
  · exact fieldAt_leBytes ([0#8, 0#8, 0#8, 0#8] ++ leBytes 2 w.toNat) _ u.isLt
  · exact fieldAt_leBytes ([0#8, 0#8, 0#8, 0#8] ++ leBytes 2 w.toNat ++ leBytes 2 u.toNat) _ d.isLt
  · exact fieldAt_byte ([0#8, 0#8, 0#8, 0#8] ++ leBytes 2 w.toNat ++ leBytes 2 u.toNat ++ leBytes 2 d.toNat) _ hys

/-- THERM_CFG of the bands stages the boundaries and their hysteresis (R318, R398). -/
theorem cfgBands_stages (ho : c.obj = 0xFFFF) (hm : t.mode = mStandby ∨ t.mode = mRehearsal) {bh : Byte} {b : Vector (BitVec 16) 7} (hpl : c.payload = [1#8, bh] ++ b.toList.flatMap (fun x => leBytes 2 x.toNat))
    (hh1 : 1 ≤ bh.toNat) (hh2 : bh.toNat ≤ 15) (hrange : ∀ x ∈ b.toList, -64 ≤ x.toInt ∧ x.toInt ≤ 191) (hok : bandsOk (b.toList.map (fun x => (x.toInt + 64).toNat)) bh.toNat = true) :
    t.cfgBands c = ((bandFlds.zip (b.toList.map (fun x => (x.toInt + 64).toNat))).foldl (fun u x => u.stage x.1 0 x.2) (t.stage Reg.THM_BAND_BHYS 0 bh.toNat), stOk, []) := by
  have hb : b.toList.length = 7 := b.length_toList
  have hfh : fieldAt c.payload 1 1 = bh.toNat := by rw [hpl]; exact fieldAt_byte [1#8] _ bh
  have hfields : (List.range 7).map (fun k => fieldAt c.payload (2 + 2 * k) 2) = b.toList.map BitVec.toNat := by
    rw [hpl, ← fieldAt_flatMap b.toList [1#8, bh], hb]
    rfl
  have hcodes : (List.range 7).map (fun k => tempCode (fieldAt c.payload (2 + 2 * k) 2)) = (b.toList.map (fun x => (x.toInt + 64).toNat)).map some := by
    calc (List.range 7).map (fun k => tempCode (fieldAt c.payload (2 + 2 * k) 2))
        = (b.toList.map BitVec.toNat).map tempCode := by rw [← hfields, List.map_map]; rfl
      _ = b.toList.map (fun x => tempCode x.toNat) := List.map_map
      _ = b.toList.map (fun x => some (x.toInt + 64).toNat) := List.map_congr_left fun x hx => tempCode_of_range (hrange x hx).1 (hrange x hx).2
      _ = (b.toList.map (fun x => (x.toInt + 64).toNat)).map some := List.map_map.symm
  have hlen : c.payload.length = 16 := by
    rw [hpl, List.length_append, List.length_flatMap]
    simp only [leBytes_length, List.map_const', List.sum_replicate, hb]
    rfl
  have hmodes : [mStandby, mRehearsal].contains t.mode = true := by rcases hm with h | h <;> rw [h] <;> rfl
  have hsome : (((b.toList.map (fun x => (x.toInt + 64).toNat)).map some).all Option.isSome) = true := by simp
  have hget : ((b.toList.map (fun x => (x.toInt + 64).toNat)).map some).map (fun y => y.getD 0) = b.toList.map (fun x => (x.toInt + 64).toNat) := by simp
  unfold State.cfgBands
  dsimp only
  rw [hcodes, hget, hsome]
  simp only [hfh]
  rw [hok, checkCmd_ok (decide_eq_true hlen) ho (by rw [decide_eq_true hh1, decide_eq_true hh2]; rfl) hmodes]
  rfl

end State

end Sys2Proof.Machine
end

section
/-!
PROOF. FAULT_CLEAR: what it finds of the targets that it names, and which of them it clears (R305, R309, R312, R397).
-/

namespace Sys2Proof.Machine.State

variable {t : State} (p : Port) {c : Cmd}

/-- The rails that a FAULT_CLEAR names (R312). -/
def namedRails (tgt : Nat) : List Nat := (List.range 4).filter (fun r => bit tgt (4 + r))

theorem namedRails_rail : ∀ r : Rail, namedRails (2 ^ (4 + r.val)) = [r.val] := by decide

/-- The rails it can clear are among those that it names. -/
theorem faultRails_eq (t : State) (tgt : Nat) (ov : Bool) : t.faultRails tgt ov = (namedRails tgt).filter (fun r => t.railState r == railFaultOff && t.on Reg.CMP_OUT (34 + r) == ov) := by
  unfold State.faultRails namedRails
  rw [List.filter_filter]
  exact List.filter_congr fun r _ => by rw [Bool.and_assoc, Bool.and_comm]

/-- A FAULT_CLEAR that names no rail clears none. -/
theorem faultRails_none {tgt : Nat} (h : namedRails tgt = []) (t : State) (ov : Bool) : t.faultRails tgt ov = [] := by rw [faultRails_eq, h]; rfl

/-- A rail in FAULTOFF alone in a FAULT_CLEAR is cleared by its over-voltage output, asserted or released. -/
theorem faultRails_rail (r : Rail) (h : t.railState r = railFaultOff) (ov : Bool) : t.faultRails (2 ^ (4 + r.val)) ov = if t.on Reg.CMP_OUT (34 + r) = ov then [r.val] else [] := by
  rw [faultRails_eq, namedRails_rail, List.filter_singleton, h]
  by_cases hov : t.on Reg.CMP_OUT (34 + r) = ov
  · rw [if_pos hov, beq_iff_eq.2 hov]; rfl
  · rw [if_neg hov, beq_false_of_ne hov]; rfl

/-- What a FAULT_CLEAR finds: whether it names SAFESTOP and one of its causes is still active, whether it names the latch of the Hamper and one of its outputs still holds it, and the rails it names by their over-voltage outputs (R312). -/
structure ClearFinds (t : State) (tgt : Nat) (stopped still latched held : Bool) (released asserted : List Nat) : Prop where
  stopped : (bit tgt 0 && t.rd Reg.PROT_LATCH_CAUSE != 0 && t.mode == mSafestop) = stopped
  still : (List.range 7).any (fun b => bit (t.rd Reg.PROT_LATCH_CAUSE) b && t.causeActive b) = still
  latched : (bit tgt 1 && t.on Reg.PROT_LATCH_HAMLAT) = latched
  held : (t.on Reg.CMP_OUT 46 || t.on Reg.CMP_OUT 47) = held
  released : t.faultRails tgt false = released
  asserted : t.faultRails tgt true = asserted

/-- A FAULT_CLEAR clears what it finds free and fails where anything that it names is not (R312, R397; the DATA of its record by log entry 15). -/
theorem faultClearBody_eq (ho : c.obj = 0xFFFF) (hm : modesCfg.contains t.mode = true) (hlen : c.payload.length = 1) {tgt : Nat} (htgt : leNat c.payload = tgt) (hres : bits tgt 3 2 = 0)
    {stopped still latched held : Bool} {released asserted : List Nat} (h : t.ClearFinds tgt stopped still latched held released asserted) :
    t.faultClearBody p c =
      let fails := (stopped && still) || (latched && held) || !asserted.isEmpty
      let done := b2n (stopped && !still) + 2 * b2n (latched && !held) + 16 * listMask released
      let u := if latched && !held then (t.wr Reg.PROT_LATCH_HAMLAT 0 0).hamAtOnce else t
      let w := (released.foldl (fun s r => s.clearFaultOff r) u).event 0x3008 0 (leBytes 1 tgt ++ leBytes 1 done)
      (if stopped && !still then w.leaveSafestop else w, if fails then stFailed else stOk, (if fails then [0x07#8] else []) ++ leBytes 1 done) := by
  obtain ⟨rfl, rfl, rfl, rfl, rfl, rfl⟩ := h
  subst htgt
  unfold State.faultClearBody
  dsimp only
  rw [checkCmd_ok (decide_eq_true hlen) ho (decide_eq_true hres) hm]
  rfl

/-- What a FAULT_CLEAR of the Hamper's latch finds. -/
theorem clearFinds_latch (hlat : t.on Reg.PROT_LATCH_HAMLAT = true) {held : Bool} (hheld : (t.on Reg.CMP_OUT 46 || t.on Reg.CMP_OUT 47) = held) :
    t.ClearFinds 2 false ((List.range 7).any (fun b => bit (t.rd Reg.PROT_LATCH_CAUSE) b && t.causeActive b)) true held [] [] :=
  ⟨rfl, rfl, by rw [hlat]; rfl, hheld, faultRails_none rfl t false, faultRails_none rfl t true⟩

section
variable (ho : c.obj = 0xFFFF) (hm : modesCfg.contains t.mode = true)
include ho hm

/-- A rail in FAULTOFF whose over-voltage output is released leaves it (R68, R312). -/
theorem faultClearBody_rail {r : Rail} (hpl : c.payload = [BitVec.ofNat 8 (2 ^ (4 + r.val))]) (hoff : t.railState r = railFaultOff) (hov : t.on Reg.CMP_OUT (34 + r) = false) :
    t.faultClearBody p c = ((t.clearFaultOff r).event 0x3008 0 (leBytes 1 (2 ^ (4 + r.val)) ++ leBytes 1 (2 ^ (4 + r.val))), stOk, leBytes 1 (2 ^ (4 + r.val))) := by
  have target : ∀ r : Rail, leNat [BitVec.ofNat 8 (2 ^ (4 + r.val))] = 2 ^ (4 + r.val) ∧ bits (2 ^ (4 + r.val)) 3 2 = 0 ∧ bit (2 ^ (4 + r.val)) 0 = false ∧ bit (2 ^ (4 + r.val)) 1 = false ∧
      0 + 2 * 0 + 16 * listMask [r.val] = 2 ^ (4 + r.val) := by decide
  obtain ⟨htgt, hres, hbit0, hbit1, hdone⟩ := target r
  have finds : t.ClearFinds (2 ^ (4 + r.val)) false _ false _ [r.val] [] :=
    ⟨by rw [hbit0]; rfl, rfl, by rw [hbit1]; rfl, rfl, by rw [faultRails_rail r hoff, if_pos hov], by rw [faultRails_rail r hoff, hov]; rfl⟩
  rw [faultClearBody_eq p ho hm (by rw [hpl]; rfl) (by rw [hpl]; exact htgt) hres finds]
  simp only [Bool.false_and, b2n, Bool.false_eq_true, if_false, Bool.or_false, List.isEmpty_nil, Bool.not_true, List.foldl_cons, List.foldl_nil, List.nil_append, hdone]

section
variable (hpl : c.payload = [2#8]) (hlat : t.on Reg.PROT_LATCH_HAMLAT = true)
include hpl hlat

/-- The Hamper's latch clears with both of its outputs released, and the Hamper may leave ISOLATE (R305, R312). -/
theorem faultClearBody_latch (h46 : t.on Reg.CMP_OUT 46 = false) (h47 : t.on Reg.CMP_OUT 47 = false) :
    t.faultClearBody p c = (((t.wr Reg.PROT_LATCH_HAMLAT 0 0).hamAtOnce).event 0x3008 0 (leBytes 1 2 ++ leBytes 1 2), stOk, leBytes 1 2) :=
  faultClearBody_eq p ho hm (by rw [hpl]; rfl) (by rw [hpl]; rfl) rfl (clearFinds_latch hlat (held := false) (by rw [h46, h47]; rfl))

/-- With one of them asserted it stays (R312). -/
theorem faultClearBody_latchHeld (h : t.on Reg.CMP_OUT 46 = true ∨ t.on Reg.CMP_OUT 47 = true) :
    t.faultClearBody p c = (t.event 0x3008 0 (leBytes 1 2 ++ leBytes 1 0), stFailed, [0x07#8] ++ leBytes 1 0) :=
  faultClearBody_eq p ho hm (by rw [hpl]; rfl) (by rw [hpl]; rfl) rfl (clearFinds_latch hlat (held := true) (Bool.or_eq_true_iff.2 h))

end

end

section
variable (ho : c.obj = 0xFFFF) (hpl : c.payload = [1#8]) (hm : t.mode = mSafestop) (hcause : t.rd Reg.PROT_LATCH_CAUSE ≠ 0)
include hm hcause

/-- What a FAULT_CLEAR of SAFESTOP finds. -/
theorem clearFinds_safestop {still : Bool} (hstill : (List.range 7).any (fun b => bit (t.rd Reg.PROT_LATCH_CAUSE) b && t.causeActive b) = still) :
    t.ClearFinds 1 true still false (t.on Reg.CMP_OUT 46 || t.on Reg.CMP_OUT 47) [] [] :=
  ⟨by rw [bne_iff_ne.2 hcause, hm]; rfl, hstill, rfl, rfl, faultRails_none rfl t false, faultRails_none rfl t true⟩

include ho hpl

/-- Once no latched cause is active the part leaves SAFESTOP (R312). -/
theorem faultClearBody_safestop (hfree : ∀ b < 7, bit (t.rd Reg.PROT_LATCH_CAUSE) b = true → t.causeActive b = false) :
    t.faultClearBody p c = ((t.event 0x3008 0 (leBytes 1 1 ++ leBytes 1 1)).leaveSafestop, stOk, leBytes 1 1) := by
  have hstill : (List.range 7).any (fun b => bit (t.rd Reg.PROT_LATCH_CAUSE) b && t.causeActive b) = false := by
    simpa only [List.any_eq_false, List.mem_range, Bool.and_eq_true, not_and, Bool.not_eq_true] using hfree
  have hdone : 1 + 2 * 0 + 16 * listMask [] = 1 := rfl
  rw [faultClearBody_eq p ho (by rw [hm]; rfl) (by rw [hpl]; rfl) (by rw [hpl]; rfl) rfl (clearFinds_safestop hm hcause hstill)]
  simp only [Bool.not_false, Bool.and_self, Bool.and_false, Bool.false_and, b2n, Bool.false_eq_true, if_true, if_false, Bool.or_false, List.isEmpty_nil, Bool.not_true, List.foldl_nil, List.nil_append, hdone]

/-- A latched cause that is active keeps the part in SAFESTOP (R312). -/
theorem faultClearBody_safestopHeld {b : Nat} (hb : b < 7) (hbit : bit (t.rd Reg.PROT_LATCH_CAUSE) b = true) (hact : t.causeActive b = true) :
    t.faultClearBody p c = (t.event 0x3008 0 (leBytes 1 1 ++ leBytes 1 0), stFailed, [0x07#8] ++ leBytes 1 0) := by
  have hstill : (List.range 7).any (fun b => bit (t.rd Reg.PROT_LATCH_CAUSE) b && t.causeActive b) = true := List.any_eq_true.2 ⟨b, List.mem_range.2 hb, by rw [hbit, hact]; rfl⟩
  exact faultClearBody_eq p ho (by rw [hm]; rfl) (by rw [hpl]; rfl) (by rw [hpl]; rfl) rfl (clearFinds_safestop hm hcause hstill)

end

end Sys2Proof.Machine.State
end

section
/-!
PROOF. Every service opcode, from the rules for its body (R246, R269, R279, R294, R312, R318, R396 to R398).
-/

namespace Sys2Proof.Proofs

open Machine Machine.State

section
variable {s : State} {p : Port} {h : Hdr} {pl : List Byte} (ho : h.objId = 0xFFFF#16)
include ho

/-- HAMPER_CFG with its operands in range and the Hamper isolated runs as its body stages (R246, R396). -/
theorem runs_hamperCfg (hm : modesCfg.contains s.mode = true) (hlen : pl.length = 12) (hg : HamRanges pl) (hswap : s.on Reg.LE_CTL_SWPEND = false) (hiso : s.rd Reg.HAM_CTL_AMODE = 0)
    (hprd : s.prdOk 32 (hamPrd pl).toNat = true) :
    Runs (.hamperCfg p h pl) s p h pl 0x38 (fun t _ =>
      let a := [32, 33].foldl (fun u ch => ((u.stage Reg.PWM_PRD ch (hamPrd pl).toNat).stage Reg.PWM_CEN ch 1).stage Reg.CSA_EN ch 1) t
      let b := (a.stage Reg.PWM_SYNCSEL 33 2).stage Reg.PWM_PHSV 33 (hamPrd pl).toNat
      let d := ((b.stage Reg.HAM_SHUNT_RRV 0 (fieldAt pl 6 2)).stage Reg.HAM_SHUNT_RIIB 0 (fieldAt pl 8 2)).stage Reg.HAM_CTL_H1EN 0 (fieldAt pl 10 1)
      ((d.hamperCoefs.setV .swapStaged 0 1).setV .bankTouched 0 1, stOk, [])) := by
  refine runs_of_noObject ho (f := State.hamperCfgBody) rfl fun c hcpl hobj => ?_
  subst hcpl
  exact hamperCfgBody_stages p hobj (by rw [Laws.taken_mode]; exact hm) hlen hg ((Laws.taken_on ..).trans hswap) ((Laws.taken_rd ..).trans hiso) ((taken_prdOk ..).trans hprd)

/-- GAUGE_READ runs as its body reads (R269, R396). -/
theorem runs_gaugeRead (hm : modesCfg.contains s.mode = true) {k : Byte} (hpl : pl = [k]) (hk : k.toNat ≤ 1) :
    Runs (.gaugeRead p h pl) s p h pl 0x39 (fun t _ => (if k = 1#8 then t.clearLedger else t, stOk,
      t.objBytes 0x0A12 0 ++ t.objBytes 0x0A13 0 ++ t.objBytes 0x0A14 0 ++ (if 2 ≤ s.servedIl then t.objBytes 0x0A15 0 else List.replicate 8 0))) := by
  refine runs_of_noObject ho (f := State.gaugeReadBody) rfl fun c hcpl hobj => ?_
  rw [gaugeReadBody_reads p hobj (by rw [Laws.taken_mode]; exact hm) (hcpl.trans hpl) hk, Laws.taken_servedIl]

section
variable {i : Instr} {a : Byte} {il : Nat} {f : State → State} (hpl : pl = []) (hx : exec i s = act s (hostRow 0x3A p h (a :: pl) (State.restAction il f)))
include hpl hx

/-- A row of REST_WINDOW acts in its modes where its interface level is served (R279, R386). -/
theorem runs_rest (hil : il ≤ s.servedIl) (hm : restModes.contains s.mode = true) : Runs i s p h (a :: pl) 0x3A (fun t _ => (f t, stOk, [])) := by
  refine runs_of_noObject ho hx fun c hcpl hobj => ?_
  rw [restAction_eq p hobj (by rw [hcpl, hpl]; rfl), Laws.taken_servedIl, Laws.taken_mode, if_neg (Nat.not_lt.2 hil), if_pos hm]

/-- Below that level it is refused (R386). -/
theorem runs_rest_version (hil : s.servedIl < il) : Runs i s p h (a :: pl) 0x3A (fun t _ => (t, stVersion, [])) := by
  refine runs_of_noObject ho hx fun c hcpl hobj => ?_
  rw [restAction_eq p hobj (by rw [hcpl, hpl]; rfl), Laws.taken_servedIl, if_pos hil]

end

end

/-- Settles O52: each opcode's checks pass or fail as the state says, and its body stages, reads or clears what its operands name; that HAMPER_CFG stages the carriers and the sense channels on (log entry 38), that its coefficients are free values (log entry 27), that a FAULT_CLEAR's reply names the targets that were latched alone (log entry 42), and the DATA of its record (log entry 15), are the model's choices. -/
theorem serviceOpcodesRun : Obligations.ServiceOpcodesRun := by
  intro p h pl s ho f
  have mode (l : List Nat) (hm : l.contains s.mode = true) : l.contains (s.taken p).mode = true := by rw [Laws.taken_mode]; exact hm
  have hmode : (s.taken p).mode = s.mode := Laws.taken_mode s p
  refine ⟨fun hm => ⟨?_, fun k hpl hk => runs_gaugeRead ho hm hpl hk, ?_, fun pol n pct hpl hpol hov hn hlo hhi => ?_, fun pol hn hr off r hpl hpol hhn hlo hhi => ?_, ?_, ?_, fun bh b hpl h1 h2 hrange hok hm => ?_⟩,
    fun r hpl hm hoff hov => ?_, fun hpl hm hlat => ⟨fun h46 h47 => ?_, fun hheld => ?_⟩, fun hpl hm hcause => ⟨fun hfree => ?_, fun b hb hbit hact => ?_⟩, fun hpl hm => ?_⟩
  · intro prd hlen hlo hhi hl hrv hib h1 hres hswap hiso hprd
    exact runs_hamperCfg ho hm hlen ⟨hlo, hhi, hl, hrv, hib, h1, hres⟩ hswap hiso hprd
  · intro i flags hys dac o hpl hi hfilt hobj gain y d w hy hd hok
    have hgain : (s.taken p).cmpGain i.toNat = gain := taken_cmpGain s p i.toNat
    have hdac : (s.taken p).cmpDac i.toNat dac.toNat = d := by unfold State.cmpDac; rw [hgain, Laws.taken_stg]
    refine runs_of_noObject ho (f := State.protCfgBody) rfl fun c hcpl hcobj => ?_
    rw [protCfgBody_comparator p (hcpl.trans hpl)]
    have hwrites := cfgComparator_writes hcobj (mode _ hm) (hcpl.trans hpl) hi hfilt hobj
    rw [hgain, hdac] at hwrites
    exact hwrites hy hd hok
  · refine runs_of_noObject ho (f := State.protCfgBody) rfl fun c hcpl hcobj => ?_
    rw [protCfgBody_device p (hcpl.trans hpl)]
    exact cfgDevice_stages hcobj (mode _ hm) (hcpl.trans hpl) hpol hov hn hlo hhi
  · refine runs_of_noObject ho (f := State.protCfgBody) rfl fun c hcpl hcobj => ?_
    rw [protCfgBody_rail p (hcpl.trans hpl)]
    exact cfgRailPolicy_stages hcobj (mode _ hm) (hcpl.trans hpl) hpol hhn hlo hhi
  · intro i ty mask hys nf w u d rnom beta rpu hpl h1 h8 hty hmask hlow hwu hud hhigh hh1 hh2
    refine runs_of_noObject ho (f := State.thermCfgBody) rfl fun c hcpl hcobj => ?_
    rw [thermCfgBody_sensor p (hcpl.trans hpl), cfgSensor_stages hcobj (mode _ hm) (sensorFits_external (hcpl.trans hpl) h1 h8 hty hmask hh1 hh2) ⟨hlow, hwu, hud, hhigh⟩, if_neg (by omega), sensorRest_external (hcpl.trans hpl)]
    rfl
  · intro hys w u d hpl hlow hwu hud hhigh hh1 hh2
    refine runs_of_noObject ho (f := State.thermCfgBody) rfl fun c hcpl hcobj => ?_
    rw [thermCfgBody_sensor p (hcpl.trans hpl), cfgSensor_stages hcobj (mode _ hm) (sensorFits_die (hcpl.trans hpl) hh1 hh2) ⟨hlow, hwu, hud, hhigh⟩]
    rfl
  · refine runs_of_noObject ho (f := State.thermCfgBody) rfl fun c hcpl hcobj => ?_
    rw [thermCfgBody_bands p (hcpl.trans hpl)]
    exact cfgBands_stages hcobj (by rw [hmode]; exact hm) (hcpl.trans hpl) h1 h2 hrange hok
  · exact runs_of_noObject ho (f := State.faultClearBody) rfl fun c hcpl hcobj =>
      faultClearBody_rail p hcobj (mode _ hm) (hcpl.trans hpl) ((Laws.taken_railState ..).trans hoff) ((Laws.taken_on ..).trans hov)
  · exact runs_of_noObject ho (f := State.faultClearBody) rfl fun c hcpl hcobj =>
      faultClearBody_latch p hcobj (mode _ hm) (hcpl.trans hpl) ((Laws.taken_on ..).trans hlat) ((Laws.taken_on ..).trans h46) ((Laws.taken_on ..).trans h47)
  · exact runs_of_noObject ho (f := State.faultClearBody) rfl fun c hcpl hcobj =>
      faultClearBody_latchHeld p hcobj (mode _ hm) (hcpl.trans hpl) ((Laws.taken_on ..).trans hlat) (by rw [Laws.taken_on, Laws.taken_on]; exact hheld)
  · refine runs_of_noObject ho (f := State.faultClearBody) rfl fun c hcpl hcobj => faultClearBody_safestop p hcobj (hcpl.trans hpl) (hmode.trans hm) (by rw [Laws.taken_rd]; exact hcause) ?_
    simpa only [Laws.taken_rd, taken_causeActive] using hfree
  · exact runs_of_noObject ho (f := State.faultClearBody) rfl fun c hcpl hcobj =>
      faultClearBody_safestopHeld p hcobj (hcpl.trans hpl) (hmode.trans hm) (by rw [Laws.taken_rd]; exact hcause) hb (by rw [Laws.taken_rd]; exact hbit) ((taken_causeActive ..).trans hact)
  · have hm' : restModes.contains s.mode = true := List.contains_iff_mem.2 hm
    exact ⟨fun hil => ⟨runs_rest ho hpl (f := State.grantNow) rfl hil hm', runs_rest ho hpl (f := State.denyRest) rfl hil hm', runs_rest ho hpl (f := State.cancelRest) rfl hil hm'⟩,
      fun hil => runs_rest ho hpl (f := State.grantQuiet) rfl hil hm', fun hil => runs_rest_version ho hpl (f := State.grantNow) rfl hil⟩

end Sys2Proof.Proofs
end

section
/-!
PROOF. The frame of what follows every command: the parts of the state that it is said to leave alone (R337, R436, R441).
-/

namespace Sys2Proof.Machine.State

@[simp] theorem after_ring (s : State) : s.after.ring = s.ring := by rcases s.after_cases with h | h <;> simp [h]
@[simp] theorem after_pending (s : State) : s.after.pending = s.pending := by rcases s.after_cases with h | h <;> simp [h]

end Sys2Proof.Machine.State

namespace Sys2Proof.Proofs

open Machine Machine.State

/-- Settles O3: RATECHG and WAKEREQ are the only fields that the look at the rates and the wake requests write, and the ticks of those requests the only variables; the parts of the state that the title covers and the statement does not name have their lemmas beside `settle`. -/
theorem afterFrame : Obligations.AfterFrame := fun s =>
  ⟨SameRegs.after fun _ _ _ => rfl, s.after_byteAt, s.after_sess, fun _ _ => s.after_v, s.after_staged, s.after_owner, s.after_events, s.after_ring, s.after_slots, s.after_boot, s.after_pending, s.after_now⟩

end Sys2Proof.Proofs
end

section
/-!
PROOF. A stalled channel, the FFT unit and the health period: the effect of each row by what it waits for (R336, R339 to R342, R352).
-/

namespace Sys2Proof.Machine.State

variable {s : State}

/-- The channel of a job whose source has delivered nothing for 10 ms is marked, and its job looked at (R336). -/
theorem captureStall_stalls {c : Nat} (hhold : s.rd Reg.CAP_HOLD c = holdJob) (hrec : s.recording c = true) (hnext : s.vn .capNext c = 0) :
    s.captureStall c = (((s.upTo (s.vn .capAt c - 1 + 4000000)).wr Reg.CAP_STALL c 1).irq 75).jobProgress (s.rd Reg.CAP_JOB c) :=
  if_pos ⟨hhold, hrec, hnext⟩

section
variable (hac : s.on Reg.DBG_STAT_ACHALTED = true)
include hac

/-! ### The AC halted (R352) -/

theorem spectrumDone_halted : s.spectrumDone = s := if_pos hac
theorem fftDone_halted : s.fftDone = s := if_pos hac
theorem healthPeriod_halted : s.healthPeriod = s := if_pos hac

end

section
variable (hac : s.on Reg.DBG_STAT_ACHALTED = false) {x : Spectrum} {rest : List Spectrum} (hq : s.spectra = x :: rest)
include hac

/-! ### The AC running -/

/-- Every phase has its figures from the same fit (R341, R342). -/
theorem healthPeriod_runs : s.healthPeriod = (List.range 32).foldl (fun u c => u.phaseHealth s.fitGains c) s := if_neg (by rw [hac]; exact Bool.false_ne_true)

include hq

/-- The transform of a SPECTRUM is stored and reported (R339, R340). -/
theorem spectrumDone_host (hx : x.job < 16) : s.spectrumDone =
    let a : State := { s with spectra := rest, freeCtr := s.freeCtr + 4096 }
    let b := (a.putBytes (0x91000000 + 4096 * (s.vn .specTok x.ch - 1)) (s.specBytesOf x)).setV .specBytes x.ch (s.specBytesOf x).length
    (b.irq 74).complete x.port x.tag 0x52 stOk := by
  unfold State.spectrumDone
  rw [hac, if_neg Bool.false_ne_true, hq]
  exact if_neg (Nat.not_le.2 hx)

/-- The transform of an identification record joins the run's sums (R163, R164). -/
theorem fftDone_ident (hx : 16 ≤ x.job) : s.fftDone = (({ s with spectra := rest } : State).addSums x).irq 74 := by
  unfold State.fftDone
  rw [hac, if_neg Bool.false_ne_true, hq]
  exact if_neg (Nat.not_lt.2 hx)

end

end Sys2Proof.Machine.State

namespace Sys2Proof.Proofs

open Machine Machine.State

/-- Settles O38: each row by its guards, the AC's halt before all. -/
theorem analysisRowsAct : Obligations.AnalysisRowsAct := by
  intro s hp
  have spectrum : exec .spectrumDone s = .next s.spectrumDone.after := act_after (f := State.spectrumDone) hp
  have fft : exec .fftDone s = .next s.fftDone.after := act_after (f := State.fftDone) hp
  have health : exec .healthPeriod s = .next s.healthPeriod.after := act_after (f := State.healthPeriod) hp
  refine ⟨fun c hhold hrec hnext => ?_, fun hac => ⟨?_, ?_, ?_⟩, fun hac => ⟨fun x rest hq hx => ?_, fun x rest hq hx => ?_, ?_⟩⟩
  · exact (act_after (f := fun u => u.captureStall c) hp).trans (by rw [captureStall_stalls hhold hrec hnext])
  · rw [spectrum, spectrumDone_halted hac]
  · rw [fft, fftDone_halted hac]
  · rw [health, healthPeriod_halted hac]
  · rw [spectrum, spectrumDone_host hac hq hx]
  · rw [fft, fftDone_ident hac hq hx]
  · rw [health, healthPeriod_runs hac]

end Sys2Proof.Proofs
end

section
/-!
PROOF. The opcodes of capture, spectra and health: what each body does once its checks pass (R330, R332 to R335, R338 to R340, R343, R344, R399).
-/

namespace Sys2Proof.Machine.State

theorem taken_ownsJob (s : State) (p q : Port) (j : Nat) : (s.taken p).ownsJob q j = s.ownsJob q j := by cases p <;> rfl
theorem taken_esrChan (s : State) (p : Port) (r : Nat) : (s.taken p).esrChan r = s.esrChan r := by cases p <;> rfl

/-- The job of a CAPTURE_ARM in the slot `j`, on channels that are allocated: its books, and its channels started; one without a trigger is triggered at once (R334 to R336). -/
def armJob (u : State) (p : Port) (j : Nat) (pl : List Byte) (chans : List Nat) : State :=
  let a := ((((u.wr Reg.CAP_JOB_STATE j 1).wr Reg.CAP_JOB_PORT j p.idx).wr Reg.CAP_JOB_TRIG j (fieldAt pl 1 1)).wr Reg.CAP_JOB_TARG j (fieldAt pl 2 1)).wr Reg.CAP_JOB_PRE j (fieldAt pl 3 1)
  let b := (a.wr Reg.CAP_JOB_LEVEL j (fieldAt pl 4 2)).wr Reg.CAP_JOB_CHMASK j (listMask chans)
  let d := ((chans.zip (armChans pl)).foldl (fun v x => v.startChan j x.1 x.2) b).jobProgress j
  if fieldAt pl 1 1 = 0 then d.triggerJob j else d

/-- The transforms of the channel `ch` of the job `j` that still wait fail, and `x` takes their place behind the others (R339; log entry 46). -/
def replaceSpectrum (z : State) (j ch : Nat) (x : Spectrum) : State :=
  let a := (z.spectra.filter (fun y => y.job == j && y.ch == ch)).foldl (fun u y => u.complete y.port y.tag 0x52 stFailed 0x0B) z
  { a with spectra := a.spectra.filter (fun y => !(y.job == j && y.ch == ch)) ++ [x] }

/-- The operands of a CAPTURE_READ are in range (R338, R399). -/
structure ReadRanges (pl : List Byte) : Prop where
  job : fieldAt pl 0 1 < 8
  chan : fieldAt pl 1 1 < 16
  count : fieldAt pl 6 1 ≤ 55
  options : fieldAt pl 7 1 < 4

/-- The channel is one of the job's, only the job's session releases it, and a spectrum that is asked for stands (R334, R338). -/
structure ReadAllowed (w : State) (p : Port) (j ch opt : Nat) : Prop where
  inUse : w.rd Reg.CAP_JOB_STATE j ≠ 0
  member : (w.jobChans j).contains ch = true
  release : bit opt 0 = true → w.ownsJob p j = true
  spectrum : bit opt 1 = true → w.vn .specBytes ch ≠ 0

/-- The operands of a SPECTRUM are in range (R339). -/
structure SpectrumRanges (pl : List Byte) : Prop where
  job : fieldAt pl 0 1 < 8
  chan : fieldAt pl 1 1 < 16
  sizeLow : 6 ≤ fieldAt pl 2 1
  sizeHigh : fieldAt pl 2 1 ≤ 12
  window : fieldAt pl 3 1 ≤ 3
  averageLow : 1 ≤ fieldAt pl 4 1
  averageHigh : fieldAt pl 4 1 ≤ 64
  format : fieldAt pl 5 1 ≤ 1
  complexAlone : fieldAt pl 5 1 = 0 ∨ fieldAt pl 4 1 = 1

/-- The tokens that the output of a transform of `n` points takes (R339). -/
def outputTokens (n : Nat) : Nat := (16 + 4 * (n / 2 + 1) + 4095) / 4096

/-- The session's job has on the channel a complete record that is long enough, and the transform finds room in the queue and in the session's share (R333, R339). -/
structure SpectrumReady (w : State) (p : Port) (j ch n navg : Nat) : Prop where
  room : w.spectra.length < 9
  own : w.ownsJob p j = true
  member : (w.jobChans j).contains ch = true
  done : w.rd Reg.CAP_JOB_STATE j = 4
  long : (navg + 1) * n / 2 ≤ w.rd Reg.CAP_NSAMP ch
  source : cmpSource (w.rd Reg.CAP_SRC ch) = false
  share : (w.freeSpectrum ch).overShare p 0 (outputTokens n) = false

section
variable {t : State} (p : Port) {c : Cmd} {pl : List Byte} (ho : c.obj = 0xFFFF) (hm : modesSes.contains t.mode = true) (hpl : c.payload = pl)
include ho hm hpl

/-- An arm that finds its channels, its tokens and a slot starts its job there (R332 to R336). -/
theorem captureArmBody_arms {u : State} {chans : List Nat} {j : Nat} (h7 : 7 ≤ pl.length) (hlen : pl.length = 7 + 4 * fieldAt pl 6 1) (hok : armFieldsOk pl = true)
    (hbist : t.on Reg.BIST_STAT_RUN = false) (hslot : t.freeSlot = some j) (hgot : t.allocateAll holdJob ((armChans pl).map (fun x => x.len)) = some (u, chans))
    (hshare : t.overShare p (armChans pl).length ((armChans pl).foldl (fun n x => n + x.len) 0) = false) (hrate : t.storeRate (armChans pl) ≤ 200000000 * 2 ^ 15) :
    t.captureArmBody p c = (u.armJob p j pl chans, stOk, leBytes 1 j ++ leBytes 2 (listMask chans) ++ leBytes 1 ((u.armJob p j pl chans).rd Reg.CAP_TOK0 (chans.headD 0))) := by
  subst hpl
  have hcheck : checkCmd c (decide (7 ≤ c.payload.length) && c.payload.length == 7 + 4 * fieldAt c.payload 6 1) (armFieldsOk c.payload) modesSes t = stOk :=
    checkCmd_ok (by rw [decide_eq_true h7, beq_iff_eq.2 hlen]; rfl) ho hok hm
  unfold State.captureArmBody
  extract_lets pl f l st got st'
  have hst : st' = stOk := by
    simp only [st', st, got, pl, f, l, hcheck, hbist, hslot, hgot, hshare, decide_eq_false (Nat.not_lt.2 hrate)]
    rfl
  simp only [got, l, pl, hgot, hslot, hst, ne_eq, not_true_eq_false, if_false]
  rfl

/-- An action on a job passes only for a job of the session (R335, R399). -/
theorem captureAct_eq {f : State → Nat → State} {a j : Byte} (hb : pl = [a, j]) (hj : j.toNat < 8) (hbist : t.on Reg.BIST_STAT_RUN = false) :
    captureAct f t p c = if t.ownsJob p j.toNat = true then (f t j.toNat, stOk, []) else (t, stBadParam, []) := by
  subst hb
  have hf : fieldAt c.payload 1 1 = j.toNat := by rw [hpl]; exact fieldAt_byte [a] [] j
  have hcheck : checkCmd c (decide (c.payload.length = 2)) (decide (j.toNat < 8)) modesSes t = stOk := checkCmd_ok (by rw [hpl]; rfl) ho (decide_eq_true hj) hm
  unfold State.captureAct
  dsimp only
  rw [hf, hcheck, hbist]
  cases t.ownsJob p j.toNat <;> rfl

/-- A read that is allowed returns the channel's frame and what it names of the samples or of the spectrum, and then releases the job where it is told to (R338, R340, R399). -/
theorem captureReadBody_reads (hlen : pl.length = 8) (hranges : ReadRanges pl) (hallow : t.capSync.ReadAllowed p (fieldAt pl 0 1) (fieldAt pl 1 1) (fieldAt pl 7 1)) :
    t.captureReadBody p c = (if bit (fieldAt pl 7 1) 0 = true then t.capSync.freeJob (fieldAt pl 0 1) else t.capSync, stOk,
      (List.range 4).flatMap (fun k => t.capSync.objBytes (0x0BC1 + k) (fieldAt pl 1 1)) ++ t.capSync.readData (fieldAt pl 1 1) (fieldAt pl 2 4) (fieldAt pl 6 1) (bit (fieldAt pl 7 1) 1)) := by
  subst hpl
  unfold State.captureReadBody
  extract_lets f j ch spec release st s d
  have hst : st = stOk :=
    checkCmd_ok (decide_eq_true hlen) ho (by simp only [f, j, ch, hranges.job, hranges.chan, hranges.count, hranges.options]; rfl) hm
  have hpass : ¬ (s.rd Reg.CAP_JOB_STATE j = 0 ∨ ¬ (s.jobChans j).contains ch = true ∨ (release = true ∧ ¬ s.ownsJob p j = true) ∨ (spec = true ∧ s.vn .specBytes ch = 0)) := by
    rintro (hfree | hother | ⟨hrel, hforeign⟩ | ⟨hsp, hnone⟩)
    · exact hallow.inUse hfree
    · exact hother hallow.member
    · exact hforeign (hallow.release hrel)
    · exact hallow.spectrum hsp hnone
  rw [if_neg (not_not.2 hst), if_neg hpass]

/-- A SPECTRUM of a record that is ready takes its tokens and waits for its transform (R333, R339). -/
theorem spectrumBody_accepts {k : Nat} (hlen : pl.length = 6) (hranges : SpectrumRanges pl)
    (hready : t.capSync.SpectrumReady p (fieldAt pl 0 1) (fieldAt pl 1 1) (2 ^ fieldAt pl 2 1) (fieldAt pl 4 1))
    (hfit : (t.capSync.freeSpectrum (fieldAt pl 1 1)).fitTokens (outputTokens (2 ^ fieldAt pl 2 1)) = some k) :
    t.spectrumBody p c = ((((t.capSync.freeSpectrum (fieldAt pl 1 1)).replaceSpectrum (fieldAt pl 0 1) (fieldAt pl 1 1)
      ⟨p.idx + 1, c.tag, fieldAt pl 0 1, fieldAt pl 1 1, fieldAt pl 2 1, fieldAt pl 3 1, fieldAt pl 4 1, fieldAt pl 5 1⟩).setV .specTok (fieldAt pl 1 1) (k + 1)).setV .specNtok (fieldAt pl 1 1)
        (outputTokens (2 ^ fieldAt pl 2 1)), stAccepted, []) := by
  subst hpl
  obtain ⟨hroom, hown, hmem, hdone, hlong, hsrc, hshare⟩ := hready
  obtain ⟨hj, hch, h6, h12, hwin, hn1, hn64, hfmt, hone⟩ := hranges
  rw [outputTokens] at hshare hfit ⊢
  refine (if_neg (not_not.2 (checkCmd_ok (decide_eq_true hlen) ho ?_ hm))).trans ?_
  · simp only [hj, hch, h6, h12, hwin, hn1, hn64, hfmt, hone, decide_true, Bool.and_self, Bool.true_and, Bool.or_eq_true, beq_iff_eq]
  · beta_reduce
    rw [hfit]
    refine if_neg (not_not.2 ?_)
    rw [hown, hmem, beq_iff_eq.2 hdone, decide_eq_true hlong, hsrc, decide_eq_false (Nat.not_le.2 hroom), hshare]
    rfl

/-- HEALTH, read, returns the sixteen bytes of each phase it names, of fifteen at most (R351, R399). -/
theorem healthReadBody_reads {a : Byte} {mask : List Byte} (hb : pl = a :: mask) (hlen : mask.length = 4) (hmask : (maskList 32 (leNat mask)).length ≤ 15) :
    t.healthReadBody p c = (t, stOk, (maskList 32 (leNat mask)).flatMap (fun k => (List.range 16).map (fun i => t.hlthByte (16 * k + i)))) := by
  subst hb
  have hf : fieldAt c.payload 1 4 = leNat mask := by
    rw [hpl]
    exact congrArg leNat (List.take_of_length_le hlen.le)
  have hcheck : checkCmd c (decide (c.payload.length = 5)) (decide ((maskList 32 (leNat mask)).length ≤ 15)) modesSes t = stOk :=
    checkCmd_ok (by rw [hpl, List.length_cons, hlen]; rfl) ho (decide_eq_true hmask) hm
  unfold State.healthReadBody
  dsimp only
  rw [hf, hcheck]
  rfl

/-- HEALTH, baseline, keeps the figures, or goes back to the head of the queue while the AC is halted (R344, R405). -/
theorem healthBaseBody_eq (hlen : pl.length = 1) : t.healthBaseBody p c =
    if t.on Reg.DBG_STAT_ACHALTED = true then (t.updSess p (fun x => { x with queue := c :: x.queue }), stLater, []) else (t.setBaselines, stOk, []) := by
  subst hpl
  unfold State.healthBaseBody
  dsimp only
  rw [checkCmd_ok (decide_eq_true hlen) ho rfl hm]
  exact if_neg (not_not.2 rfl)

section
variable {a : Byte} {r : Rail} (hb : pl = [a, BitVec.ofNat 8 r]) (hil : 4 ≤ t.servedIl)
include hb hil

omit ho hm hil in
theorem fieldAt_esrRail : fieldAt c.payload 1 1 = r := by
  rw [hpl, hb]
  exact (fieldAt_byte [a] [] _).trans (by rw [BitVec.toNat_ofNat]; omega)

/-- The checks of an ESR action pass for any rail where interface level 4 is served (R384, R386). -/
theorem esrCheck_ok : t.esrCheck c = stOk := by
  have hrail : ¬ 4 ≤ fieldAt c.payload 1 1 := by rw [fieldAt_esrRail hpl hb]; omega
  unfold State.esrCheck
  rw [ho, hm, decide_eq_false (Nat.not_lt.2 hil), decide_eq_false hrail, hpl, hb]
  rfl

/-- An arm of a rail that is not armed takes a channel with eight tokens (R343). -/
theorem esrArmBody_arms {u : State} {ch : Nat} (hoff : t.on Reg.CAP_ESR_ARMED r = false) (hgot : t.allocate holdEsr 8 = some (u, ch)) :
    t.esrArmBody p c = (((u.wr Reg.CAP_JOB ch r).wr Reg.CAP_RATE ch 3125000).wr Reg.CAP_ESR_ARMED r 1, stOk, []) := by
  unfold State.esrArmBody
  dsimp only
  rw [esrCheck_ok ho hm hpl hb hil, fieldAt_esrRail hpl hb, hoff, hgot]
  rfl

/-- A disarm of a rail with a channel releases it (R343). -/
theorem esrDisarmBody_disarms {ch : Nat} (hch : t.esrChan r = some ch) : t.esrDisarmBody p c = ((t.freeChan ch).wr Reg.CAP_ESR_ARMED r 0, stOk, []) := by
  unfold State.esrDisarmBody
  dsimp only
  rw [esrCheck_ok ho hm hpl hb hil, fieldAt_esrRail hpl hb, hch]
  rfl

end

end

end Sys2Proof.Machine.State
end

section
/-!
PROOF. Every opcode of capture, spectra and health, from the rules for its body.
-/

namespace Sys2Proof.Proofs

open Machine Machine.State

/-- An action on a job of the session runs as the action does on the state without the command (R335, R399). -/
theorem runs_captureAct {s : State} {p : Port} {h : Hdr} {pl : List Byte} (ho : h.objId = 0xFFFF#16) (hm : modesSes.contains s.mode = true) {i : Instr} {a j : Byte} {f : State → Nat → State} {g : State → State}
    (hx : exec i s = act s (hostRow 0x50 p h (a :: pl) (State.captureAct f))) (hpl : pl = [j]) (hj : j.toNat < 8) (hbist : s.on Reg.BIST_STAT_RUN = false) (hown : s.ownsJob p j.toNat = true)
    (hf : f (s.taken p) j.toNat = g (s.taken p)) : Runs i s p h (a :: pl) 0x50 (fun t _ => (g t, stOk, [])) := by
  refine runs_of_noObject ho hx fun c hcpl hobj => ?_
  rw [captureAct_eq p hobj (by rw [Laws.taken_mode]; exact hm) hcpl (by rw [hpl]) hj ((Laws.taken_on ..).trans hbist), taken_ownsJob, if_pos hown, hf]

/-- Settles O53: each opcode's checks pass or fail as the state says, and its body takes, reads or releases what its operands name; that the transform which a SPECTRUM of its channel replaces fails with 0x0B (log entry 46), that the queue holds eight transforms beside the one that runs (log entry 82), and that a baseline waits while the AC is halted (log entry 41), are the model's choices. -/
theorem captureOpcodesRun : Obligations.CaptureOpcodesRun := by
  intro p h pl s ho hm t f
  have hmT : modesSes.contains t.mode = true := by rw [Laws.taken_mode]; exact hm
  refine ⟨fun u chans j h7 hlen hok hbist hslot hgot hshare hrate => ?_, fun j hpl hj hbist hown => ⟨fun htrig => ?_, fun htrig => ?_, ?_⟩, fun j hpl hj hbist hown => ?_,
    fun hlen hj hch hn hopt hstate hmem hrel hspec => ?_, fun k hlen hj hch h6 h12 hwin hn1 hn64 hfmt hone hroom hown hmem hdone hlong hsrc hshare hfit => ?_,
    fun hlen hmask => ?_, fun hpl hac => ?_, fun hpl hac => ?_, fun r hpl hil => ⟨fun u ch hoff hgot => ?_, fun ch hch => ?_⟩⟩
  · exact runs_of_noObject ho (f := State.captureArmBody) rfl fun c hcpl hobj =>
      captureArmBody_arms p hobj hmT hcpl h7 hlen hok ((Laws.taken_on ..).trans hbist) hslot hgot hshare hrate
  · exact runs_captureAct ho hm (f := State.fireSoft) (g := fun t => t.triggerJob j.toNat) rfl hpl hj hbist hown (if_pos ((Laws.taken_rd ..).trans htrig))
  · exact runs_captureAct ho hm (f := State.fireSoft) (g := id) rfl hpl hj hbist hown (if_neg fun e => htrig ((Laws.taken_rd ..).symm.trans e))
  · exact runs_captureAct ho hm (f := State.freeJob) (g := fun t => t.freeJob j.toNat) rfl hpl hj hbist hown rfl
  · refine runs_of_noObject ho (f := State.captureAct State.freeJob) rfl fun c hcpl hobj => ?_
    rw [captureAct_eq p hobj hmT hcpl (by rw [hpl]) hj ((Laws.taken_on ..).trans hbist), taken_ownsJob, if_neg (by rw [hown]; exact Bool.false_ne_true)]
  · exact runs_of_noObject ho (f := State.captureReadBody) rfl fun c hcpl hobj =>
      captureReadBody_reads p hobj hmT hcpl hlen ⟨hj, hch, hn, hopt⟩ ⟨hstate, hmem, hrel, hspec⟩
  · exact runs_of_noObject ho (f := State.spectrumBody) rfl fun c hcpl hobj =>
      spectrumBody_accepts p hobj hmT hcpl hlen ⟨hj, hch, h6, h12, hwin, hn1, hn64, hfmt, hone⟩ ⟨hroom, hown, hmem, hdone, hlong, hsrc, hshare⟩ hfit
  · exact runs_of_noObject ho (f := State.healthReadBody) rfl fun c hcpl hobj => healthReadBody_reads p hobj hmT hcpl rfl hlen hmask
  · refine runs_of_noObject ho (f := State.healthBaseBody) rfl fun c hcpl hobj => ?_
    rw [healthBaseBody_eq p hobj hmT hcpl (by rw [hpl]; rfl), Laws.taken_on, if_neg (by rw [hac]; exact Bool.false_ne_true)]
  · refine runs_of_noObject ho (f := State.healthBaseBody) rfl fun c hcpl hobj => ?_
    rw [healthBaseBody_eq p hobj hmT hcpl (by rw [hpl]; rfl), Laws.taken_on, if_pos hac]
  · exact runs_of_noObject ho (f := State.esrArmBody) rfl fun c hcpl hobj =>
      esrArmBody_arms p hobj hmT hcpl (by rw [hpl]) ((Laws.taken_servedIl ..).symm ▸ hil) ((Laws.taken_on ..).trans hoff) hgot
  · exact runs_of_noObject ho (f := State.esrDisarmBody) rfl fun c hcpl hobj =>
      esrDisarmBody_disarms p hobj hmT hcpl (by rw [hpl]) ((Laws.taken_servedIl ..).symm ▸ hil) ((taken_esrChan ..).trans hch)

end Sys2Proof.Proofs
end

section
/-!
PROOF. The queue of the model; and how a packet's bytes are laid out: each header field in its place, the payload behind them, the CRC last (R353).
-/

namespace Sys2Proof.Machine

/-- What a packet is closed over: header and payload, the bytes its CRC is taken of (R353). -/
def packetBody (b0 op tag obj seq : Nat) (pl : List Byte) : List Byte :=
  leBytes 1 b0 ++ leBytes 1 op ++ leBytes 1 tag ++ leBytes 1 pl.length ++ leBytes 2 obj ++ leBytes 2 seq ++ pl

theorem packet_eq (b0 op tag obj seq : Nat) (pl : List Byte) :
    packet b0 op tag obj seq pl = packetBody b0 op tag obj seq pl ++ leBytes 2 (crc16 (packetBody b0 op tag obj seq pl)) := rfl

theorem packetBody_length (b0 op tag obj seq : Nat) (pl : List Byte) : (packetBody b0 op tag obj seq pl).length = pl.length + 8 := by
  simp only [packetBody, List.length_append, leBytes_length]
  omega

theorem packet_length (b0 op tag obj seq : Nat) (pl : List Byte) : (packet b0 op tag obj seq pl).length = pl.length + 10 := by
  rw [packet_eq, List.length_append, packetBody_length, leBytes_length]

/-- The field of `k` bytes at place `i` of a list. -/
def fieldOf (bs : List Byte) (i k : Nat) : Nat := leNat ((bs.drop i).take k)

/-- A field that stands behind `i` bytes reads as what it spells. -/
theorem fieldOf_at {bs pre post : List Byte} {i k x : Nat} (h : bs = pre ++ (leBytes k x ++ post)) (hi : pre.length = i) (hx : x < 256 ^ k) : fieldOf bs i k = x := by
  subst h hi
  exact fieldAt_leBytes pre post hx

section
variable {b0 op tag obj seq : Nat} {pl : List Byte}

theorem packet_byte0 (h : b0 < 256) : fieldOf (packet b0 op tag obj seq pl) 0 1 = b0 :=
  fieldOf_at (pre := []) (by simp only [packet, List.append_assoc, List.nil_append]; rfl) rfl h

theorem packet_opcode (h : op < 256) : fieldOf (packet b0 op tag obj seq pl) 1 1 = op :=
  fieldOf_at (pre := leBytes 1 b0) (by simp only [packet, List.append_assoc]; rfl) rfl h

theorem packet_tag (h : tag < 256) : fieldOf (packet b0 op tag obj seq pl) 2 1 = tag :=
  fieldOf_at (pre := leBytes 1 b0 ++ leBytes 1 op) (by simp only [packet, List.append_assoc]; rfl) rfl h

theorem packet_len (h : pl.length < 256) : fieldOf (packet b0 op tag obj seq pl) 3 1 = pl.length :=
  fieldOf_at (pre := leBytes 1 b0 ++ leBytes 1 op ++ leBytes 1 tag) (by simp only [packet, List.append_assoc]; rfl) rfl h

theorem packet_objId (h : obj < 65536) : fieldOf (packet b0 op tag obj seq pl) 4 2 = obj :=
  fieldOf_at (pre := leBytes 1 b0 ++ leBytes 1 op ++ leBytes 1 tag ++ leBytes 1 pl.length) (by simp only [packet, List.append_assoc]; rfl) rfl h

theorem packet_seq (h : seq < 65536) : fieldOf (packet b0 op tag obj seq pl) 6 2 = seq :=
  fieldOf_at (pre := leBytes 1 b0 ++ leBytes 1 op ++ leBytes 1 tag ++ leBytes 1 pl.length ++ leBytes 2 obj) (by simp only [packet, List.append_assoc]; rfl) rfl h

/-- Behind the eight bytes of the header stand the payload and the CRC. -/
theorem packet_behind_header : (packet b0 op tag obj seq pl).drop 8 = pl ++ leBytes 2 (crc16 (packetBody b0 op tag obj seq pl)) := rfl

theorem packet_payload : ((packet b0 op tag obj seq pl).drop 8).take pl.length = pl := by
  rw [packet_behind_header]
  exact List.take_left

theorem packet_take_body : (packet b0 op tag obj seq pl).take (pl.length + 8) = packetBody b0 op tag obj seq pl :=
  List.take_left' (packetBody_length ..)

theorem packet_crc : fieldOf (packet b0 op tag obj seq pl) (pl.length + 8) 2 = crc16 (packetBody b0 op tag obj seq pl) :=
  fieldOf_at (post := []) ((packet_eq ..).trans (by rw [List.append_nil])) (packetBody_length ..) (BitVec.isLt _)

end

end Sys2Proof.Machine

namespace Sys2Proof.Proofs

open Machine Machine.State

/-- Settles O1: a step of a queue that is not empty is its front command on what is left. -/
theorem stepTakesFront : Obligations.StepTakesFront := fun _ _ _ => rfl

/-- Settles O41: each field stands behind the bytes before it. -/
theorem packetReadsBack : Obligations.PacketReadsBack := by
  intro b0 op tag obj seq pl h0 hop htag hobj hseq hlen bs f
  have hn : bs.length = pl.length + 10 := packet_length ..
  refine ⟨hn, packet_byte0 h0, packet_opcode hop, packet_tag htag, packet_len (by omega), packet_objId hobj, packet_seq hseq, ?_, ?_⟩
  · rw [hn]
    exact packet_payload
  · rw [hn]
    exact packet_crc.trans (congrArg crc16 packet_take_body.symm)

end Sys2Proof.Proofs
end

section
/-!
PROOF. The inputs of the interrupt controller: at reset, and in an idle tick of a state whose store holds a job that does not exist (R435, R436); and HALTREQ where HALTED holds a number that is no flag (R485).
-/

namespace Sys2Proof.Proofs

open Machine Machine.State

/-- Refutes O59: at reset every comparator shows OUT 1 (R71), and what marks an output as one of the starting state, which raises no source, is set only when the reset is released; so source 24 has a level, and its input is low. -/
theorem not_inputsFollowAtReset : ¬ Obligations.InputsFollowAtReset := by
  intro h
  exact absurd (h (24, true) (by decide +kernel)) (by decide +kernel)

/-- The number of a job so far past the eight that the place of the low half of its trigger time is that of BUSSTUCK: fields are kept by place and index. -/
def jobBeyondEight : Nat := Reg.TWX_STAT_BUSSTUCK.key 0 - Reg.CAP_JOB_TSLO.key 0

/-- A running block at its third tick, whose capture channel 0 samples for such a job, armed to trigger when its first channel falls below a level. -/
def capturingBeyondJobs : State :=
  let s : State := { State.reset with power := .running, now := 3, icu := { State.reset.icu with input := 0xFF000000#128 } }
  let s := (((s.wr Reg.CAP_HOLD 0 holdJob).wr Reg.CAP_SRC 0 0xA0).setV .capNext 0 1).setV .capWas 0 1
  let s := ((s.setV .capHave 0 1).withRaw Reg.CAP_JOB 0 jobBeyondEight).wr Reg.CAP_JOB_STATE jobBeyondEight 1
  ((s.wr Reg.CAP_JOB_TRIG jobBeyondEight 6).wr Reg.CAP_JOB_CHMASK jobBeyondEight 1).wr Reg.CAP_JOB_LEVEL jobBeyondEight 1

/-- Refutes O60: it speaks of every state, and so of one in which a capture channel belongs to a job far past the eight; in an idle tick the channel's sample triggers that job, whose trigger time is written over BUSSTUCK, and an idle tick samples no input: source 86 has a level and its input is low. The model itself writes JOB in its four bits, so no run comes to this state. -/
theorem not_inputsFollowKept : ¬ Obligations.InputsFollowKept := by
  intro h
  have before : capturingBeyondJobs.InputsFollow := by
    unfold InputsFollow
    decide +kernel
  have follow : capturingBeyondJobs.idle.InputsFollow := h capturingBeyondJobs capturingBeyondJobs.idle (fun _ => before) rfl (by decide +kernel)
  have level : (86, true) ∈ capturingBeyondJobs.idle.icuInputs := by decide +kernel
  have input : capturingBeyondJobs.idle.icu.input.getLsbD 86 = false := by decide +kernel
  exact absurd ((follow (86, true) level).symm.trans input) (by decide)

/-- A running block in REHEARSAL with every stage off, whose store holds 2 for HALTED. -/
def haltedByTwo : State := (({ State.reset with power := .running }.wr Reg.SYS_MODE_MODE 0 mRehearsal).withRaw Reg.LE_CTL_HALTED 0 2)

/-- HALTED in the next state of an outcome. -/
def haltedAfter : Host.Outcome State Fault Refusal → Option Nat
  | .next t => some (t.rd Reg.LE_CTL_HALTED)
  | _ => none

/-- Refutes O14, by its clause for HALTREQ in REHEARSAL: it speaks of every state, and so of one whose HALTED holds 2, which counts as halted, so that HALTREQ finds nothing to change and leaves the 2. The model itself writes HALTED in its one bit, so no run comes to this state. -/
theorem not_debugRowsAct : ¬ Obligations.DebugRowsAct := by
  rintro ⟨-, h⟩
  obtain ⟨-, halts, -⟩ := h haltedByTwo (by decide +kernel)
  obtain ⟨t, hexec, -, hhalted⟩ := halts (by decide +kernel) (by decide +kernel)
  have shown : haltedAfter (exec (.dbgLeHaltreq true) haltedByTwo) = some 2 := by decide +kernel
  have claimed : haltedAfter (exec (.dbgLeHaltreq true) haltedByTwo) = some 1 := by rw [hexec, haltedAfter, hhalted]
  exact absurd (claimed.symm.trans shown) (by decide)

end Sys2Proof.Proofs
end

section
/-!
PROOF. The cores and their interrupts: watchdogs and fatal faults, sleep, entry, return and fallback, the arbitration, EOI and the registers of the interrupt controller (R432 to R447), and the TAP's instructions (R481, R482).
-/

namespace Sys2Proof.Machine

/-- `a` is the best number below `k` of those that `e` picks: the one with the highest priority, the lowest of them on a tie. -/
def IsBest (e : Nat → Bool) (prio : Nat → Nat) (k : Nat) : Option Nat → Prop
  | none => ∀ m < k, e m = false
  | some n => n < k ∧ e n = true ∧ ∀ m < k, e m = true → prio m < prio n ∨ (prio m = prio n ∧ n ≤ m)

/-- A pass that takes a number only if it beats the one it holds ends with the best. -/
theorem isBest_foldl (e : Nat → Bool) (prio : Nat → Nat) (k : Nat) :
    IsBest e prio k ((List.range k).foldl (fun (a : Option Nat) n => if e n && a.all (fun m => decide (prio m < prio n)) then some n else a) none) := by
  induction k with
  | zero => exact fun m h => absurd h (Nat.not_lt_zero m)
  | succ k ih =>
    rw [List.range_succ, List.foldl_append, List.foldl_cons, List.foldl_nil]
    revert ih
    generalize (List.range k).foldl _ none = a
    intro ih
    cases he : e k with
    | false =>
      cases a with
      | none =>
        intro m hm
        rcases Nat.lt_succ_iff_lt_or_eq.1 hm with h | rfl
        · exact ih m h
        · exact he
      | some n =>
        obtain ⟨hn, hen, hbest⟩ := ih
        refine ⟨by omega, hen, fun m hm hem => ?_⟩
        rcases Nat.lt_succ_iff_lt_or_eq.1 hm with h | rfl
        · exact hbest m h hem
        · exact absurd (he.symm.trans hem) Bool.false_ne_true
    | true =>
      cases a with
      | none =>
        refine ⟨Nat.lt_succ_self k, he, fun m hm hem => ?_⟩
        rcases Nat.lt_succ_iff_lt_or_eq.1 hm with h | rfl
        · exact absurd ((ih m h).symm.trans hem) Bool.false_ne_true
        · exact .inr ⟨rfl, Nat.le_refl m⟩
      | some n =>
        obtain ⟨hn, hen, hbest⟩ := ih
        by_cases hbeats : prio n < prio k
        · rw [Bool.true_and, Option.all_some, if_pos (decide_eq_true hbeats)]
          refine ⟨Nat.lt_succ_self k, he, fun m hm hem => ?_⟩
          rcases Nat.lt_succ_iff_lt_or_eq.1 hm with h | rfl
          · have := hbest m h hem
            omega
          · exact .inr ⟨rfl, Nat.le_refl m⟩
        · rw [Bool.true_and, Option.all_some, decide_eq_false hbeats, if_neg Bool.false_ne_true]
          refine ⟨by omega, hen, fun m hm hem => ?_⟩
          rcases Nat.lt_succ_iff_lt_or_eq.1 hm with h | rfl
          · exact hbest m h hem
          · omega

namespace State

/-! ### Watchdogs and fatal faults -/

/-- WATCHDOG_KICK, WATCHDOG_PREWARNING, WATCHDOG_EXPIRY and FATAL_CORE_FAULT of a running block. -/
theorem exec_watchdogKick {s : State} (hp : s.power = .running) (c : CoreId) (w : Word) : exec (.watchdogKick c w) s = .next (s.wdtWrite c w.toNat).after :=
  act_after (f := fun u => u.wdtWrite c w.toNat) hp
theorem exec_watchdogPrewarning {s : State} (hp : s.power = .running) (c : CoreId) : exec (.watchdogPrewarning c) s = .next (s.wdtPrewarn c).after :=
  act_after (f := fun u => u.wdtPrewarn c) hp
theorem exec_watchdogExpiry {s : State} (hp : s.power = .running) (c : CoreId) : exec (.watchdogExpiry c) s = .next (s.wdtExpire c).after :=
  act_after (f := fun u => u.wdtExpire c) hp
theorem exec_fatalCoreFault {s : State} (hp : s.power = .running) (c : CoreId) : exec (.fatalCoreFault c) s = .next (s.fatalFault c).after :=
  act_after (f := fun u => u.fatalFault c) hp

/-- What the word leaves in PREF and TMO before it kicks (R447). -/
def wdtStored (s : State) (c : CoreId) (w : Nat) : State :=
  let s := if bit w 13 then s.wr (prefFld c) 0 0 else s
  if 1 ≤ bits w 9 0 ∧ bits w 9 0 ≤ 1000 then s.wr (tmoFld c) 0 (bits w 9 0) else s

theorem wdtWrite_eq (s : State) (c : CoreId) (w : Nat) : s.wdtWrite c w = if bits w 31 16 = 0x5A3C then (s.wdtStored c w).wdtStart c else s.wdtStored c w := rfl

theorem rd_wdtStart (s : State) (c : CoreId) (f : Fld) (i : Nat) : (s.wdtStart c).rd f i = s.rd f i := rfl

theorem rd_wdtWrite (s : State) (c : CoreId) (w : Nat) (f : Fld) (i : Nat) : (s.wdtWrite c w).rd f i = (s.wdtStored c w).rd f i := by
  rw [wdtWrite_eq]
  split <;> rfl

theorem v_wdtStored (s : State) (c : CoreId) (w : Nat) (x : Var) (i : Nat) : (s.wdtStored c w).v x i = s.v x i := by
  unfold wdtStored
  dsimp only
  split <;> split <;> rfl

theorem now_wdtStored (s : State) (c : CoreId) (w : Nat) : (s.wdtStored c w).now = s.now := by
  unfold wdtStored
  dsimp only
  split <;> split <;> rfl

theorem rd_wdtStored_pref {s : State} {c : CoreId} {w : Nat} (h : bit w 13 = true) : (s.wdtStored c w).rd (prefFld c) = 0 := by
  unfold wdtStored
  rw [if_pos h]
  dsimp only
  split
  · exact (rd_wr_ne _ _ (by cases c <;> decide) (by decide) (by decide)).trans ((rd_wr_same ..).trans (Nat.zero_mod _))
  · exact (rd_wr_same ..).trans (Nat.zero_mod _)

theorem rd_wdtStored_tmo {s : State} {c : CoreId} {w : Nat} (h1 : 1 ≤ bits w 9 0) (h2 : bits w 9 0 ≤ 1000) : (s.wdtStored c w).rd (tmoFld c) = bits w 9 0 := by
  have hw : (tmoFld c).width = 10 := by cases c <;> rfl
  unfold wdtStored
  rw [if_pos ⟨h1, h2⟩, rd_wr_same, hw]
  exact Nat.mod_eq_of_lt (by omega)

/-- A kick starts the count now, with the timeout in TMO (R432). -/
theorem v_wdtStart (s : State) (c : CoreId) : (s.wdtStart c).v .wdtAt c.idx = s.now + 1 ∧ (s.wdtStart c).v .wdtTmo c.idx = s.rd (tmoFld c) := by
  have hi : c.idx < 1024 := by have := CoreId_idx_lt c; omega
  unfold wdtStart
  exact ⟨(v_setV_ne _ _ (by decide) hi hi).trans ((v_setV_ne _ _ (by decide) hi hi).trans (v_setV_same ..)), (v_setV_ne _ _ (by decide) hi hi).trans (v_setV_same ..)⟩

/-- The places of PREF and TMO are not among those that change after a command. -/
theorem after_rd_wdt (s : State) (c : CoreId) : s.after.rd (prefFld c) = s.rd (prefFld c) ∧ s.after.rd (tmoFld c) = s.rd (tmoFld c) :=
  ⟨after_rd _ (by cases c <;> decide) (by cases c <;> decide) (by decide), after_rd _ (by cases c <;> decide) (by cases c <;> decide) (by decide)⟩

theorem after_v_core (s : State) (c : CoreId) {x : Var} (h : x ≠ .wakeAt) : s.after.v x c.idx = s.v x c.idx := after_v _ h (by have := CoreId_idx_lt c; omega)

/-- The states of rails are read at places of their own. -/
theorem stateFld_base (r : Nat) : (stateFld r).base ∈ [Reg.SYS_RAILST_STATE_A.base, Reg.SYS_RAILST_STATE_B.base, Reg.SYS_RAILST_STATE_C.base, Reg.SYS_RAILST_STATE_D.base] := by
  unfold stateFld
  split <;> simp

theorem anyLive_wr (s : State) {f : Fld} {i : Nat} (n : Nat)
    (h : f.base ∉ [Reg.SYS_RAILST_STATE_A.base, Reg.SYS_RAILST_STATE_B.base, Reg.SYS_RAILST_STATE_C.base, Reg.SYS_RAILST_STATE_D.base]) (hi : i < 256) : (s.wr f i n).anyLive = s.anyLive := by
  have e : (s.wr f i n).railState = s.railState := funext fun r => rd_wr_ne _ _ (fun g => h (g ▸ stateFld_base r)) hi (by decide)
  unfold anyLive railLive
  rw [e]

theorem resetOrCurtain_live {s : State} (h : s.anyLive = true) (cause rst : Nat) : s.resetOrCurtain cause rst = s.enterCurtain cause (rst + 1) := if_pos h
theorem resetOrCurtain_dead {s : State} (h : s.anyLive = false) (cause rst : Nat) : s.resetOrCurtain cause rst = s.devReset rst := if_neg (by rw [h]; exact Bool.false_ne_true)

/-- An expiry ends the count and resets the part, or starts the CURTAIN of it (R432). -/
theorem wdtExpire_eq {s : State} {c : CoreId} (h : s.wdtRuns c = true) : s.wdtExpire c =
    ((s.upTo (s.vn .wdtAt c.idx - 1 + s.vn .wdtTmo c.idx * 400000)).setV .wdtAt c.idx 0).resetOrCurtain 0x08 (if c = .sc then rstWdtSc else rstWdtAc) := if_pos h

theorem anyLive_of_regs {s t : State} (h : s.regs = t.regs) : s.anyLive = t.anyLive := by
  have e : s.railState = t.railState := funext fun r => rd_of_regs h ..
  unfold anyLive railLive
  rw [e]

theorem anyLive_upTo_setV (s : State) (t : Nat) (x : Var) (i : Nat) (n : Int) : ((s.upTo t).setV x i n).anyLive = s.anyLive := anyLive_of_regs rfl

theorem fatalFault_eq {s : State} {c : CoreId} (h : s.coreRuns c = true) : s.fatalFault c = (s.wr Reg.ICU_CORE_FATAL c.idx 1).resetOrCurtain 0x08 rstFatal := if_pos h

theorem anyLive_fatal (s : State) (c : CoreId) : (s.wr Reg.ICU_CORE_FATAL c.idx 1).anyLive = s.anyLive := anyLive_wr s 1 (by decide) (CoreId_idx_lt c)

end State

end Sys2Proof.Machine

namespace Sys2Proof.Proofs

open Machine Machine.State

/-- Settles O10: the word's parts act one after the other, and an expiry or a fatal fault resets or curtains as the rails stand; that a CURTAIN ends the count of the watchdog that started it is the model's choice (log entry 64). -/
theorem watchdogRowsAct : Obligations.WatchdogRowsAct := by
  refine ⟨fun c w s hp => ⟨_, exec_watchdogKick hp c w, fun hpref => ?_, fun h1 h2 => ?_, fun hkey => ?_, fun hkey => ?_⟩, fun c s hp => ⟨fun hr hpre => ?_, fun hr hd => ?_, fun hr hl => ?_, fun hr hd => ?_, fun hr hl => ?_⟩⟩
  · exact ((after_rd_wdt _ c).1.trans (rd_wdtWrite ..)).trans (rd_wdtStored_pref hpref)
  · exact ((after_rd_wdt _ c).2.trans (rd_wdtWrite ..)).trans (rd_wdtStored_tmo h1 h2)
  · obtain ⟨hat, htmo⟩ := v_wdtStart (s.wdtStored c w.toNat) c
    rw [after_v_core _ c (by decide), after_v_core _ c (by decide), (after_rd_wdt _ c).2, wdtWrite_eq, if_pos hkey, hat, htmo, now_wdtStored, rd_wdtStart]
    exact ⟨rfl, rfl⟩
  · rw [after_v_core _ c (by decide), after_v_core _ c (by decide), wdtWrite_eq, if_neg hkey, v_wdtStored, v_wdtStored]
    exact ⟨rfl, rfl⟩
  · have h : s.wdtRuns c = true ∧ ¬ s.vOn .wdtPre c.idx := ⟨hr, by rw [hpre]; exact Bool.false_ne_true⟩
    rw [exec_watchdogPrewarning hp, wdtPrewarn, if_pos h]
    rfl
  · refine ⟨_, exec_watchdogExpiry hp c, ?_⟩
    rw [wdtExpire_eq hr, resetOrCurtain_dead ((anyLive_upTo_setV ..).trans hd), after_devReset]
    exact ⟨devReset_power .., (devReset_cause ..).trans (by cases c <;> rfl)⟩
  · rw [exec_watchdogExpiry hp, wdtExpire_eq hr, resetOrCurtain_live ((anyLive_upTo_setV ..).trans hl)]
    cases c <;> rfl
  · refine ⟨_, exec_fatalCoreFault hp c, ?_⟩
    rw [fatalFault_eq hr, resetOrCurtain_dead ((anyLive_fatal s c).trans hd), after_devReset]
    exact ⟨devReset_power .., devReset_cause .., (devReset_fatal ..).trans (by rw [rd_wr_same]; rfl)⟩
  · rw [exec_fatalCoreFault hp, fatalFault_eq hr, resetOrCurtain_live ((anyLive_fatal s c).trans hl)]
    rfl

/-- Settles O12: the arbitration is one pass over the sources that takes a source only if it beats the one it holds. -/
theorem winnerIsHighest : Obligations.WinnerIsHighest := by
  intro c s n eligible hw
  have best := isBest_foldl eligible (fun m => s.rd Reg.ICU_PRIO m) 128
  unfold icuWinner at hw
  split at hw
  · exact absurd hw (by simp)
  · rw [show (List.range 128).foldl _ none = some n from hw] at best
    exact best

end Sys2Proof.Proofs
end

section
/-!
PROOF. A core's wait instruction, its entries and returns, the wake fallback, EOI and the masks of the interrupt controller (R434 to R447).
-/

namespace Sys2Proof.Machine.State

theorem exec_coreSleep {s : State} (hp : s.power = .running) (c : CoreId) : exec (.coreSleep c) s = .next (s.coreSleep c).after := act_after (f := fun u => u.coreSleep c) hp
theorem exec_interruptEntry {s : State} (hp : s.power = .running) (c : CoreId) : exec (.interruptEntry c) s = .next (s.interruptEntry c).after := act_after (f := fun u => u.interruptEntry c) hp
theorem exec_interruptReturn {s : State} (hp : s.power = .running) (c : CoreId) : exec (.interruptReturn c) s = .next (s.interruptReturn c).after := act_after (f := fun u => u.interruptReturn c) hp
theorem exec_wakeFallback {s : State} (hp : s.power = .running) (n : Fin 128) : exec (.wakeFallback n) s = .next (s.fallback n).after := act_after (f := fun u => u.fallback n) hp
theorem exec_icuEoi {s : State} (hp : s.power = .running) (c : CoreId) (n : Byte) : exec (.icuEoi c n) s = .next (s.eoi c n.toNat).after := act_after (f := fun u => u.eoi c n.toNat) hp

/-- A core awake again, as at the start of an entry (R434, R438). -/
def awake (s : State) (c : CoreId) : State := ((s.wr Reg.ICU_CORE_SLEEP c.idx 0).wr Reg.ICU_CORE_WAKEREQ c.idx 0).setV .wakeAt c.idx 0

/-- An entry of a core that runs pushes the winner, or counts the spurious vector (R438). -/
theorem interruptEntry_eq {s : State} {c : CoreId} (h : s.coreRuns c = true) :
    s.interruptEntry c = match (s.awake c).icuWinner c with
      | some n => (s.awake c).icuPush c n
      | none => (s.awake c).bump Reg.ICU_CORE_SPURCNT c.idx := if_pos h

theorem interruptEntry_push {s : State} {c : CoreId} (h : s.coreRuns c = true) {n : Nat} (hw : (s.awake c).icuWinner c = some n) : s.interruptEntry c = (s.awake c).icuPush c n := by
  rw [interruptEntry_eq h, hw]

theorem interruptEntry_spurious {s : State} {c : CoreId} (h : s.coreRuns c = true) (hw : (s.awake c).icuWinner c = none) : s.interruptEntry c = (s.awake c).bump Reg.ICU_CORE_SPURCNT c.idx := by
  rw [interruptEntry_eq h, hw]

theorem interruptReturn_push {s : State} {c : CoreId} (h : s.coreRuns c = true) {n : Nat} (hw : s.icuWinner c = some n) : s.interruptReturn c = s.icuPush c n := by
  unfold interruptReturn
  rw [if_pos h, hw]

theorem interruptReturn_none {s : State} {c : CoreId} (h : s.coreRuns c = true) (hw : s.icuWinner c = none) : s.interruptReturn c = s := by
  unfold interruptReturn
  rw [if_pos h, hw]

theorem stack_setStack (s : State) (c : CoreId) (l : List (Nat × Nat)) : (s.setStack c l).stack c = l := by cases c <;> rfl

/-- A push puts the source and its priority on top of the stack (R438). -/
theorem stack_icuPush (s : State) (c : CoreId) (n : Nat) : (s.icuPush c n).stack c = (n, s.rd Reg.ICU_PRIO n) :: s.stack c := by
  unfold icuPush
  dsimp only
  split <;> cases c <;> rfl

/-! ### What leaves the stacks alone -/

/-- The two stacks of the interrupt controller. -/
def bothStacks (u : Icu) : List (Nat × Nat) × List (Nat × Nat) := (u.stackSc, u.stackAc)

theorem stack_of_stacks {s t : State} (h : bothStacks s.icu = bothStacks t.icu) (c : CoreId) : s.stack c = t.stack c := by
  cases c
  · exact congrArg Prod.fst h
  · exact congrArg Prod.snd h

theorem stacks_sample (u : Icu) (sense n : Nat) (b : Bool) : bothStacks (u.sample sense n b) = bothStacks u := by
  unfold Icu.sample
  dsimp only
  split <;> (try split) <;> (try split) <;> (try split) <;> rfl

theorem stacks_samples (l : List (Nat × Bool)) (sense : Nat → Nat) (u : Icu) : bothStacks (l.foldl (fun u x => u.sample (sense x.1) x.1 x.2) u) = bothStacks u := by
  induction l generalizing u with
  | nil => rfl
  | cons x l ih => exact (ih _).trans (stacks_sample ..)

theorem stacks_wakeCheck (s : State) (c : CoreId) : bothStacks (s.wakeCheck c).icu = bothStacks s.icu := by
  rcases wakeCheck_cases s c with h | h
  · rw [h]
  · rw [h]
    rfl

/-- What follows a command samples the inputs, and pushes and pops nothing (R436). -/
theorem stacks_settle (s : State) : bothStacks s.settle.icu = bothStacks s.icu := by
  have hicu : s.rateCheck.icu = s.icu := by
    obtain ⟨r, hr, -⟩ := rateCheck_cases s
    rw [hr]
  unfold State.settle
  rw [stacks_wakeCheck, stacks_wakeCheck, ← hicu]
  generalize s.rateCheck = u
  exact stacks_samples u.icuInputs (fun n => u.rd Reg.ICU_SENSE n) u.icu

theorem after_stack (s : State) (c : CoreId) : s.after.stack c = s.stack c := by
  rcases s.after_cases with h | h <;> rw [h]
  exact stack_of_stacks s.stacks_settle c

theorem stack_event (s : State) (code sev : Nat) (d : List Byte) (c : CoreId) : (s.event code sev d).stack c = s.stack c := by
  unfold State.event
  dsimp only
  split <;> cases c <;> rfl

theorem stack_irq (s : State) (n : Nat) (c : CoreId) : (s.irq n).stack c = s.stack c := by
  unfold State.irq
  split
  · rfl
  · split <;> cases c <;> rfl

/-! ### EOI -/

theorem eoi_pops {s : State} {c : CoreId} {n q : Nat} {rest : List (Nat × Nat)} (h : s.stack c = (n, q) :: rest) : s.eoi c n = s.setStack c rest := by
  unfold State.eoi
  rw [h]
  exact if_pos rfl

theorem eoi_bad {s : State} {c : CoreId} {n : Nat} (h : (s.stack c).head?.all (fun x => x.1 != n) = true) : ∃ top, s.eoi c n = s.badEoi c n top := by
  unfold State.eoi
  cases hst : s.stack c with
  | nil => exact ⟨0xFF, rfl⟩
  | cons x rest =>
    rw [hst] at h
    exact ⟨x.1, if_neg (bne_iff_ne.1 h)⟩

/-- A bad EOI pops nothing, sets EOIERRF and counts (R440). -/
theorem badEoi_shows (s : State) (c : CoreId) (n top : Nat) : (s.badEoi c n top).stack c = s.stack c ∧ (s.badEoi c n top).rd Reg.ICU_CORE_EOIERRF c.idx = 1 ∧
    (s.badEoi c n top).rd Reg.ICU_CORE_EOIERRCNT c.idx = min (s.rd Reg.ICU_CORE_EOIERRCNT c.idx + 1) 255 := by
  have hi := CoreId_idx_lt c
  unfold State.badEoi
  dsimp only
  rw [stack_event, stack_irq, rd_event _ _ _ _ (by decide) hi, rd_event _ _ _ _ (by decide) hi, rd_irq, rd_irq]
  refine ⟨by cases c <;> rfl, ?_, ?_⟩
  · exact (rd_wr_ne _ _ (by decide) hi hi).trans (rd_wr_same ..)
  · rw [rd_bump_same, rd_wr_ne _ _ (by decide) hi hi]
    rfl

/-! ### The wake fallback -/

/-- A fallback that is due offers the source to the other core and counts (R441). -/
theorem fallback_shows {s : State} {n : Nat} (hen : s.on Reg.ICU_CTL_FBEN = true) (h4 : n ≠ 124) (h5 : n ≠ 125) (hsleep : s.on Reg.ICU_CORE_SLEEP (s.icuTarget n).idx = true)
    (hwake : s.on Reg.ICU_CORE_WAKEREQ (s.icuTarget n).idx = true) (hrun : s.coreRuns (s.icuTarget n) = true) (hwin : s.icuWinner (s.icuTarget n) = some n) (hfb : s.vOn .fbSrc n = false) :
    (s.fallback n).v .fbSrc n = 1 ∧
      (s.fallback n).rd Reg.ICU_CORE_FBCNT (s.icuTarget n).idx = min (s.rd Reg.ICU_CORE_FBCNT (s.icuTarget n).idx + 1) (2 ^ Reg.ICU_CORE_FBCNT.width - 1) := by
  have hi := CoreId_idx_lt (s.icuTarget n)
  have hfb' : ¬ s.vOn .fbSrc n = true := by rw [hfb]; exact Bool.false_ne_true
  unfold State.fallback
  dsimp only
  rw [if_pos ⟨hen, h4, h5, hsleep, hwake, hrun, hwin, hfb'⟩, v_event, rd_event _ _ _ _ (by decide) hi]
  exact ⟨(v_wr ..).trans (v_setV_same ..), rd_bump_same ..⟩

end Sys2Proof.Machine.State

namespace Sys2Proof.Proofs

open Machine Machine.State

/-- Settles O11: an entry and a return push the winner, if there is one, and the fallback that is due sets its mark and counts. -/
theorem coreRowsAct : Obligations.CoreRowsAct := by
  refine ⟨fun c s hp hr => ⟨?_, ⟨fun n hw => ?_, fun hw => ?_⟩, fun n hw => ?_, fun hw => ?_, stack_icuPush s c⟩, fun n s hp => ?_⟩
  · rw [exec_coreSleep hp, State.coreSleep, if_pos hr]
  · rw [exec_interruptEntry hp, interruptEntry_push hr hw]
    rfl
  · rw [exec_interruptEntry hp, interruptEntry_spurious hr hw]
    rfl
  · rw [exec_interruptReturn hp, interruptReturn_push hr hw]
  · rw [exec_interruptReturn hp, interruptReturn_none hr hw]
  · intro c hen h4 h5 hsleep hwake hrun hwin hfb
    obtain ⟨hsrc, hcount⟩ := fallback_shows hen h4 h5 hsleep hwake hrun hwin hfb
    exact ⟨_, exec_wakeFallback hp n, (after_v _ (by decide) (by omega)).trans hsrc, (after_rd _ (by decide) (by decide) (CoreId_idx_lt c)).trans hcount⟩

/-- Settles O13: EOI pops only its own number, and a mask takes a source unless it is reserved or, for a clear, a level that stands. -/
theorem icuRegisterRowsAct : Obligations.IcuRegisterRowsAct := by
  refine ⟨fun c n s hp => ⟨fun q rest h => ?_, fun h => ?_⟩, fun n s hp => ⟨fun hn => ⟨?_, ?_, ?_, fun h => ?_, fun h0 h1 => ?_⟩, fun hn => ⟨?_, ?_⟩, fun c => ?_, ?_⟩⟩
  · rw [exec_icuEoi hp, eoi_pops h]
  · obtain ⟨top, e⟩ := eoi_bad h
    obtain ⟨hstack, herr, hcount⟩ := badEoi_shows s c n.toNat top
    refine ⟨_, exec_icuEoi hp c n, ?_⟩
    rw [e]
    exact ⟨(after_stack ..).trans hstack, (after_rd _ (by decide) (by decide) (CoreId_idx_lt c)).trans herr, (after_rd _ (by decide) (by decide) (CoreId_idx_lt c)).trans hcount⟩
  · exact (act_after (f := fun u => u.writePend n true) hp).trans (by rw [writePend, if_neg hn]; rfl)
  · exact (act_after (f := fun u => u.writeEn n true) hp).trans (by rw [writeEn, if_neg hn]; rfl)
  · exact (act_after (f := fun u => u.writeEn n false) hp).trans (by rw [writeEn, if_neg hn]; rfl)
  · have hfree : ¬ (!false && s.rd Reg.ICU_SENSE n == 0 && s.icu.input.getLsbD n) = true := by
      rcases h with h | h
      · rw [beq_false_of_ne h]
        exact Bool.false_ne_true
      · rw [h, Bool.and_false]
        exact Bool.false_ne_true
    exact (act_after (f := fun u => u.writePend n false) hp).trans (by rw [writePend, if_neg hn, if_neg hfree]; rfl)
  · exact (act_after (f := fun u => u.writePend n false) hp).trans (by rw [writePend, if_neg hn, h0, h1]; rfl)
  · exact (act_after (f := fun u => u.writePend n true) hp).trans (by rw [writePend, if_pos hn])
  · exact (act_after (f := fun u => u.writeEn n true) hp).trans (by rw [writeEn, if_pos hn])
  · exact act_after (f := fun u => u.softIrq c) hp
  · exact act_after (f := fun u => (u.upTo ((u.now / 400000 + 1) * 400000)).irq 122) hp

/-- Settles O15: a pin instruction that is refused leaves the pins as the instruction before it gave them back, and sets BSREJ. -/
theorem tapActs : Obligations.TapActs := by
  intro ir s
  refine ⟨fun hp => ?_, fun hp hpin => ?_, fun hp hpin hm hb => ?_, fun hp hpin h => ?_⟩
  · exact congrArg Host.Outcome.next (if_neg hp)
  · refine congrArg Host.Outcome.next ((if_neg hp).trans ?_)
    exact if_neg fun g => Bool.false_ne_true (hpin.symm.trans g.1)
  · refine congrArg Host.Outcome.next ((if_neg (by rw [hp]; decide)).trans ?_)
    exact (if_pos ⟨hpin, hp⟩).trans (if_pos ⟨hm, hb⟩)
  · refine ⟨_, congrArg Host.Outcome.next ((if_neg (by rw [hp]; decide)).trans ((if_pos ⟨hpin, hp⟩).trans (if_neg ?_))), ?_, ?_⟩
    · rintro ⟨hm, hb⟩
      exact h.elim (fun g => g hm) fun g => Bool.false_ne_true (g.symm.trans hb)
    · exact (rd_event _ _ _ _ (by decide) (by decide)).trans (rd_wr_same ..)
    · exact (v_event ..).trans ((v_wr ..).trans (v_setV_same ..))

end Sys2Proof.Proofs
end

section
/-!
PROOF. The two slots of an entry: a write that ends is the newest, and the one before it stands (R454, R455).
-/

namespace Sys2Proof.Machine.State

/-- The slot write that is the newest of an entry stands where it is said to. -/
theorem newestSlot_stands {s : State} {d k : Nat} {x : Slot} (h : s.newestSlot d = some (k, x)) : (k = 0 ∨ k = 1) ∧ kvFind (2 * d + k) s.slots = some x := by
  unfold newestSlot at h
  cases ha : kvFind (2 * d) s.slots <;> cases hb : kvFind (2 * d + 1) s.slots <;> rw [ha, hb] at h
  case none.none => simp at h
  case none.some b =>
    obtain ⟨rfl, rfl⟩ := Prod.mk.inj (Option.some.inj h)
    exact ⟨.inr rfl, hb⟩
  case some.none a =>
    obtain ⟨rfl, rfl⟩ := Prod.mk.inj (Option.some.inj h)
    exact ⟨.inl rfl, ha⟩
  case some.some a b =>
    dsimp only at h
    split at h <;> obtain ⟨rfl, rfl⟩ := Prod.mk.inj (Option.some.inj h)
    · exact ⟨.inr rfl, hb⟩
    · exact ⟨.inl rfl, ha⟩

/-- Where no slot holds a write, there is no newest; and nowhere else. -/
theorem newestSlot_none {s : State} {d : Nat} (h : s.newestSlot d = none) : kvFind (2 * d) s.slots = none ∧ kvFind (2 * d + 1) s.slots = none := by
  unfold newestSlot at h
  cases ha : kvFind (2 * d) s.slots <;> cases hb : kvFind (2 * d + 1) s.slots <;> rw [ha, hb] at h <;> dsimp only at h
  · exact ⟨rfl, rfl⟩
  all_goals (try split at h) <;> exact absurd h (by simp)

theorem newestSlot_both {s : State} {d : Nat} {a b : Slot} (ha : kvFind (2 * d) s.slots = some a) (hb : kvFind (2 * d + 1) s.slots = some b) :
    s.newestSlot d = if serialAhead b.seq a.seq then some (1, b) else some (0, a) := by
  unfold newestSlot
  rw [ha, hb]

theorem newestSlot_first {s : State} {d : Nat} {a : Slot} (ha : kvFind (2 * d) s.slots = some a) (hb : kvFind (2 * d + 1) s.slots = none) : s.newestSlot d = some (0, a) := by
  unfold newestSlot
  rw [ha, hb]

theorem newestSlot_second {s : State} {d : Nat} {b : Slot} (ha : kvFind (2 * d) s.slots = none) (hb : kvFind (2 * d + 1) s.slots = some b) : s.newestSlot d = some (1, b) := by
  unfold newestSlot
  rw [ha, hb]

/-- The next write goes where the newest does not stand (R454). -/
theorem targetSlot_none {s : State} {d : Nat} (h : s.newestSlot d = none) : s.targetSlot d = 0 := by
  unfold targetSlot
  rw [h]

theorem targetSlot_first {s : State} {d : Nat} {x : Slot} (h : s.newestSlot d = some (0, x)) : s.targetSlot d = 1 := by
  unfold targetSlot
  rw [h]
  rfl

theorem targetSlot_second {s : State} {d : Nat} {x : Slot} (h : s.newestSlot d = some (1, x)) : s.targetSlot d = 0 := by
  unfold targetSlot
  rw [h]
  rfl

/-- The SEQ after a SEQ of 32 bits: one more, or 1 after the last (R454). -/
def seqAfter (q : Nat) : Nat := if q ≥ 0xFFFFFFFF then 1 else q + 1

/-- The SEQ after is ahead in serial order, and not behind (R455). -/
theorem serialAhead_seqAfter {q : Nat} (h : q < 2 ^ 32) : serialAhead (seqAfter q) q = true ∧ serialAhead q (seqAfter q) = false := by
  unfold serialAhead seqAfter
  simp only [Bool.and_eq_true, bne_iff_ne, decide_eq_true_eq, Bool.and_eq_false_iff, decide_eq_false_iff_not]
  split <;> omega

/-- Starting a write drops what its target slot held, and leaves the other slot and what is the newest (R454). -/
theorem newestSlot_startSlotWrite (s : State) (w : SlotWrite) : (s.startSlotWrite w).newestSlot w.dir = s.newestSlot w.dir := by
  cases hn : s.newestSlot w.dir with
  | none =>
    obtain ⟨h0, h1⟩ := newestSlot_none hn
    have ht := targetSlot_none hn
    have e1 : kvFind (2 * w.dir + 1) (s.startSlotWrite w).slots = none := by
      rw [startSlotWrite, ht, kvFind_kvErase_ne (by omega), h1]
    have e0 : kvFind (2 * w.dir) (s.startSlotWrite w).slots = none := by
      rw [startSlotWrite, ht]
      exact kvFind_kvErase_same ..
    unfold newestSlot
    rw [e0, e1]
  | some x =>
    obtain ⟨k, b⟩ := x
    obtain ⟨rfl | rfl, hk⟩ := newestSlot_stands hn
    · have ht := targetSlot_first hn
      refine newestSlot_first ?_ ?_ <;> rw [startSlotWrite, ht]
      · exact (kvFind_kvErase_ne (by omega) _).trans hk
      · exact kvFind_kvErase_same ..
    · have ht := targetSlot_second hn
      refine newestSlot_second ?_ ?_ <;> rw [startSlotWrite, ht]
      · exact kvFind_kvErase_same ..
      · exact (kvFind_kvErase_ne (by omega) _).trans hk

end Sys2Proof.Machine.State

namespace Sys2Proof.Proofs

open Machine Machine.State

/-- Settles O35: the write goes to the slot that does not hold the newest, with a SEQ that is ahead of it. -/
theorem slotWriteKeepsTwo : Obligations.SlotWriteKeepsTwo := by
  intro w s hseq u
  have hstart := newestSlot_startSlotWrite s w
  have htarget : (s.startSlotWrite w).targetSlot w.dir = s.targetSlot w.dir := by rw [targetSlot, hstart, targetSlot]
  have hnext : (s.startSlotWrite w).nextSlotSeq w.dir = s.nextSlotSeq w.dir := by rw [nextSlotSeq, hstart, nextSlotSeq]
  have hslots : u.slots = kvPut (2 * w.dir + s.targetSlot w.dir) ⟨s.nextSlotSeq w.dir, w.body⟩ (s.startSlotWrite w).slots := by
    rw [← htarget, ← hnext]
    rfl
  have hnew : kvFind (2 * w.dir + s.targetSlot w.dir) u.slots = some ⟨s.nextSlotSeq w.dir, w.body⟩ := by rw [hslots, kvFind_kvPut_same]
  have hother : ∀ k, s.targetSlot w.dir ≠ k → kvFind (2 * w.dir + k) u.slots = kvFind (2 * w.dir + k) s.slots := fun k hk => by
    rw [hslots, kvFind_kvPut_ne _ (by omega), startSlotWrite, kvFind_kvErase_ne (by omega)]
  cases hn : s.newestSlot w.dir with
  | none =>
    obtain ⟨-, h1⟩ := newestSlot_none hn
    have ht := targetSlot_none hn
    rw [ht] at hnew hother ⊢
    exact ⟨newestSlot_first hnew ((hother 1 (by decide)).trans h1), fun x h => absurd h (by simp)⟩
  | some x =>
    obtain ⟨k, b⟩ := x
    have hq : s.nextSlotSeq w.dir = seqAfter b.seq := by rw [nextSlotSeq, hn]; rfl
    obtain ⟨ahead, behind⟩ := serialAhead_seqAfter (hseq _ hn)
    rw [hq] at hnew ⊢
    obtain ⟨rfl | rfl, hk⟩ := newestSlot_stands hn
    · have ht := targetSlot_first hn
      rw [ht] at hnew hother ⊢
      have hold := (hother 0 (by decide)).trans hk
      refine ⟨(newestSlot_both hold hnew).trans (if_pos ahead), fun y hy => ?_⟩
      obtain rfl := Option.some.inj hy
      exact ⟨Nat.zero_ne_one, hold⟩
    · have ht := targetSlot_second hn
      rw [ht] at hnew hother ⊢
      have hold := (hother 1 (by decide)).trans hk
      refine ⟨(newestSlot_both hnew hold).trans (if_neg (by rw [behind]; exact Bool.false_ne_true)), fun y hy => ?_⟩
      obtain rfl := Option.some.inj hy
      exact ⟨Nat.one_ne_zero, hold⟩

end Sys2Proof.Proofs
end

section
/-!
PROOF. The recorder: what an event and its record leave in the counters, and the balance of them (R461 to R465); brown-out and the slot writes (R454 to R458).
-/

namespace Sys2Proof.Machine.State

/-! ### Losses and events -/

theorem rd_loseEvent_lost (s : State) : s.loseEvent.rd Reg.EVR_STAT_LOST = min (s.rd Reg.EVR_STAT_LOST + 1) (2 ^ Reg.EVR_STAT_LOST.width - 1) :=
  (rd_of_regs rfl ..).trans ((rd_wr_ne _ _ (by decide) (by decide) (by decide)).trans (rd_bump_same ..))

theorem rd_loseEvent_lostt (s : State) : s.loseEvent.rd Reg.EVR_BOOK_LOSTT = (s.rd Reg.EVR_BOOK_LOSTT + 1) % 2 ^ Reg.EVR_BOOK_LOSTT.width :=
  (rd_of_regs rfl ..).trans (rd_wr_same ..)

/-- The event counts as raised. -/
def raisedOne (s : State) : State := s.wr Reg.EVR_BOOK_RAISED 0 (s.rd Reg.EVR_BOOK_RAISED + 1)

theorem event_full {s : State} (h : 64 ≤ s.events.length) (code sev : Nat) (d : List Byte) : s.event code sev d = s.raisedOne.loseEvent := if_neg (Nat.not_lt.2 h)

theorem event_joins {s : State} (h : s.events.length < 64) (code sev : Nat) (d : List Byte) : s.event code sev d =
    { s.raisedOne with events := s.events ++ [⟨code, sev, s.now / 400, s.boot.bootn, s.raisedOne.mode, (d ++ List.replicate 12 0).take 12⟩] } := if_pos h

theorem rd_raisedOne_raised (s : State) : s.raisedOne.rd Reg.EVR_BOOK_RAISED = (s.rd Reg.EVR_BOOK_RAISED + 1) % 2 ^ 32 := rd_wr_same ..

theorem rd_raisedOne (s : State) {f : Fld} {i : Nat} (h : f.base ≠ Reg.EVR_BOOK_RAISED.base) (hi : i < 256) : s.raisedOne.rd f i = s.rd f i := rd_wr_ne _ _ (Ne.symm h) (by decide) hi

theorem rd_event_raised (s : State) (code sev : Nat) (d : List Byte) : (s.event code sev d).rd Reg.EVR_BOOK_RAISED = (s.rd Reg.EVR_BOOK_RAISED + 1) % 2 ^ 32 := by
  rcases Nat.lt_or_ge s.events.length 64 with h | h
  · rw [event_joins h]
    exact s.rd_raisedOne_raised
  · rw [event_full h, rd_loseEvent _ (by decide) (by decide) (by decide)]
    exact s.rd_raisedOne_raised

/-- The DATA of a record is what the event carries, filled up to twelve bytes. -/
theorem take_data {d : List Byte} (h : d.length ≤ 12) : (d ++ List.replicate 12 0).take 12 = d ++ List.replicate (12 - d.length) 0 := by
  rw [List.take_append, List.take_of_length_le h, List.take_replicate]
  congr 2
  omega

/-! ### Records -/

/-- The record that an event becomes (R459, R460). -/
def eventRecord (s : State) (e : Event) (supp : Nat) : Record :=
  ⟨if s.recSeq ≥ recSeqMax then 1 else s.recSeq + 1, e.time, e.bootn, e.code, e.sev, e.mode, min supp 255, s.recLost, e.data, s.on Reg.EVR_STAT_RUN⟩

/-- A record counts as written, and as overwriting one. -/
def writtenOne (s : State) (ov : Bool) : State :=
  let u := s.wr Reg.EVR_BOOK_WRITTEN 0 (s.rd Reg.EVR_BOOK_WRITTEN + 1)
  if ov then u.bump Reg.EVR_STAT_OVW 0 else u

theorem rd_writtenOne_written (s : State) (ov : Bool) : (s.writtenOne ov).rd Reg.EVR_BOOK_WRITTEN = (s.rd Reg.EVR_BOOK_WRITTEN + 1) % 2 ^ 32 := by
  cases ov
  · exact rd_wr_same ..
  · exact (rd_wr_ne _ _ (by decide) (by decide) (by decide)).trans (rd_wr_same ..)

theorem rd_writtenOne (s : State) (ov : Bool) {f : Fld} (h1 : f.base ≠ Reg.EVR_BOOK_WRITTEN.base) (h2 : f.base ≠ Reg.EVR_STAT_OVW.base) : (s.writtenOne ov).rd f = s.rd f := by
  cases ov
  · exact rd_wr_ne _ _ (Ne.symm h1) (by decide) (by decide)
  · exact (rd_wr_ne _ _ (Ne.symm h2) (by decide) (by decide)).trans (rd_wr_ne _ _ (Ne.symm h1) (by decide) (by decide))

theorem writtenOne_ring (s : State) (ov : Bool) : (s.writtenOne ov).ring = s.ring := by cases ov <;> rfl
theorem writtenOne_events (s : State) (ov : Bool) : (s.writtenOne ov).events = s.events := by cases ov <;> rfl

/-- The record stands in its slot. -/
def inSlot (s : State) (n : Nat) (r : Record) : State := { s with ring := kvPut n r s.ring, recSeq := r.seq, recLost := 0 }

/-- All that writing a record can do: the record stands in its slot, and FULLF may be set (R459, R460, R462). -/
theorem putRecord_cases (s : State) (e : Event) (t : Nat × Bool) (supp : Nat) : s.putRecord e t supp = (s.writtenOne t.2).inSlot t.1 (s.eventRecord e supp) ∨
    s.putRecord e t supp = ((s.writtenOne t.2).inSlot t.1 (s.eventRecord e supp)).wr Reg.EVR_STAT_FULLF 0 1 := by
  have h : s.putRecord e t supp = (fun u : State => if u.on Reg.EVR_STAT_RUN ∧ u.ring.length = 4096 ∧ u.ring.all (fun x => x.2.inRun) then u.wr Reg.EVR_STAT_FULLF 0 1 else u)
      ((s.writtenOne t.2).inSlot t.1 (s.eventRecord e supp)) := rfl
  rw [h]
  dsimp only
  split
  · exact .inr rfl
  · exact .inl rfl

theorem putRecord_ring (s : State) (e : Event) (t : Nat × Bool) (supp : Nat) : (s.putRecord e t supp).ring = kvPut t.1 (s.eventRecord e supp) s.ring := by
  rcases putRecord_cases s e t supp with h | h <;> rw [h] <;> exact congrArg (kvPut t.1 (s.eventRecord e supp)) (s.writtenOne_ring t.2)

theorem putRecord_recLost (s : State) (e : Event) (t : Nat × Bool) (supp : Nat) : (s.putRecord e t supp).recLost = 0 := by
  rcases putRecord_cases s e t supp with h | h <;> rw [h] <;> rfl

theorem putRecord_events (s : State) (e : Event) (t : Nat × Bool) (supp : Nat) : (s.putRecord e t supp).events = s.events := by
  rcases putRecord_cases s e t supp with h | h <;> rw [h] <;> exact s.writtenOne_events t.2

theorem rd_putRecord (s : State) (e : Event) (t : Nat × Bool) (supp : Nat) {f : Fld} (h : f.base ≠ Reg.EVR_STAT_FULLF.base) : (s.putRecord e t supp).rd f = (s.writtenOne t.2).rd f := by
  rcases putRecord_cases s e t supp with g | g <;> rw [g]
  · exact rd_of_regs rfl ..
  · exact (rd_wr_ne _ _ (Ne.symm h) (by decide) (by decide)).trans (rd_of_regs rfl ..)

/-! ### The balance -/

/-- Every event raised is written, suppressed, lost, or queued (R465). -/
def Balanced (s : State) : Prop :=
  s.rd Reg.EVR_BOOK_RAISED = (s.rd Reg.EVR_BOOK_WRITTEN + s.rd Reg.EVR_BOOK_SUPPR + s.rd Reg.EVR_BOOK_LOSTT + s.events.length) % 2 ^ 32

theorem rd_event_lostt {s : State} (h : s.events.length < 64) (code sev : Nat) (d : List Byte) : (s.event code sev d).rd Reg.EVR_BOOK_LOSTT = s.rd Reg.EVR_BOOK_LOSTT := by
  rw [event_joins h]
  exact (rd_of_regs rfl ..).trans (s.rd_raisedOne (by decide) (by decide))

theorem balanced_event {s : State} (h : s.Balanced) (code sev : Nat) (d : List Byte) : (s.event code sev d).Balanced := by
  unfold Balanced at h ⊢
  rw [rd_event_raised]
  rcases Nat.lt_or_ge s.events.length 64 with hl | hl
  · have hlen : (s.event code sev d).events.length = s.events.length + 1 := by
      rw [event_joins hl]
      exact List.length_append
    rw [rd_event _ _ _ _ (by decide) (by decide), rd_event _ _ _ _ (by decide) (by decide), hlen, rd_event_lostt hl]
    omega
  · have hlen : (s.event code sev d).events.length = s.events.length := by
      rw [event_full hl]
      rfl
    have hlost : (s.event code sev d).rd Reg.EVR_BOOK_LOSTT = (s.rd Reg.EVR_BOOK_LOSTT + 1) % 2 ^ 32 := by
      rw [event_full hl, rd_loseEvent_lostt, rd_raisedOne _ (by decide) (by decide)]
      rfl
    rw [rd_event _ _ _ _ (by decide) (by decide), rd_event _ _ _ _ (by decide) (by decide), hlen, hlost]
    omega

/-- The oldest event leaves the queue and counts once (R462 to R465). -/
theorem balanced_writeEvent {s : State} (h : s.Balanced) : s.writeEvent.Balanced := by
  unfold Balanced at h
  unfold writeEvent
  cases he : s.events with
  | nil => exact h
  | cons e rest =>
    rw [he, List.length_cons] at h
    dsimp only
    generalize hu : ({ s with events := rest } : State) = u
    have hr : ∀ f, u.rd f = s.rd f := fun f => rd_of_regs (by rw [← hu]) ..
    have hq : u.events = rest := by rw [← hu]
    split
    · show State.Balanced _
      unfold Balanced
      rw [rd_wr_same, rd_wr_ne _ _ (by decide) (by decide) (by decide), rd_wr_ne _ _ (by decide) (by decide) (by decide), rd_wr_ne _ _ (by decide) (by decide) (by decide)]
      show u.rd Reg.EVR_BOOK_RAISED = (u.rd Reg.EVR_BOOK_WRITTEN + (u.rd Reg.EVR_BOOK_SUPPR + 1) % 2 ^ 32 + u.rd Reg.EVR_BOOK_LOSTT + u.events.length) % 2 ^ 32
      rw [hr, hr, hr, hr, hq]
      omega
    · split
      · unfold Balanced
        rw [rd_loseEvent_lostt, rd_loseEvent _ (by decide) (by decide) (by decide), rd_loseEvent _ (by decide) (by decide) (by decide), rd_loseEvent _ (by decide) (by decide) (by decide)]
        show u.rd Reg.EVR_BOOK_RAISED = (u.rd Reg.EVR_BOOK_WRITTEN + u.rd Reg.EVR_BOOK_SUPPR + (u.rd Reg.EVR_BOOK_LOSTT + 1) % 2 ^ 32 + u.events.length) % 2 ^ 32
        rw [hr, hr, hr, hr, hq]
        omega
      · rename_i t _
        generalize (u.bucket e.code).supp = n
        show (u.putRecord e t n).rd Reg.EVR_BOOK_RAISED = ((u.putRecord e t n).rd Reg.EVR_BOOK_WRITTEN + (u.putRecord e t n).rd Reg.EVR_BOOK_SUPPR + (u.putRecord e t n).rd Reg.EVR_BOOK_LOSTT +
          (u.putRecord e t n).events.length) % 2 ^ 32
        rw [rd_putRecord _ _ _ _ (by decide), rd_putRecord _ _ _ _ (by decide), rd_putRecord _ _ _ _ (by decide), rd_putRecord _ _ _ _ (by decide), putRecord_events, rd_writtenOne_written,
          rd_writtenOne _ _ (by decide) (by decide), rd_writtenOne _ _ (by decide) (by decide), rd_writtenOne _ _ (by decide) (by decide), hr, hr, hr, hr, hq]
        omega

/-! ### Brown-out, slot writes and refills -/

theorem exec_brownoutWarning {s : State} (hp : s.power = .running) : exec .brownoutWarning s = .next s.brownWarning.after := act_after (f := State.brownWarning) hp
theorem exec_brownoutRelease {s : State} (hp : s.power = .running) : exec .brownoutRelease s = .next s.brownRelease.after := act_after (f := State.brownRelease) hp
theorem exec_slotWriteDone {s : State} (hp : s.power = .running) : exec .slotWriteDone s = .next s.slotDone.after := act_after (f := State.slotDone) hp
theorem exec_eventRecordWrite {s : State} (hp : s.power = .running) : exec .eventRecordWrite s = .next s.recordWrite.after := act_after (f := State.recordWrite) hp
theorem exec_bucketRefill {s : State} (hp : s.power = .running) (c : BitVec 16) : exec (.bucketRefill c) s = .next (s.refill c.toNat).after := act_after (f := fun u => u.refill c.toNat) hp

/-- The flags and the count that the warning leaves in a state (R457). -/
def underWarning (s : State) : State := ((s.wr Reg.NVS_STAT_BOWARN 0 1).wr Reg.NVS_STAT_BOF 0 1).bump Reg.NVS_STAT_BOCNT 0

/-- Without an update under way, the warning changes only flags and counts of its own among the fields that the recorder does not count in (R457). -/
theorem rd_brownWarning {s : State} (h : s.update = none) {f : Fld} {i : Nat} (hf : f.base ∉ evrBases) (hi : i < 256) : s.brownWarning.rd f i = s.underWarning.rd f i := by
  have hu : ∀ t : State, t.update = none → t.abortUpdate 0x01 = t := fun t ht => by unfold abortUpdate; rw [ht]
  have hirq : (s.underWarning.irq 112).update = none := by
    obtain ⟨u, e⟩ := s.underWarning.irq_eq 112
    rw [e]
    exact h
  have hx : s.brownWarning = (fun u : State => if u.on Reg.GAU_STATE_ACTIVE && u.acRuns then
      kickNvs { u.setV .tFinal 0 (u.now + 40000 + 1) with nvsq := SlotWrite.mk 75 u.gaugeBody :: u.nvsq.filter (fun w => w.dir != 75) } else u)
      (((s.underWarning.irq 112).abortUpdate 0x01).event 0x9001 2 []) := rfl
  have hrd : ((s.underWarning.irq 112).event 0x9001 2 []).rd f i = s.underWarning.rd f i := (rd_event _ _ _ _ hf hi).trans (rd_irq ..)
  rw [hx, hu _ hirq, ← hrd]
  generalize (s.underWarning.irq 112).event 0x9001 2 [] = u
  dsimp only
  split
  · exact (rd_kickNvs ..).trans (rd_of_regs rfl ..)
  · rfl

theorem rd_underWarning (s : State) : s.underWarning.rd Reg.NVS_STAT_BOWARN = 1 ∧ s.underWarning.rd Reg.NVS_STAT_BOF = 1 ∧
    s.underWarning.rd Reg.NVS_STAT_BOCNT = min (s.rd Reg.NVS_STAT_BOCNT + 1) (2 ^ Reg.NVS_STAT_BOCNT.width - 1) := by
  unfold underWarning
  refine ⟨?_, ?_, ?_⟩
  · exact (rd_wr_ne _ _ (by decide) (by decide) (by decide)).trans ((rd_wr_ne _ _ (by decide) (by decide) (by decide)).trans (rd_wr_same ..))
  · exact (rd_wr_ne _ _ (by decide) (by decide) (by decide)).trans (rd_wr_same ..)
  · rw [rd_bump_same, rd_wr_ne _ _ (by decide) (by decide) (by decide), rd_wr_ne _ _ (by decide) (by decide) (by decide)]

theorem brownRelease_clears {s : State} (h : s.on Reg.NVS_STAT_BOWARN = true) : s.brownRelease.rd Reg.NVS_STAT_BOWARN = 0 ∧ s.brownRelease.rd Reg.NVS_STAT_INHIBIT = 0 := by
  unfold brownRelease
  rw [if_pos h, rd_kickNvs, rd_kickNvs, rd_event _ _ _ _ (by decide) (by decide), rd_event _ _ _ _ (by decide) (by decide)]
  exact ⟨(rd_wr_ne _ _ (by decide) (by decide) (by decide)).trans ((rd_wr_same ..).trans (Nat.zero_mod _)), (rd_wr_same ..).trans (Nat.zero_mod _)⟩

/-- The bucket of a code carries that code (R464). -/
theorem bucket_code (s : State) (c : Nat) : (s.bucket c).code = c := by
  unfold bucket
  cases h : s.buckets.find? (fun b => b.code == c) with
  | none => rfl
  | some b => exact beq_iff_eq.1 (List.find?_some (p := fun b : Bucket => b.code == c) h)

/-- A bucket set is the one found. -/
theorem bucket_setBucket_same (s : State) {b : Bucket} {c : Nat} (h : b.code = c) : (s.setBucket b).bucket c = b := by
  have hnone : (s.buckets.filter (fun x => x.code != b.code)).find? (fun x => x.code == c) = none := by
    refine List.find?_eq_none.2 fun x hx => ?_
    have hne := (List.mem_filter.1 hx).2
    rw [h] at hne
    simpa using hne
  unfold bucket setBucket
  rw [List.find?_append, hnone, List.find?_cons_of_pos (by simp [h])]
  rfl

/-- The bucket of a code is read from the buckets and the policy of the whole (R464). -/
theorem bucket_of {s t : State} (hb : s.buckets = t.buckets) (hr : s.rd Reg.EVR_POL_BURST = t.rd Reg.EVR_POL_BURST) (c : Nat) : s.bucket c = t.bucket c := by
  unfold bucket
  rw [hb, hr]

@[simp] theorem after_buckets (s : State) : s.after.buckets = s.buckets := by rcases s.after_cases with h | h <;> simp [h]

theorem after_bucket (s : State) (c : Nat) : s.after.bucket c = s.bucket c := bucket_of s.after_buckets (after_rd _ (by decide) (by decide) (by decide)) c

/-- A refill adds a token, up to the depth (R464). -/
theorem refill_tokens (s : State) (c : Nat) : ((s.refill c).bucket c).tokens = min ((s.bucket c).tokens + 1) (s.bucketPair (s.bucket c)).2 := by
  unfold refill
  dsimp only
  refine (congrArg Bucket.tokens (bucket_setBucket_same _ ?_)).trans ?_
  · exact s.bucket_code c
  · split <;> rfl

theorem recordWrite_writes {s : State} (hac : s.acRuns = true) (hw : s.on Reg.NVS_STAT_BOWARN = false) (hi : s.on Reg.NVS_STAT_INHIBIT = false) (hr : s.nvsRun = none) (hq : s.nvsq = []) :
    s.recordWrite = s.writeEvent := by
  unfold recordWrite
  rw [hac, hw, hi, hr, hq]
  rfl

theorem recordWrite_waits {s : State} (hq : s.nvsq ≠ []) : s.recordWrite = s := by
  have h : s.nvsq.isEmpty = false := List.isEmpty_eq_false_iff.2 hq
  unfold recordWrite
  rw [h, Bool.and_false]
  rfl

end Sys2Proof.Machine.State

namespace Sys2Proof.Proofs

open Machine Machine.State

/-- Settles O37: each path of an event counts it once, in the width of its counter. -/
theorem lostEventsCount : Obligations.LostEventsCount := by
  intro s
  refine ⟨s.rd_loseEvent_lost, s.rd_loseEvent_lostt, rfl, fun code sev d h => event_full h code sev d, fun e x n => ?_, fun h => ⟨balanced_event h, balanced_writeEvent h⟩⟩
  exact ⟨s.eventRecord e n, by rw [putRecord_ring, kvFind_kvPut_same], rfl, rfl, rfl, putRecord_recLost ..⟩

/-- Settles O36; that the release clears INHIBIT with BOWARN is the model's choice (log entry 56). -/
theorem storeRowsAct : Obligations.StoreRowsAct := by
  refine ⟨fun s hp => ⟨fun hu => ?_, ?_, fun hw => ?_, fun hw => ?_⟩, fun s hp => ⟨fun w hw => ?_, fun hn => ?_, fun hac hw hi hr hq => ?_, fun hq => ?_, fun code => ?_⟩,
    fun code sev d s hd => ⟨fun h => ?_, fun h => ⟨?_, ?_⟩, rd_event_raised ..⟩⟩
  · obtain ⟨hwarn, hof, hcount⟩ := s.rd_underWarning
    have hrd : ∀ f : Fld, f.base ≠ Reg.CAP_RATECHG.base → f.base ≠ Reg.ICU_CORE_WAKEREQ.base → f.base ∉ evrBases → s.brownWarning.after.rd f = s.underWarning.rd f := fun f h1 h2 h3 =>
      (after_rd _ h1 h2 (by decide)).trans (rd_brownWarning hu h3 (by decide))
    exact ⟨_, exec_brownoutWarning hp, (hrd _ (by decide) (by decide) (by decide)).trans hwarn, (hrd _ (by decide) (by decide) (by decide)).trans hof,
      (hrd _ (by decide) (by decide) (by decide)).trans hcount⟩
  · exact act_after (f := fun u => u.wr Reg.NVS_STAT_INHIBIT 0 1) hp
  · rw [exec_brownoutRelease hp, brownRelease, if_neg (by rw [hw]; exact Bool.false_ne_true)]
  · obtain ⟨hwarn, hinh⟩ := brownRelease_clears hw
    exact ⟨_, exec_brownoutRelease hp, (after_rd _ (by decide) (by decide) (by decide)).trans hwarn, (after_rd _ (by decide) (by decide) (by decide)).trans hinh⟩
  · rw [exec_slotWriteDone hp, slotDone, hw]
  · rw [exec_slotWriteDone hp, slotDone, hn]
  · rw [exec_eventRecordWrite hp, recordWrite_writes hac hw hi hr hq]
  · rw [exec_eventRecordWrite hp, recordWrite_waits hq]
  · exact ⟨_, exec_bucketRefill hp code, (congrArg Bucket.tokens (after_bucket ..)).trans (refill_tokens ..)⟩
  · rw [event_joins h, take_data hd, show s.raisedOne.mode = s.mode from s.rd_raisedOne (by decide) (by decide)]
  · rw [event_full h]
    rfl
  · rw [event_full h, rd_loseEvent_lostt, rd_raisedOne _ (by decide) (by decide)]

end Sys2Proof.Proofs
end

section
/-!
PROOF. The reads and the plain writes of the host ports (R356 to R360, R408 to R411).
-/

namespace Sys2Proof.Machine.State

/-! ### Reads -/

/-- A read past the end of the bytes (R356). -/
theorem readOut_past {bs : List Byte} {n : Nat} (h : bs.length ≤ n) : readOut bs n = bs ++ List.replicate (n - bs.length) 0xFF#8 := by
  unfold readOut
  rw [List.take_append, List.take_of_length_le h, List.take_replicate]
  congr 2
  omega

/-- A read that ends before the last byte. -/
theorem readOut_short {bs : List Byte} {n : Nat} (h : n ≤ bs.length) : readOut bs n = bs.take n := List.take_append_of_le_length h

theorem readOut_nil (n : Nat) : readOut [] n = List.replicate n 0xFF#8 := by rw [readOut_past (Nat.zero_le n)]; rfl

/-- The source that tells that a port's reply was released (R435). -/
def replySrc : Port → Nat
  | .twa => 82
  | .twb => 83
  | .hsp => 89

/-- A read of the oldest reply where there is none (R357). -/
theorem readReply_none {s : State} {p : Port} (h : (s.sess p).oldestReply = none) (n : Nat) (head : List Byte) :
    s.readReply p n head = { s with busOut := head ++ List.replicate n 0xFF#8 } := by
  have hb : s.replyBytes p = [] := by rw [replyBytes, h]; rfl
  unfold readReply
  dsimp only
  rw [hb, readOut_nil]
  exact if_neg fun g => g.1 rfl

/-- A read that does not reach the reply's last byte (R357). -/
theorem readReply_short {s : State} {p : Port} {r : Reply} {k : Bool} (h : (s.sess p).oldestReply = some (r, k)) {n : Nat} (hn : n < r.bytes.length) (head : List Byte) :
    s.readReply p n head = { s with busOut := head ++ r.bytes.take n } := by
  have hb : s.replyBytes p = r.bytes := by rw [replyBytes, h]; rfl
  unfold readReply
  dsimp only
  rw [hb, readOut_short hn.le]
  exact if_neg fun g => absurd g.2 (Nat.not_le.2 hn)

/-- A read that reaches the last byte releases the reply, with the port's source (R357). -/
theorem readReply_releases {s : State} {p : Port} {r : Reply} {k : Bool} (h : (s.sess p).oldestReply = some (r, k)) {n : Nat} (h0 : 0 < r.bytes.length) (hn : r.bytes.length ≤ n) (head : List Byte) :
    s.readReply p n head = (({ s with busOut := head ++ (r.bytes ++ List.replicate (n - r.bytes.length) 0xFF#8) } : State).updSess p Session.release).irq (replySrc p) := by
  have hb : s.replyBytes p = r.bytes := by rw [replyBytes, h]; rfl
  unfold readReply
  dsimp only
  rw [hb, readOut_past hn]
  exact if_pos ⟨List.ne_nil_of_length_pos h0, hn⟩

theorem twoWire_of_ne {p : Port} (h : p ≠ .hsp) : twoWire p = true := bne_iff_ne.2 h

/-- A two-wire port that is BUSY turns a read away (R408). -/
theorem twRead_busy {s : State} {p : Port} (h : p ≠ .hsp) (hb : s.portBusy p = true) (n : Nat) : s.twRead p n = s.bump Reg.TWI_PSTAT_NACKCNT p.idx := by
  unfold twRead
  rw [if_neg (not_not.2 (twoWire_of_ne h)), if_pos hb]
  cases p
  case hsp => exact absurd rfl h
  all_goals rfl

/-- A read of a two-wire port that is not BUSY is served from the stored pointer (R408, R409). -/
theorem twRead_served {s : State} {p : Port} (h : p ≠ .hsp) (hb : s.portBusy p = false) (n : Nat) : s.twRead p n = match s.rd Reg.TWI_PSTAT_PTR p.idx with
    | 0xF0 => s.readReply p n []
    | 0xF1 => { s with busOut := readOut (s.summary p) n }
    | 0xF3 => { s with busOut := readOut (s.sess p).released n }
    | _ => { s with busOut := readOut [] n } := by
  unfold twRead
  exact (if_neg (not_not.2 (twoWire_of_ne h))).trans (if_neg (by rw [hb]; exact Bool.false_ne_true))

/-! ### Writes -/

theorem portBusy_false {s : State} {p : Port} (h : s.portBusy p = false) : ¬ s.portBusy p = true := by rw [h]; exact Bool.false_ne_true

/-- A pointer alone: stored if it is one of the four, unless the port is BUSY (R408, R409). -/
theorem pointerWrite_alone {s : State} {p : Port} (h : p ≠ .hsp) (hb : s.portBusy p = false) (ptr : Nat) :
    s.pointerWrite p ptr [] = if ptr ∈ [0x00, 0xF0, 0xF1, 0xF3] then s.wr Reg.TWI_PSTAT_PTR p.idx ptr else s := by
  unfold pointerWrite
  rw [if_neg (not_not.2 (twoWire_of_ne h)), if_neg (by simp), if_neg (portBusy_false hb)]
  exact if_congr List.contains_iff_mem rfl rfl

theorem pointerWrite_busy {s : State} {p : Port} (h : p ≠ .hsp) (hb : s.portBusy p = true) (ptr : Nat) : s.pointerWrite p ptr [] = s.bump Reg.TWI_PSTAT_NACKCNT p.idx := by
  unfold pointerWrite
  rw [if_neg (not_not.2 (twoWire_of_ne h)), if_neg (by simp), if_pos hb]
  cases p
  case hsp => exact absurd rfl h
  all_goals rfl

/-- Bytes behind the pointer 0 are a packet (R356). -/
theorem pointerWrite_packet (s : State) {p : Port} (h : p ≠ .hsp) {bs : List Byte} (hbs : bs ≠ []) : s.pointerWrite p 0 bs = s.deliver p bs := by
  unfold pointerWrite
  rw [if_neg (not_not.2 (twoWire_of_ne h))]
  exact if_pos ⟨rfl, by simpa using hbs⟩

/-- A packet of the wrong length is discarded and counted (R356, R409). -/
theorem deliver_wrongLength {s : State} {p : Port} (h : p ≠ .hsp) (hb : s.portBusy p = false) {bs : List Byte} (hl : bs.length < 10 ∨ 258 < bs.length) :
    s.deliver p bs = (s.wr Reg.TWI_PSTAT_PTR p.idx 0).crcCount p := by
  unfold deliver
  rw [if_neg (portBusy_false hb), if_neg h]
  exact if_pos (hl.imp id fun g => ⟨g, h⟩)

end Sys2Proof.Machine.State

namespace Sys2Proof.Proofs

open Machine Machine.State

/-- Settles O45: each read is served from what its port holds, and only the one that reaches a reply's last byte changes more than what is driven out. -/
theorem portReadsAct : Obligations.PortReadsAct := by
  refine ⟨fun p n s hp h => ⟨fun hb row hrow => ?_, fun hb hptr => ⟨fun hr => ?_, fun r k hr hn => ?_, fun r k hr h0 hn => ?_⟩, fun hb hptr => ?_, fun hb hptr => ?_⟩,
    fun n s hp => ⟨fun r k hr h0 hn => ?_, fun hr => ?_, ?_, ?_⟩⟩
  · have hx : exec row s = .next (s.twRead p n).after := by
      simp only [List.mem_cons, List.not_mem_nil, or_false] at hrow
      rcases hrow with rfl | rfl | rfl
      all_goals exact act_after (f := fun u => u.twRead p n) hp
    rw [hx, twRead_busy h hb]
  · refine (act_after (f := fun u => u.twRead p n) hp).trans ?_
    rw [twRead_served h hb, hptr]
    exact congrArg (fun u => Host.Outcome.next u.after) (readReply_none hr n [])
  · refine (act_after (f := fun u => u.twRead p n) hp).trans ?_
    rw [twRead_served h hb, hptr]
    exact congrArg (fun u => Host.Outcome.next u.after) (readReply_short hr hn [])
  · refine (act_after (f := fun u => u.twRead p n) hp).trans ?_
    rw [twRead_served h hb, hptr]
    refine congrArg (fun u => Host.Outcome.next u.after) ((readReply_releases hr h0 hn []).trans ?_)
    cases p
    case hsp => exact absurd rfl h
    all_goals rfl
  · refine (act_after (f := fun u => u.twRead p n) hp).trans ?_
    rw [twRead_served h hb, hptr]
    rfl
  · refine (act_after (f := fun u => u.twRead p n) hp).trans ?_
    rw [twRead_served h hb, hptr]
    rfl
  · exact (act_after (f := fun u => u.readReply .hsp n u.hspHead) hp).trans (congrArg (fun u => Host.Outcome.next u.after) (readReply_releases hr h0 hn _))
  · exact (act_after (f := fun u => u.readReply .hsp n u.hspHead) hp).trans (congrArg (fun u => Host.Outcome.next u.after) (readReply_none hr n _))
  · exact act_after (f := fun u : State => { u with busOut := u.hspHead ++ State.readOut (u.summary .hsp) n }) hp
  · exact act_after (f := fun u : State => { u with busOut := u.hspHead ++ State.readOut (u.sess .hsp).released n }) hp

/-- Settles O46; that the record of an abandoned transaction carries the port's number is the model's choice (log entry 15). -/
theorem portWritesAct : Obligations.PortWritesAct := by
  intro p s hp h
  have htw := twoWire_of_ne h
  refine ⟨fun ptr hb => ?_, fun ptr hb => ?_, fun bs hb hl => ?_, ?_, fun hon => ?_, fun hoff => ?_⟩
  · exact (act_after (f := fun u => u.pointerWrite p ptr.toNat []) hp).trans (by rw [pointerWrite_alone h hb])
  · exact (act_after (f := fun u => u.pointerWrite p ptr.toNat []) hp).trans (by rw [pointerWrite_busy h hb])
  · have hbs : bs ≠ [] := by
      rintro rfl
      simp at hl
    refine (act_after (f := fun u => u.pointerWrite p 0 bs) hp).trans ?_
    rw [pointerWrite_packet s h hbs, deliver_wrongLength h hb (hl.imp And.right id)]
    rfl
  · exact (act_after (f := fun u => if State.twoWire p then u.abandon p Reg.TWI_PSTAT_PROTERR else u) hp).trans (by rw [if_pos htw]; rfl)
  · exact (act_after (f := fun u => if State.twoWire p && u.smbOn p then u.abandon p Reg.TWI_PSTAT_TOUT else u) hp).trans (by rw [htw, hon]; rfl)
  · exact (act_after (f := fun u => if State.twoWire p && u.smbOn p then u.abandon p Reg.TWI_PSTAT_TOUT else u) hp).trans (by rw [htw, hoff]; rfl)

end Sys2Proof.Proofs
end

section
/-!
PROOF. The timers of sessions and ownership (R363, R374 to R376).
-/

namespace Sys2Proof.Machine.State

/-- The claims that wait are all that the choice among them looks at (R374). -/
theorem bestClaim_of_claims {s t : State} (h : ∀ p, (s.sess p).claim = (t.sess p).claim) (ok : Claim → Bool) : s.bestClaim ok = t.bestClaim ok := by
  unfold bestClaim
  simp only [h]

/-- A cause for one port leaves every claim (R378). -/
theorem alertPort_claim (s : State) (p : Port) (b : Nat) (q : Port) : ((s.alertPort p b).sess q).claim = (s.sess q).claim := by
  unfold alertPort
  rcases eq_or_ne p q with rfl | h
  · rw [sess_updSess_same]
    split <;> rfl
  · rw [sess_updSess_ne _ _ h]

/-- What a cause for one port leaves alone. -/
theorem alertPort_regs (s : State) (p : Port) (b : Nat) : (s.alertPort p b).regs = s.regs := regs_setSess ..

/-- Who owns, who is granted, and which update runs. -/
def ownership (s : State) : Option Port × Option (Port × Cmd) × Option Update := (s.owner, s.granting, s.update)

theorem ownership_updSess (s : State) (p : Port) (f : Session → Session) : (s.updSess p f).ownership = s.ownership := by cases p <;> rfl

theorem ownership_event (s : State) (c sev : Nat) (d : List Byte) : (s.event c sev d).ownership = s.ownership := by
  unfold State.event
  dsimp only
  split <;> rfl

theorem ownership_setV (s : State) (x : Var) (i : Nat) (n : Int) : (s.setV x i n).ownership = s.ownership := rfl

theorem ownership_complete (s : State) (a b c d e : Nat) : (s.complete a b c d e).ownership = s.ownership := by
  unfold complete
  split
  · rfl
  · exact ownership_updSess ..

theorem ownership_endClaim (s : State) (p : Port) (a b : Nat) : (s.endClaim p a b).ownership = s.ownership := by
  unfold endClaim
  split
  · rfl
  · exact (ownership_complete ..).trans (ownership_updSess ..)

theorem endClaim_regs (s : State) (p : Port) (a b : Nat) : (s.endClaim p a b).regs = s.regs := by
  unfold endClaim
  split
  · rfl
  · exact (complete_regs ..).trans (regs_setSess ..)

theorem ownership_renewLease (s : State) : s.renewLease.ownership = s.ownership := by
  unfold renewLease
  split <;> exact ownership_setV ..

theorem renewLease_regs (s : State) : s.renewLease.regs = s.regs := by
  unfold renewLease
  split <;> exact setV_regs ..

theorem ownership_refreshOoe (s : State) : s.refreshOoe.ownership = s.ownership := by
  unfold refreshOoe
  split <;> rfl

/-- One rail's ENV and AUTO cleared, staged values included (R171). -/
def autoCleared (s : State) (r : Nat) : State :=
  let s := (s.wr Reg.LE_ENV r 0).wr Reg.LE_AUTO r 0
  { s with staged := kvErase (Reg.LE_ENV.key r) (kvErase (Reg.LE_AUTO.key r) s.staged) }

theorem clearAuto_eq (s : State) : s.clearAuto = ((List.range 4).foldl autoCleared s).refreshOoe := rfl

theorem ownership_lockExpert (s : State) : s.lockExpert.ownership = s.ownership := by
  rw [lockExpert, clearAuto_eq, ownership_refreshOoe]
  exact foldl_keeps (P := fun t : State => t.ownership = s.ownership) autoCleared (fun t r h => h) _ _ rfl

theorem rd_refreshOoe (s : State) {f : Fld} (h : f.base ≠ Reg.IDENT_STAT_OOE.base) : s.refreshOoe.rd f = s.rd f := by
  unfold refreshOoe
  split
  · exact rd_wr_ne _ _ (Ne.symm h) (by decide) (by decide)
  · rfl

/-- Clearing ENV and AUTO leaves every field at another place (R171). -/
theorem rd_clearAuto (s : State) {f : Fld} (h : f.base ∉ [Reg.LE_ENV.base, Reg.LE_AUTO.base, Reg.IDENT_STAT_OOE.base]) : s.clearAuto.rd f = s.rd f := by
  simp only [List.mem_cons, List.not_mem_nil, or_false, not_or] at h
  obtain ⟨henv, hauto, hooe⟩ := h
  have hone : ∀ (t : State) (r : Nat), r < 256 → (t.autoCleared r).rd f = t.rd f := fun t r hr =>
    (rd_of_regs (t := (t.wr Reg.LE_ENV r 0).wr Reg.LE_AUTO r 0) rfl ..).trans ((rd_wr_ne _ _ (Ne.symm hauto) hr (by decide)).trans (rd_wr_ne _ _ (Ne.symm henv) hr (by decide)))
  rw [clearAuto_eq, rd_refreshOoe _ hooe]
  show ((((s.autoCleared 0).autoCleared 1).autoCleared 2).autoCleared 3).rd f = s.rd f
  rw [hone _ _ (by decide), hone _ _ (by decide), hone _ _ (by decide), hone _ _ (by decide)]

/-- Locking clears XON and leaves every field at a place of none of ENV, AUTO, OOE and XON (R37). -/
theorem rd_lockExpert_xon (s : State) : s.lockExpert.rd Reg.EXPERT_CTL_XON = 0 := (rd_clearAuto _ (by decide)).trans ((rd_wr_same ..).trans (Nat.zero_mod _))

theorem rd_lockExpert (s : State) {f : Fld} (h : f.base ∉ [Reg.LE_ENV.base, Reg.LE_AUTO.base, Reg.IDENT_STAT_OOE.base]) (hx : f.base ≠ Reg.EXPERT_CTL_XON.base) : s.lockExpert.rd f = s.rd f :=
  (rd_clearAuto _ h).trans (rd_wr_ne _ _ (Ne.symm hx) (by decide) (by decide))

/-! ### Passing ownership -/

/-- The part as ownership leaves `old`, recorded and counted: alerted, its commands marked, expert writes locked (R37, R374, R376). -/
def ownerLeft (s : State) (p : Port) (new : Option Port) (means : Nat) : State :=
  let u : State := { s with owner := new, granting := none, draining := some p }
  ((((u.bump Reg.SYS_OWNER_OWNCHG 0).event 0x7003 0 (leBytes 1 p.idx ++ leBytes 1 (portCode new) ++ leBytes 1 means)).leaveOwner p).alertPort p 3).lockExpert

/-- The new owner, if there is one, is alerted, its claim ends and its lease starts (R374). -/
def ownerTakes (s : State) : Option Port → State
  | some p => (((s.alertPort p 3).endClaim p stOk 0).setV .leaseLeft 0 0).renewLease
  | none => s

theorem passOwner_owned {s : State} {p : Port} (ho : s.owner = some p) (new : Option Port) (means : Nat) : s.passOwner new means = ((s.ownerLeft p new means).ownerTakes new).abortUpdate 0x01 := by
  unfold passOwner ownerLeft ownerTakes
  rw [ho]
  rfl

theorem ownership_leaveOwner (s : State) (p : Port) : (s.leaveOwner p).ownership = s.ownership := ownership_updSess s p (fun x => { x with queue := x.queue.map markOld })

theorem ownership_ownerLeft (s : State) (p : Port) (new : Option Port) (means : Nat) : (s.ownerLeft p new means).ownership = (new, none, s.update) := by
  unfold ownerLeft
  rw [ownership_lockExpert, alertPort, ownership_updSess, ownership_leaveOwner, ownership_event]
  rfl

theorem ownership_ownerTakes (s : State) (new : Option Port) : (s.ownerTakes new).ownership = s.ownership := by
  cases new with
  | none => rfl
  | some p =>
    refine (ownership_renewLease _).trans ?_
    show ((s.alertPort p 3).endClaim p stOk 0).ownership = s.ownership
    rw [ownership_endClaim, alertPort, ownership_updSess]

theorem ownerTakes_regs (s : State) (new : Option Port) : (s.ownerTakes new).regs = s.regs := by
  cases new with
  | none => rfl
  | some p =>
    refine (renewLease_regs _).trans ?_
    show ((s.alertPort p 3).endClaim p stOk 0).regs = s.regs
    rw [endClaim_regs, alertPort_regs]

theorem leaveOwner_regs (s : State) (p : Port) : (s.leaveOwner p).regs = s.regs := regs_setSess s p _

theorem rd_ownerLeft (s : State) (p : Port) (new : Option Port) (means : Nat) : (s.ownerLeft p new means).rd Reg.EXPERT_CTL_XON = 0 ∧
    (s.ownerLeft p new means).rd Reg.SYS_OWNER_OWNCHG = min (s.rd Reg.SYS_OWNER_OWNCHG + 1) (2 ^ Reg.SYS_OWNER_OWNCHG.width - 1) := by
  unfold ownerLeft
  refine ⟨rd_lockExpert_xon _, ?_⟩
  rw [rd_lockExpert _ (by decide) (by decide), rd_of_regs (alertPort_regs ..), rd_of_regs (leaveOwner_regs ..), rd_event _ _ _ _ (by decide) (by decide)]
  exact rd_bump_same ..

theorem abortUpdate_none {s : State} (h : s.update = none) (r : Nat) : s.abortUpdate r = s := by
  unfold abortUpdate
  rw [h]

/-- The part at the end of a lease, its owner alerted and recorded (R374). -/
def lapsed (s : State) (p : Port) : State := ((s.upTo (s.vn .tLease - 1)).alertPort p 4).event 0x7004 1 (leBytes 1 p.idx)

theorem lapse_owned {s : State} {p : Port} (ho : s.owner = some p) (hg : s.granting = none) (hh : s.on Reg.DBG_STAT_SCHALTED = false) :
    s.lapse = (s.lapsed p).passOwner ((s.lapsed p).bestClaim (fun _ => true)) meansLapse := by
  unfold lapse
  rw [ho, hg, hh]
  rfl

theorem bestClaim_lapsed (s : State) (p : Port) (ok : Claim → Bool) : (s.lapsed p).bestClaim ok = s.bestClaim ok :=
  bestClaim_of_claims (fun q => (congrArg Session.claim (event_sess ..)).trans ((alertPort_claim ..).trans (by cases q <;> rfl))) ok

theorem ownership_lapsed (s : State) (p : Port) : (s.lapsed p).ownership = s.ownership := (ownership_event ..).trans (ownership_updSess ..)

theorem rd_lapsed (s : State) (p : Port) {f : Fld} (h : f.base ∉ evrBases) : (s.lapsed p).rd f = s.rd f := (rd_event _ _ _ _ h (by decide)).trans (rd_of_regs (alertPort_regs ..) ..)

/-- What a lapse leaves: the best claim owns, no GRANT waits, expert writes are locked, and the change counts (R374). -/
theorem lapse_shows {s : State} {p : Port} (ho : s.owner = some p) (hg : s.granting = none) (hh : s.on Reg.DBG_STAT_SCHALTED = false) (hu : s.update = none) :
    s.lapse.owner = s.bestClaim (fun _ => true) ∧ s.lapse.rd Reg.EXPERT_CTL_XON = 0 ∧ s.lapse.granting = none ∧
      s.lapse.rd Reg.SYS_OWNER_OWNCHG = min (s.rd Reg.SYS_OWNER_OWNCHG + 1) (2 ^ Reg.SYS_OWNER_OWNCHG.width - 1) := by
  have hown := s.ownership_lapsed p
  have hlo : (s.lapsed p).owner = some p := (congrArg Prod.fst hown).trans ho
  have hlu : (s.lapsed p).update = none := (congrArg (fun x => x.2.2) hown).trans hu
  generalize hnew : s.bestClaim (fun _ => true) = new
  have hfinal : (((s.lapsed p).ownerLeft p new meansLapse).ownerTakes new).ownership = (new, none, none) := by rw [ownership_ownerTakes, ownership_ownerLeft, hlu]
  have hx : s.lapse = ((s.lapsed p).ownerLeft p new meansLapse).ownerTakes new := by
    rw [lapse_owned ho hg hh, bestClaim_lapsed, hnew, passOwner_owned hlo, abortUpdate_none (congrArg (fun x => x.2.2) hfinal)]
  obtain ⟨hxon, hchg⟩ := (s.lapsed p).rd_ownerLeft p new meansLapse
  rw [hx, rd_of_regs (ownerTakes_regs ..), rd_of_regs (ownerTakes_regs ..), hxon, hchg, rd_lapsed _ _ (by decide)]
  exact ⟨congrArg Prod.fst hfinal, rfl, congrArg (fun x => x.2.1) hfinal, rfl⟩

/-- A GRANT that waits hands over once the owner has nothing left (R375). -/
theorem handover_passes {s : State} {p q : Port} {c : Cmd} (hg : s.granting = some (q, c)) (ho : s.owner = some p) (hsc : s.scStopped = false) (hq : (s.sess p).queue = [])
    (hr : s.retuning = none) (hc : (s.sess q).claim.isSome = true) : s.handover = (s.passOwner (some q) meansGrant).reply p true c stOk [] := by
  unfold handover
  rw [hg, ho]
  dsimp only
  rw [hsc, hq, hr, hc]
  rfl

@[simp] theorem after_granting (s : State) : s.after.granting = s.granting := by rcases s.after_cases with h | h <;> simp [h]

end Sys2Proof.Machine.State

namespace Sys2Proof.Proofs

open Machine Machine.State

/-- Settles O47: a lapse passes ownership to the claim that was best before it, since alerting the owner leaves every claim. -/
theorem ownershipTimersAct : Obligations.OwnershipTimersAct := by
  intro s hp
  have hrun {f : State → State} {i : Instr} {t : State} (hx : exec i s = act s f) (h : f s = t) : exec i s = .next t.after := by rw [hx, act_after hp, h]
  refine ⟨fun p hopen hsc => ?_, fun p hopen => ?_, fun p ho hg hh hu => ?_, fun p q c hg ho hsc hq hr hc => ?_, fun hd hdr hsc => ?_, fun hd => ?_⟩
  · exact hrun (f := fun u => u.sessionTimeout p) rfl (if_pos ⟨hopen, by rw [hsc]; exact Bool.false_ne_true⟩)
  · exact hrun (f := fun u => u.sessionTimeout p) rfl (if_neg fun g => Bool.false_ne_true (hopen.symm.trans g.1))
  · obtain ⟨howner, hxon, hgrant, hchg⟩ := lapse_shows ho hg hh hu
    refine ⟨_, hrun (f := State.lapse) rfl rfl, (after_owner _).trans howner, ?_, (after_granting _).trans hgrant, (after_rd _ (by decide) (by decide) (by decide)).trans hchg⟩
    rw [on_eq, after_rd _ (by decide) (by decide) (by decide), hxon]
    rfl
  · exact hrun (f := State.handover) rfl (handover_passes hg ho hsc hq hr hc)
  · exact hrun (f := State.drainEnd) rfl (if_pos ⟨hd, hdr, by rw [hsc]; exact Bool.false_ne_true⟩)
  · exact hrun (f := State.drainEnd) rfl (if_neg fun g => by rw [hd] at g; exact Bool.false_ne_true g.1)

end Sys2Proof.Proofs
end

section
/-!
PROOF. The stage bus: how a host transaction ends, and what discovery and polling leave (R412 to R422).
-/

namespace Sys2Proof.Machine.State

/-! ### The end of a transaction -/

/-- A host transaction that runs is one that may run (R430). -/
theorem twxRuns_of_running {s : State} (h : s.rd Reg.TWX_HXFR_STAT = hxRunning) : s.twxRuns = true := by
  unfold twxRuns
  rw [h]
  rfl

/-- The fields that the end of a transaction may change, beside its outcome (R416, R421). -/
def endBases : List Nat := [Reg.TWX_HXFR_STAT.base, Reg.STAGE_FAILCNT.base, Reg.TWX_STAT_DISC.base]

/-- A failure counts for the stage that the transaction concerns (R430). -/
def failureCounted (s : State) (stat : Nat) : State :=
  match s.hxStage with
  | some n => if stat = hxDone then s else s.bump Reg.STAGE_FAILCNT n
  | none => s

/-- A discovery that waited begins (R421). -/
def discoveryBegun (s : State) : State := if s.vOn .rediscWait then (s.setV .rediscWait 0 0).wr Reg.TWX_STAT_DISC 0 1 else s

theorem rd_failureCounted (s : State) (stat : Nat) {f : Fld} (h : f.base ≠ Reg.STAGE_FAILCNT.base) : (s.failureCounted stat).rd f = s.rd f := by
  unfold failureCounted
  split
  · next n hn =>
    split
    · rfl
    · exact rd_wr_ne _ _ (Ne.symm h) (by have := hxStage_lt hn; omega) (by decide)
  · rfl

theorem rd_discoveryBegun (s : State) {f : Fld} (h : f.base ≠ Reg.TWX_STAT_DISC.base) : s.discoveryBegun.rd f = s.rd f := by
  unfold discoveryBegun
  split
  · exact (rd_wr_ne _ _ (Ne.symm h) (by decide) (by decide)).trans (rd_setV ..)
  · rfl

theorem endTransaction_eq {s : State} (h : s.rd Reg.TWX_HXFR_STAT = hxRunning) (stat : Nat) :
    s.endTransaction stat = ((((s.setV .twxRestarts 0 0).irq 85).wr Reg.TWX_HXFR_STAT 0 stat).failureCounted stat).discoveryBegun := if_pos ((rd_irq ..).trans ((rd_setV ..).trans h))

/-- The end of a running host transaction shows its outcome, and leaves every field at another place (R416, R430). -/
theorem endTransaction_shows {s : State} (h : s.rd Reg.TWX_HXFR_STAT = hxRunning) {stat : Nat} (hs : stat < 8) :
    (s.endTransaction stat).rd Reg.TWX_HXFR_STAT = stat ∧ ∀ f : Fld, f.base ∉ endBases → (s.endTransaction stat).rd f = s.rd f := by
  rw [endTransaction_eq h]
  refine ⟨?_, fun f hf => ?_⟩
  · rw [rd_discoveryBegun _ (by decide), rd_failureCounted _ _ (by decide), rd_wr_same]
    exact Nat.mod_eq_of_lt hs
  · simp only [endBases, List.mem_cons, List.not_mem_nil, or_false, not_or] at hf
    obtain ⟨hstat, hfail, hdisc⟩ := hf
    rw [rd_discoveryBegun _ hdisc, rd_failureCounted _ _ hfail, rd_wr_ne _ _ (Ne.symm hstat) (by decide) (by decide), rd_irq, rd_setV]

theorem rd_busStuck (s : State) {f : Fld} (h : f.base ≠ Reg.TWX_STAT_BUSSTUCK.base) (he : f.base ∉ evrBases) : s.busStuck.rd f = s.rd f :=
  (rd_event _ _ _ _ he (by decide)).trans (rd_wr_ne _ _ (Ne.symm h) (by decide) (by decide))

theorem rd_busStuck_stuck (s : State) : s.busStuck.rd Reg.TWX_STAT_BUSSTUCK = 1 := (rd_event _ _ _ _ (by decide) (by decide)).trans (rd_wr_same ..)

section
variable {s : State} (h : s.rd Reg.TWX_HXFR_STAT = hxRunning)
include h

theorem transactionEnd_ok {data : Nat} (hn : s.rd Reg.TWX_HXFR_NRD = 0) : s.transactionEnd .ok false data = s.endTransaction hxDone := by
  have hwrite : ¬ (s.rd Reg.TWX_HXFR_STAT = hxRunning ∧ s.rd Reg.TWX_HXFR_NRD ≠ 0) := fun g => g.2 hn
  unfold transactionEnd
  rw [if_neg (not_not.2 (twxRuns_of_running h))]
  dsimp only
  rw [if_neg Bool.false_ne_true, if_neg hwrite]

theorem transactionEnd_nack (data : Nat) : s.transactionEnd .nack false data = s.endTransaction hxNack := by
  unfold transactionEnd
  rw [if_neg (not_not.2 (twxRuns_of_running h))]
  rfl

theorem transactionEnd_stuck (data : Nat) : s.transactionEnd .stuck true data = (s.bump Reg.TWX_STAT_CLEARS 0).busStuck.endTransaction hxStuck := by
  unfold transactionEnd
  rw [if_neg (not_not.2 (twxRuns_of_running h))]
  rfl

/-- A stuck bus ends the transaction, shows BUSSTUCK and counts the clear (R416). -/
theorem transactionEnd_stuck_shows (data : Nat) : (s.transactionEnd .stuck true data).rd Reg.TWX_HXFR_STAT = hxStuck ∧ (s.transactionEnd .stuck true data).rd Reg.TWX_STAT_BUSSTUCK = 1 ∧
    (s.transactionEnd .stuck true data).rd Reg.TWX_STAT_CLEARS = min (s.rd Reg.TWX_STAT_CLEARS + 1) (2 ^ Reg.TWX_STAT_CLEARS.width - 1) := by
  have hrun : (s.bump Reg.TWX_STAT_CLEARS 0).busStuck.rd Reg.TWX_HXFR_STAT = hxRunning :=
    (rd_busStuck _ (by decide) (by decide)).trans ((rd_wr_ne _ _ (by decide) (by decide) (by decide)).trans h)
  obtain ⟨hstat, hkept⟩ := endTransaction_shows hrun (stat := hxStuck) (by decide)
  rw [transactionEnd_stuck h]
  refine ⟨hstat, (hkept _ (by decide)).trans (rd_busStuck_stuck _), (hkept _ (by decide)).trans ?_⟩
  rw [rd_busStuck _ (by decide) (by decide), rd_bump_same]

theorem arbLost_restarts (ha : s.vn .twxRestarts < s.rd Reg.TWX_CTL_ARBN) : s.arbLost = (s.bump Reg.TWX_STAT_ARBLOST 0).setV .twxRestarts 0 (s.v .twxRestarts + 1) := by
  have harbn : (s.bump Reg.TWX_STAT_ARBLOST 0).rd Reg.TWX_CTL_ARBN = s.rd Reg.TWX_CTL_ARBN := rd_wr_ne _ _ (by decide) (by decide) (by decide)
  unfold arbLost
  rw [if_neg (not_not.2 (twxRuns_of_running h))]
  dsimp only
  rw [harbn]
  exact if_neg (Nat.not_le.2 ha)

theorem arbLost_fails (ha : s.rd Reg.TWX_CTL_ARBN ≤ s.vn .twxRestarts) : s.arbLost = ((s.bump Reg.TWX_STAT_ARBLOST 0).wr Reg.TWX_STAT_ARBFAIL 0 1).endTransaction hxArb := by
  have harbn : (s.bump Reg.TWX_STAT_ARBLOST 0).rd Reg.TWX_CTL_ARBN = s.rd Reg.TWX_CTL_ARBN := rd_wr_ne _ _ (by decide) (by decide) (by decide)
  unfold arbLost
  rw [if_neg (not_not.2 (twxRuns_of_running h))]
  dsimp only
  rw [harbn]
  exact if_pos ha

/-- A lost arbitration that ends the transaction shows ARBFAIL (R414). -/
theorem arbLost_fails_shows (ha : s.rd Reg.TWX_CTL_ARBN ≤ s.vn .twxRestarts) : s.arbLost.rd Reg.TWX_HXFR_STAT = hxArb ∧ s.arbLost.rd Reg.TWX_STAT_ARBFAIL = 1 := by
  have hrun : ((s.bump Reg.TWX_STAT_ARBLOST 0).wr Reg.TWX_STAT_ARBFAIL 0 1).rd Reg.TWX_HXFR_STAT = hxRunning :=
    (rd_wr_ne _ _ (by decide) (by decide) (by decide)).trans ((rd_wr_ne _ _ (by decide) (by decide) (by decide)).trans h)
  obtain ⟨hstat, hkept⟩ := endTransaction_shows hrun (stat := hxArb) (by decide)
  rw [arbLost_fails h ha]
  exact ⟨hstat, (hkept _ (by decide)).trans (rd_wr_same ..)⟩

theorem lowTimeout_eq (freed : Bool) : s.lowTimeout freed = if freed then ((s.wr Reg.TWX_STAT_LOWTOF 0 1).endTransaction hxTimeout).bump Reg.TWX_STAT_CLEARS 0
    else ((s.wr Reg.TWX_STAT_LOWTOF 0 1).endTransaction hxTimeout).busStuck := by
  unfold lowTimeout
  rw [if_neg (not_not.2 (twxRuns_of_running h))]

/-- A low timeout shows LOWTOF, and BUSSTUCK where the bus was not freed (R415, R416). -/
theorem lowTimeout_shows (freed : Bool) : (s.lowTimeout freed).rd Reg.TWX_HXFR_STAT = hxTimeout ∧ (s.lowTimeout freed).rd Reg.TWX_STAT_LOWTOF = 1 ∧
    (freed = false → (s.lowTimeout freed).rd Reg.TWX_STAT_BUSSTUCK = 1) := by
  have hrun : (s.wr Reg.TWX_STAT_LOWTOF 0 1).rd Reg.TWX_HXFR_STAT = hxRunning := (rd_wr_ne _ _ (by decide) (by decide) (by decide)).trans h
  obtain ⟨hstat, hkept⟩ := endTransaction_shows hrun (stat := hxTimeout) (by decide)
  have hlow := (hkept Reg.TWX_STAT_LOWTOF (by decide)).trans (rd_wr_same ..)
  rw [lowTimeout_eq h]
  cases freed with
  | true => exact ⟨(rd_wr_ne _ _ (by decide) (by decide) (by decide)).trans hstat, (rd_wr_ne _ _ (by decide) (by decide) (by decide)).trans hlow, fun g => absurd g (by decide)⟩
  | false => exact ⟨(rd_busStuck _ (by decide) (by decide)).trans hstat, (rd_busStuck _ (by decide) (by decide)).trans hlow, fun _ => rd_busStuck_stuck _⟩

/-- A busy timeout shows BUSYF (R412). -/
theorem busyTimeout_shows : s.busyTimeout.rd Reg.TWX_STAT_BUSYF = 1 := by
  have hrun : (s.wr Reg.TWX_STAT_BUSYF 0 1).rd Reg.TWX_HXFR_STAT = hxRunning := (rd_wr_ne _ _ (by decide) (by decide) (by decide)).trans h
  obtain ⟨-, hkept⟩ := endTransaction_shows hrun (stat := hxTimeout) (by decide)
  unfold busyTimeout
  rw [if_neg (not_not.2 (twxRuns_of_running h)), hkept _ (by decide)]
  exact rd_wr_same ..

end

/-! ### Discovery and polling -/

/-- How many of the probes are refused (R418, R421). -/
def refusedCount (ps : List StageProbe) : Nat := (((ps.zipIdx).map (fun x => judgeStage x.2 x.1)).filter (fun g => g.out == stRefused)).length

theorem refusedCount_eq (ps : List StageProbe) : (((ps.zipIdx).map (fun x => (x.2, judgeStage x.2 x.1))).filter (fun x => x.2.out == stRefused)).length = refusedCount ps := by
  unfold refusedCount
  rw [List.filter_map, List.filter_map, List.length_map, List.length_map]
  rfl

theorem refusedCount_le (ps : List StageProbe) : refusedCount ps ≤ ps.length := by
  refine (List.length_filter_le _ _).trans ?_
  rw [List.length_map, List.length_zipIdx]

/-- Discovery that ends clears DISC and shows the count of refused stages (R421). -/
theorem discoveryDone_shows {s : State} {ps : List StageProbe} (hlen : ps.length = 34) (hd : s.on Reg.TWX_STAT_DISC = true) (hb : s.vOn .bootRun = true) (hc : s.coreRuns .sc = true) :
    (s.discoveryDone ps).rd Reg.TWX_STAT_DISC = 0 ∧ (s.discoveryDone ps).rd Reg.TWX_STAT_NREFUSED = refusedCount ps := by
  have hgo : ¬ (¬ s.on Reg.TWX_STAT_DISC = true ∨ ¬ s.vOn .bootRun = true ∨ ¬ s.coreRuns .sc = true) := by
    rw [hd, hb, hc]
    decide
  have hle := refusedCount_le ps
  unfold discoveryDone
  rw [if_neg hgo, rd_event _ _ _ _ (by decide) (by decide), rd_event _ _ _ _ (by decide) (by decide), refusedCount_eq]
  refine ⟨(rd_wr_same ..).trans (Nat.zero_mod _), (rd_wr_ne _ _ (by decide) (by decide) (by decide)).trans ((rd_wr_same ..).trans (Nat.mod_eq_of_lt ?_))⟩
  have hw : (2 : Nat) ^ Reg.TWX_STAT_NREFUSED.width = 256 := by decide
  omega

/-- A polling round that came late sets TLATE (R422). -/
theorem pollRound_late {s : State} (xs : List TelemReading) (ht : s.rd Reg.TWX_CTL_TPOLL ≠ 0) (hd : s.on Reg.TWX_STAT_DISC = false) (hb : s.vOn .bootRun = true) (hc : s.coreRuns .sc = true) :
    (s.pollRound xs true).rd Reg.TWX_STAT_TLATE = 1 := by
  have hgo : ¬ (s.rd Reg.TWX_CTL_TPOLL = 0 ∨ s.on Reg.TWX_STAT_DISC = true ∨ ¬ s.vOn .bootRun = true ∨ ¬ s.coreRuns .sc = true) := by
    rw [hd, hb, hc]
    simpa using ht
  unfold pollRound
  rw [if_neg hgo, if_pos rfl]
  exact rd_wr_same ..

end Sys2Proof.Machine.State

namespace Sys2Proof.Proofs

open Machine Machine.State

/-- Settles O40: an ended transaction leaves the flags and counters that were set before it ended; that a busy bus shows the outcome of a timeout is the model's choice (log entry 25). -/
theorem stageRowsAct : Obligations.StageRowsAct := by
  have shown : ∀ (u : State) (f : Fld), f.base ≠ Reg.CAP_RATECHG.base → f.base ≠ Reg.ICU_CORE_WAKEREQ.base → u.after.rd f = u.rd f := fun u f h1 h2 => after_rd u h1 h2 (by decide)
  refine ⟨fun s hp hr => ⟨fun data hn => ?_, fun data => ?_, fun data => ?_, fun ha => ?_, fun ha => ?_, fun freed => ?_, ?_⟩, fun ps xs s => ⟨fun hl => if_neg hl, fun hl _ => if_neg hl, fun hp hb hc => ⟨fun hl hd => ?_, fun hl ht hd => ?_⟩⟩⟩
  · refine ⟨_, act_after (f := fun u => u.transactionEnd .ok false data.toNat) hp, (shown _ _ (by decide) (by decide)).trans ?_⟩
    rw [transactionEnd_ok hr hn]
    exact (endTransaction_shows hr (by decide)).1
  · refine ⟨_, act_after (f := fun u => u.transactionEnd .nack false data.toNat) hp, (shown _ _ (by decide) (by decide)).trans ?_⟩
    rw [transactionEnd_nack hr]
    exact (endTransaction_shows hr (by decide)).1
  · obtain ⟨hstat, hstuck, hclears⟩ := transactionEnd_stuck_shows hr data.toNat
    exact ⟨_, act_after (f := fun u => u.transactionEnd .stuck true data.toNat) hp, (shown _ _ (by decide) (by decide)).trans hstat, (shown _ _ (by decide) (by decide)).trans hstuck,
      (shown _ _ (by decide) (by decide)).trans hclears⟩
  · exact (act_after (f := State.arbLost) hp).trans (by rw [arbLost_restarts hr ha])
  · obtain ⟨hstat, hfail⟩ := arbLost_fails_shows hr ha
    exact ⟨_, act_after (f := State.arbLost) hp, (shown _ _ (by decide) (by decide)).trans hstat, (shown _ _ (by decide) (by decide)).trans hfail⟩
  · obtain ⟨hstat, hlow, hstuck⟩ := lowTimeout_shows hr freed
    exact ⟨_, act_after (f := fun u => u.lowTimeout freed) hp, (shown _ _ (by decide) (by decide)).trans hstat, (shown _ _ (by decide) (by decide)).trans hlow,
      fun hf => (shown _ _ (by decide) (by decide)).trans (hstuck hf)⟩
  · exact ⟨_, act_after (f := State.busyTimeout) hp, (shown _ _ (by decide) (by decide)).trans (busyTimeout_shows hr)⟩
  · obtain ⟨hdisc, hcount⟩ := discoveryDone_shows hl hd hb hc
    exact ⟨_, (if_pos hl).trans (act_after (f := fun u => u.discoveryDone ps) hp), (shown _ _ (by decide) (by decide)).trans hdisc, (shown _ _ (by decide) (by decide)).trans hcount⟩
  · exact ⟨_, (if_pos hl).trans (act_after (f := fun u => u.pollRound xs true) hp), (shown _ _ (by decide) (by decide)).trans (pollRound_late xs ht hd hb hc)⟩

end Sys2Proof.Proofs
end

section
/-!
PROOF. The recorder's opcodes (R401, R464 to R467).
-/

namespace Sys2Proof.Machine.State

section
variable {t : State} (p : Port) {c : Cmd} {pl : List Byte} (ho : c.obj = 0xFFFF) (hpl : c.payload = pl)
include ho hpl

/-- LOG_OPEN opens a window from the record it names, or from the oldest (R466). -/
theorem logOpenBody_opens {a : Word} {sev : Byte} (hb : pl = leBytes 4 a.toNat ++ [sev]) (hs : sev.toNat ≤ 3) (hm : modesAny.contains t.mode = true) :
    t.logOpenBody p c = (t.updSess p (fun x => { x with log := some ⟨if a = 0xFFFFFFFF#32 then t.oldestSeq else a.toNat, t.newestSeq, sev.toNat, t.ring.isEmpty⟩ }), stOk,
      leBytes 4 t.oldestSeq ++ leBytes 4 t.newestSeq) := by
  have hfrom : fieldAt c.payload 0 4 = a.toNat := by rw [hpl, hb]; exact fieldAt_leBytes [] [sev] a.isLt
  have hsev : fieldAt c.payload 4 1 = sev.toNat := by rw [hpl, hb]; exact fieldAt_byte (leBytes 4 a.toNat) [] sev
  have hcheck : checkCmd c (decide (c.payload.length = 5)) (decide (sev.toNat ≤ 3)) modesAny t = stOk := checkCmd_ok (by rw [hpl, hb]; rfl) ho (decide_eq_true hs) hm
  have hall : (a = 0xFFFFFFFF#32) = (a.toNat = 0xFFFFFFFF) := propext (BitVec.toNat_eq (y := 0xFFFFFFFF#32))
  unfold logOpenBody
  dsimp only
  rw [hfrom, hsev, hcheck, if_neg (not_not.2 rfl)]
  simp only [hall]

/-- LOG_READ returns the next records of the window and moves its cursor (R466). -/
theorem logReadBody_reads {n : Byte} {w : LogWindow} (hb : pl = [n]) (h1 : 1 ≤ n.toNat) (h7 : n.toNat ≤ 7) (hw : (t.sess p).log = some w) (hm : modesAny.contains t.mode = true) :
    t.logReadBody p c = (t.updSess p (fun y => { y with log := some (t.readRecords w n.toNat).2 }), stOk,
      leBytes 1 (t.readRecords w n.toNat).1.length ++ (t.readRecords w n.toNat).1.flatMap recordBytes) := by
  have hn : fieldAt c.payload 0 1 = n.toNat := by rw [hpl, hb]; exact fieldAt_byte [] [] n
  have hcheck : checkCmd c (decide (c.payload.length = 1)) (decide (1 ≤ n.toNat) && decide (n.toNat ≤ 7)) modesAny t = stOk :=
    checkCmd_ok (by rw [hpl, hb]; rfl) ho (by rw [decide_eq_true h1, decide_eq_true h7]; rfl) hm
  unfold logReadBody
  dsimp only
  rw [hn, hcheck, hw]
  rfl

/-- LOG_CLOSE ends an open window, and is refused without one (R401). -/
theorem logCloseBody_closes (hb : pl = []) (hw : (t.sess p).log.isSome = true) (hm : modesAny.contains t.mode = true) :
    t.logCloseBody p c = (t.updSess p (fun x => { x with log := none }), stOk, []) := by
  have hcheck : checkCmd c (decide (c.payload.length = 0)) true modesAny t = stOk := checkCmd_ok (by rw [hpl, hb]; rfl) ho rfl hm
  have hsome : ¬ (stOk = stOk ∧ (t.sess p).log.isNone = true) := fun g => by
    rw [← Option.not_isSome, hw] at g
    exact Bool.false_ne_true g.2
  unfold logCloseBody
  dsimp only
  rw [hcheck, if_neg hsome, if_pos rfl]

theorem logCloseBody_refuses (hb : pl = []) (hw : (t.sess p).log = none) (hm : modesAny.contains t.mode = true) : t.logCloseBody p c = (t, stBadParam, []) := by
  have hcheck : checkCmd c (decide (c.payload.length = 0)) true modesAny t = stOk := checkCmd_ok (by rw [hpl, hb]; rfl) ho rfl hm
  unfold logCloseBody
  dsimp only
  rw [hcheck, hw]
  rfl

/-- LOG_CLEAR closes every window; it empties the ring, or fails where no record may be written (R467, R474). -/
theorem logClearBody_eq (hb : pl = leBytes 2 0x5AA5) (hm : t.mode = mStandby ∨ t.mode = mRehearsal) :
    t.logClearBody p c = if t.on Reg.NVS_STAT_BOWARN ∨ t.on Reg.NVS_STAT_INHIBIT then (t.updAll (fun x => { x with log := none }), stFailed, [0x01#8])
      else (({ t.updAll (fun x => { x with log := none }) with ring := [] } : State).clearRecord t.ring.length p, stOk, []) := by
  have hmodes : [mStandby, mRehearsal].contains t.mode = true := by
    rcases hm with h | h <;> rw [h] <;> decide
  have hcheck : checkCmd c (decide (c.payload.length = 2)) (decide (fieldAt c.payload 0 2 = 0x5AA5)) [mStandby, mRehearsal] t = stOk :=
    checkCmd_ok (by rw [hpl, hb]; rfl) ho (by rw [hpl, hb]; decide) hmodes
  unfold logClearBody
  dsimp only
  rw [hcheck, if_neg (not_not.2 rfl)]
  rfl

section
variable {code : BitVec 16} {rate burst : Byte} (hb : pl = leBytes 2 code.toNat ++ [rate, burst]) (hm : modesCfg.contains t.mode = true) (hrate : rate ≠ 0#8) (hburst : burst ≠ 0#8)
include hb hm hrate hburst

/-- LOG_POLICY with a rate and a depth sets the default, or a code's own pair where there is room for it (R464). -/
theorem logPolicyBody_eq : t.logPolicyBody p c =
    if t.policyFull code.toNat rate.toNat burst.toNat = true then (t, stConflict, [])
    else (if code.toNat = 0xFFFF then t.setDefaultPolicy rate.toNat burst.toNat else t.setOwnPolicy code.toNat rate.toNat burst.toNat, stOk, []) := by
  have hpos : ∀ b : Byte, b ≠ 0#8 → 1 ≤ b.toNat := fun b h => Nat.pos_of_ne_zero fun e => h (BitVec.eq_of_toNat_eq e)
  have hcode : fieldAt c.payload 0 2 = code.toNat := by rw [hpl, hb]; exact fieldAt_leBytes [] [rate, burst] code.isLt
  have hr : fieldAt c.payload 2 1 = rate.toNat := by rw [hpl, hb]; exact fieldAt_byte (leBytes 2 code.toNat) [burst] rate
  have hd : fieldAt c.payload 3 1 = burst.toNat := by rw [hpl, hb]; exact fieldAt_byte (leBytes 2 code.toNat ++ [rate]) [] burst
  have hcheck : checkCmd c (decide (c.payload.length = 4)) (decide (1 ≤ rate.toNat) && decide (1 ≤ burst.toNat)) modesCfg t = stOk :=
    checkCmd_ok (by rw [hpl, hb]; rfl) ho (by rw [decide_eq_true (hpos _ hrate), decide_eq_true (hpos _ hburst)]; rfl) hm
  unfold logPolicyBody
  dsimp only
  rw [hcode, hr, hd, hcheck]
  cases t.policyFull code.toNat rate.toNat burst.toNat <;> rfl

end

end

theorem taken_policyFull (s : State) (p : Port) (a b d : Nat) : (s.taken p).policyFull a b d = s.policyFull a b d := by cases p <;> rfl

end Sys2Proof.Machine.State

namespace Sys2Proof.Proofs

open Machine Machine.State

/-- Settles O54: each opcode's checks pass, and its body acts on the ring, the windows or the policy; that a clear fails at once while no record may be written, and that no bucket holds more than a new depth, are the model's choices (log entries 34 and 35). -/
theorem logOpcodesRun : Obligations.LogOpcodesRun := by
  intro p h pl s ho
  have hmode : (s.taken p).mode = s.mode := Laws.taken_mode ..
  refine ⟨fun hm => ⟨fun a sev hpl hs => ?_, fun n w hpl h1 h7 hw => ?_, fun hpl hw => ?_, fun hpl hw => ?_⟩, fun hpl hm => ⟨fun hwarn hinh => ?_, fun hstop => ?_⟩,
    fun code rate burst hpl hm hrate hburst => ⟨fun hcode => ?_, fun hcode hfull => ?_, fun hcode hfull => ?_⟩⟩
  · exact runs_of_noObject ho (f := State.logOpenBody) rfl fun c hcpl hobj => logOpenBody_opens p hobj hcpl hpl hs (by rw [hmode]; exact hm)
  · exact runs_of_noObject ho (f := State.logReadBody) rfl fun c hcpl hobj => logReadBody_reads p hobj hcpl hpl h1 h7 ((Laws.taken_log ..).trans hw) (by rw [hmode]; exact hm)
  · exact runs_of_noObject ho (f := State.logCloseBody) rfl fun c hcpl hobj => logCloseBody_closes p hobj hcpl hpl (by rw [Laws.taken_log]; exact hw) (by rw [hmode]; exact hm)
  · exact runs_of_noObject ho (f := State.logCloseBody) rfl fun c hcpl hobj => logCloseBody_refuses p hobj hcpl hpl ((Laws.taken_log ..).trans hw) (by rw [hmode]; exact hm)
  · refine runs_of_noObject ho (f := State.logClearBody) rfl fun c hcpl hobj => ?_
    rw [logClearBody_eq p hobj hcpl hpl (by rw [hmode]; exact hm), Laws.taken_on, Laws.taken_on, hwarn, hinh]
    rfl
  · refine runs_of_noObject ho (f := State.logClearBody) rfl fun c hcpl hobj => ?_
    rw [logClearBody_eq p hobj hcpl hpl (by rw [hmode]; exact hm), Laws.taken_on, Laws.taken_on, if_pos hstop]
  · refine runs_of_noObject ho (f := State.logPolicyBody) rfl fun c hcpl hobj => ?_
    have hroom : (s.taken p).policyFull code.toNat rate.toNat burst.toNat = false := by rw [hcode]; rfl
    rw [logPolicyBody_eq p hobj hcpl hpl (by rw [hmode]; exact hm) hrate hburst, hroom, if_neg Bool.false_ne_true, if_pos (by rw [hcode]; rfl)]
  · refine runs_of_noObject ho (f := State.logPolicyBody) rfl fun c hcpl hobj => ?_
    have hown : code.toNat ≠ 0xFFFF := fun e => hcode (BitVec.eq_of_toNat_eq e)
    rw [logPolicyBody_eq p hobj hcpl hpl (by rw [hmode]; exact hm) hrate hburst, taken_policyFull, hfull, if_neg Bool.false_ne_true, if_neg hown]
  · refine runs_of_noObject ho (f := State.logPolicyBody) rfl fun c hcpl hobj => ?_
    rw [logPolicyBody_eq p hobj hcpl hpl (by rw [hmode]; exact hm) hrate hburst, taken_policyFull, hfull, if_pos rfl]

end Sys2Proof.Proofs
end

section
/-!
PROOF. A command of the wrong length, or with an object where none is due: the first check of every body that has one length (R384, R520).
-/

namespace Sys2Proof.Machine

/-- A command of the wrong length, or with an object, fails its first check whatever else holds (R520). -/
theorem checkCmd_wrong {c : Cmd} {n : Nat} (h : c.payload.length ≠ n ∨ c.obj ≠ 0xFFFF) (fields : Bool) (modes : List Nat) (s : State) :
    checkCmd c (decide (c.payload.length = n)) fields modes s = stBadParam :=
  if_pos (h.imp (fun g => by rw [decide_eq_false g]; exact Bool.false_ne_true) Or.inl)

/-- The same of RAIL_ON's own form of the check, and of what MODE looks at only in a command that fits. -/
theorem wrongLength_bool {c : Cmd} {n : Nat} (h : c.payload.length ≠ n ∨ c.obj ≠ 0xFFFF) : (c.payload.length != n || c.obj != 0xFFFF) = true := by simpa using h

theorem wrongLength_skips {c : Cmd} {n : Nat} (h : c.payload.length ≠ n ∨ c.obj ≠ 0xFFFF) (P : Prop) [Decidable P] (a b : Nat) :
    (if c.payload.length = n ∧ c.obj = 0xFFFF ∧ P then a else b) = b := if_neg fun g => h.elim (fun e => e g.1) fun e => e g.2.1

/-- IDENT_RUN that is refused changes nothing, whether or not it would have had its channels. -/
theorem State.identRunBody_wrong {t : State} {p : Port} {c : Cmd} (h : c.payload.length ≠ 4 ∨ c.obj ≠ 0xFFFF) : t.identRunBody p c = (t, stBadParam, []) := by
  unfold State.identRunBody
  dsimp only
  rw [checkCmd_wrong h]
  split <;> rfl

end Sys2Proof.Machine

namespace Sys2Proof.Proofs

open Machine Machine.State

/-- A row whose body refuses commands of the wrong length, or with an object, runs so. -/
theorem runs_wrongLength {i : Instr} {s : State} {p : Port} {h : Hdr} {pl : List Byte} {op n : Nat} {f : State → Port → Cmd → State.Result} (hbad : pl.length ≠ n ∨ h.objId ≠ 0xFFFF#16)
    (hx : exec i s = act s (hostRow op p h pl f)) (hf : ∀ (t : State) (c : Cmd), (c.payload.length ≠ n ∨ c.obj ≠ 0xFFFF) → f t p c = (t, stBadParam, [])) :
    Runs i s p h pl op (fun t _ => (t, stBadParam, [])) := by
  refine Laws.runs_of_body hx fun c w => hf _ c ?_
  obtain ⟨-, -, -, -, -, -, -, -, hobj, hpl⟩ := w
  exact hbad.imp (fun g => by rw [hpl]; exact g) fun g e => g (BitVec.eq_of_toNat_eq (hobj.symm.trans e))

/-- Settles O57: the first thing that each of these bodies looks at is the length and the object, and all that it does on a failure is to say so. -/
theorem wrongLengthRefused : Obligations.WrongLengthRefused := by
  intro p h pl s rows x hx hbad
  by_cases hrun : x = (.identRun, 0x58, 4)
  · subst hrun
    exact runs_wrongLength hbad (f := State.identRunBody) rfl fun t c hc => identRunBody_wrong hc
  simp only [rows, List.cons_append, List.nil_append, List.mem_cons, List.not_mem_nil, or_false, hrun, false_or] at hx
  rcases hx with rfl | hx
  · exact runs_wrongLength hbad (f := State.fenceBody) rfl fun t c hc => if_pos hc
  rcases hx with rfl | rfl | rfl | rfl | rfl | rfl | rfl | rfl | rfl | rfl | rfl | rfl | rfl | rfl | rfl | rfl | rfl | rfl | rfl | rfl | rfl | rfl | rfl | rfl | rfl | rfl
  all_goals
    refine runs_wrongLength hbad rfl fun t c hc => ?_
    simp only [railOnBody, railOffBody, setvBody, setslewBody, loadlineBody, phaseMapBody, hamperCfgBody, gaugeReadBody, faultClearBody, captureReadBody, spectrumBody, identReadBody, retuneBody, modeBody,
      logOpenBody, logReadBody, logCloseBody, logClearBody, logPolicyBody, resetBody, identifyBody, statusReport, calAdcBody, bistBody, characteriseBody, updateCommitBody,
      checkCmd_wrong hc, wrongLength_bool hc, wrongLength_skips hc]
    rfl

end Sys2Proof.Proofs
end

section
/-!
PROOF. GET where the samples that it takes first overwrite the interface level, in a state whose store holds a job that does not exist (R62, R336, R390).
-/

namespace Sys2Proof.Proofs

open Machine Machine.State

/-- The number of a job so far past the eight that the place of the low half of its trigger time is that of EFFIL: fields are kept by place and index. -/
def jobOverLevel : Nat := Reg.SYS_IMAGE_EFFIL.key 0 - Reg.CAP_JOB_TSLO.key 0

/-- A GET of GAU_REST, the object of interface level 2, that waits. -/
def restGet : Cmd := ⟨0x10, 1, 0, 0x0A15, 0, [], false, false, false⟩

/-- A running block of interface level 2 at its third tick, with the GET of an open session waiting, and a capture channel 0 that samples for such a job, armed to trigger when its first channel rises to a level. -/
def capturingOverLevel : State :=
  let s : State := { State.reset with power := .running, now := 3, twa := { Session.none with isOpen := true, av := 1, queue := [restGet] } }
  let s := ((s.wr Reg.SYS_MODE_MODE 0 mStandby).wr Reg.SYS_IMAGE_EFFIL 0 2).wr Reg.CAP_HOLD 0 holdJob
  let s := ((s.wr Reg.CAP_SRC 0 0xA0).setV .capNext 0 1).setV .capWas 0 1
  let s := ((s.setV .capHave 0 1).withRaw Reg.CAP_JOB 0 jobOverLevel).wr Reg.CAP_JOB_STATE jobOverLevel 1
  ((s.wr Reg.CAP_JOB_TRIG jobOverLevel 6).wr Reg.CAP_JOB_CHMASK jobOverLevel 1).wr Reg.CAP_JOB_LEVEL jobOverLevel 1

/-- GAU_REST in the register map. -/
def restObj : Obj := (findObj 0x0A15).get (by decide +kernel)

/-- The status of the first credited reply of TWA in the next state of an outcome: the byte behind the header (R366). -/
def repliedStatus : Host.Outcome State Fault Refusal → Option Byte
  | .next t => t.twa.credited.head?.bind fun r => r.bytes[8]?
  | _ => none

/-- Refutes O49, by its clause for GET of an object without instances: it speaks of every state, and so of one in which a capture channel belongs to a job far past the eight; the sample that the GET takes first triggers that job, whose trigger time is written over EFFIL, and the GET is refused with VERSION. The model itself writes JOB in its four bits, so no run comes to this state. -/
theorem not_registerOpcodesRun : ¬ Obligations.RegisterOpcodesRun := by
  intro h
  obtain ⟨hget, -⟩ := h .twa ⟨0x10#8, 0#8, 0x0A15#16, 0#16⟩ [] capturingOverLevel
  obtain ⟨hscalar, -⟩ := hget restObj (Option.some_get _).symm (by decide +kernel)
  have waits : capturingOverLevel.Waiting .twa ⟨0x10#8, 0#8, 0x0A15#16, 0#16⟩ [] 0x10 restGet := by
    unfold State.Waiting
    decide +kernel
  have hexec := hscalar (by decide +kernel) rfl restGet waits
  have shown : repliedStatus (exec (.get .twa ⟨0x10#8, 0#8, 0x0A15#16, 0#16⟩ []) capturingOverLevel) = some 0x0A#8 := by decide +kernel
  rw [hexec] at shown
  exact absurd shown (by decide +kernel)

end Sys2Proof.Proofs
end

section
/-!
PROOF. Admission: a packet that the SC admits enters its session, and its command acts or waits (R353 to R376, R389).
-/

namespace Sys2Proof.Machine.State

/-! ### What the checks of admission look at -/

/-- Two states that the checks 2 to 7 of a port's packet cannot tell apart: they differ in the port's pointer, in times, and in the counters of the session (R364). -/
structure AdmitsAlike (p : Port) (s t : State) : Prop where
  owner : t.owner = s.owner
  granting : t.granting = s.granting
  staged : t.staged = s.staged
  pubq : t.pubq = s.pubq
  armed : t.armed = s.armed
  rd : ∀ (f : Fld) (i : Nat), f.base ≠ Reg.TWI_PSTAT_PTR.base → i < 256 → t.rd f i = s.rd f i
  isOpen : (t.sess p).isOpen = (s.sess p).isOpen
  av : (t.sess p).av = (s.sess p).av
  outst : (t.sess p).outst = (s.sess p).outst
  claim : (t.sess p).claim = (s.sess p).claim

namespace AdmitsAlike

variable {p : Port} {s t : State}

theorem trans {u : State} (h : AdmitsAlike p s t) (g : AdmitsAlike p t u) : AdmitsAlike p s u where
  owner := g.owner.trans h.owner
  granting := g.granting.trans h.granting
  staged := g.staged.trans h.staged
  pubq := g.pubq.trans h.pubq
  armed := g.armed.trans h.armed
  rd f i hf hi := (g.rd f i hf hi).trans (h.rd f i hf hi)
  isOpen := g.isOpen.trans h.isOpen
  av := g.av.trans h.av
  outst := g.outst.trans h.outst
  claim := g.claim.trans h.claim

theorem refl (p : Port) (s : State) : AdmitsAlike p s s := ⟨rfl, rfl, rfl, rfl, rfl, fun _ _ _ _ => rfl, rfl, rfl, rfl, rfl⟩

/-- The pointer of a port is none of what the checks look at. -/
theorem ptr (p q : Port) (s : State) (n : Nat) : AdmitsAlike p s (s.wr Reg.TWI_PSTAT_PTR q.idx n) where
  owner := rfl
  granting := rfl
  staged := rfl
  pubq := rfl
  armed := rfl
  rd f i hf hi := rd_wr_ne _ _ (Ne.symm hf) (by cases q <;> decide) hi
  isOpen := by rw [sess_wr]
  av := by rw [sess_wr]
  outst := by rw [sess_wr]
  claim := by rw [sess_wr]

theorem setV (p : Port) (s : State) (x : Var) (i : Nat) (n : Int) : AdmitsAlike p s (s.setV x i n) where
  owner := rfl
  granting := rfl
  staged := rfl
  pubq := rfl
  armed := rfl
  rd _ _ _ _ := rfl
  isOpen := by rw [sess_setV]
  av := by rw [sess_setV]
  outst := by rw [sess_setV]
  claim := by rw [sess_setV]

/-- A change of the session that keeps whether it is open, its version, its commands in flight and its claim. -/
theorem updSess (p : Port) (s : State) {f : Session → Session} (hopen : ∀ x, (f x).isOpen = x.isOpen) (hav : ∀ x, (f x).av = x.av) (hout : ∀ x, (f x).outst = x.outst)
    (hclaim : ∀ x, (f x).claim = x.claim) : AdmitsAlike p s (s.updSess p f) where
  owner := owner_updSess ..
  granting := by cases p <;> rfl
  staged := by cases p <;> rfl
  pubq := by cases p <;> rfl
  armed := by cases p <;> rfl
  rd _ _ _ _ := rd_updSess ..
  isOpen := by rw [sess_updSess_same, hopen]
  av := by rw [sess_updSess_same, hav]
  outst := by rw [sess_updSess_same, hout]
  claim := by rw [sess_updSess_same, hclaim]

theorem renewLease (p : Port) (s : State) : AdmitsAlike p s s.renewLease := by
  unfold State.renewLease
  split <;> exact setV ..

variable (h : AdmitsAlike p s t)
include h

theorem mode : t.mode = s.mode := h.rd _ _ (by decide) (by decide)

theorem servedIl : t.servedIl = s.servedIl := by
  unfold State.servedIl
  rw [h.rd _ _ (by decide) (by decide), h.rd _ _ (by decide) (by decide), h.rd _ _ (by decide) (by decide)]

theorem ownerNow : t.ownerNow p = s.ownerNow p := by
  unfold State.ownerNow State.isOwner
  rw [h.owner, h.granting]

theorem published {f : Fld} {i : Nat} (hf : f.base ≠ Reg.TWI_PSTAT_PTR.base) (hi : i < 256) : t.published f i = s.published f i := by
  unfold State.published
  rw [h.pubq, h.armed, h.rd f i hf hi]

theorem stg {f : Fld} {i : Nat} (hf : f.base ≠ Reg.TWI_PSTAT_PTR.base) (hi : i < 256) : t.stg f i = s.stg f i := by
  unfold State.stg
  rw [h.staged, h.published hf hi]

/-- A field that a write could change is at another place than the pointer, which is read-only. -/
theorem keeps {f : Fld} {i : Nat} (hf : f.base = Reg.TWI_PSTAT_PTR.base → f.acc = .ro) (hi : i < 256) (v : Nat) : t.keeps f i v = s.keeps f i v := by
  by_cases hb : f.base = Reg.TWI_PSTAT_PTR.base
  · unfold State.keeps
    rw [hf hb]
  · unfold State.keeps
    rw [h.rd f i hb hi, h.stg hb hi]

end AdmitsAlike

/-- In the register map the place of the pointer is read-only, and no family has more than 256 instances. -/
theorem fams_ptr : ∀ fm ∈ fams, fm.count ≤ 256 ∧ ∀ f ∈ fm.fields, f.base = Reg.TWI_PSTAT_PTR.base → f.acc = .ro := by decide +kernel

/-- An object found is of a family of the register map, and a scalar one is one of its instances. -/
theorem findObj_fam {id : Nat} {o : Obj} (h : findObj id = some o) : o.fam ∈ fams ∧ (o.arrayed = false → o.base < o.fam.count) := by
  unfold findObj at h
  split at h
  · next fm hfm =>
    have hmem := List.mem_of_find?_eq_some hfm
    have hplace := List.find?_some hfm
    by_cases hs : fm.stride = 0
    · rw [if_pos hs] at h
      obtain rfl := Option.some.inj h
      simp only [hs, if_true, Bool.and_eq_true, decide_eq_true_eq] at hplace
      exact ⟨hmem, fun _ => by dsimp only; omega⟩
    · rw [if_neg hs] at h
      obtain rfl := Option.some.inj h
      exact ⟨hmem, fun g => absurd (bne_iff_ne.2 hs) (by unfold Obj.arrayed at g; rw [g]; exact Bool.false_ne_true)⟩
  · exact absurd h (by simp)

/-- The words of a SET are of a family of the register map and of one of its instances (R390). -/
theorem setData_fam {id i : Nat} {pl : List Byte} {o : Obj} {ws : List Nat} (h : setData id pl = some (o, i, ws)) : o.fam ∈ fams ∧ i < o.fam.count := by
  unfold setData at h
  split at h
  · exact absurd h (by simp)
  · next o' ho =>
    obtain ⟨hfam, hbase⟩ := findObj_fam ho
    split at h
    · split at h
      · next hl =>
        obtain ⟨rfl, rfl, -⟩ : o' = o ∧ _ = i ∧ _ = ws := by simpa using h
        exact ⟨hfam, hl.2⟩
      · exact absurd h (by simp)
    · next harr =>
      split at h
      · obtain ⟨rfl, rfl, -⟩ : o' = o ∧ _ = i ∧ _ = ws := by simpa using h
        exact ⟨hfam, hbase (by simpa using harr)⟩
      · exact absurd h (by simp)

/-- The word at an address is of a family of the register map and of one of its instances (R29). -/
theorem findAddr_fam {a i k : Nat} {fm : Fam} (h : findAddr a = some (fm, i, k)) : fm ∈ fams ∧ i < fm.count := by
  unfold findAddr at h
  dsimp only at h
  split at h
  · split at h
    · next o ho =>
      obtain ⟨hfam, hbase⟩ := findObj_fam ho
      split at h
      · exact absurd h (by simp)
      · next harr =>
        split at h
        · obtain ⟨rfl, rfl, -⟩ : o.fam = fm ∧ o.base = i ∧ _ = k := by simpa using h
          exact ⟨hfam, hbase (by simpa using harr)⟩
        · exact absurd h (by simp)
    · exact absurd h (by simp)
  · split at h
    · exact absurd h (by simp)
    · split at h
      · next f hf =>
        split at h
        · next hi =>
          obtain ⟨rfl, rfl, -⟩ : f = fm ∧ _ = i ∧ _ = k := by simpa using h
          exact ⟨List.mem_of_find?_eq_some hf, hi.1⟩
        · exact absurd h (by simp)
      · exact absurd h (by simp)

namespace AdmitsAlike

variable {p : Port} {s t : State} (h : AdmitsAlike p s t)
include h

theorem basicWord {fm : Fam} (hfm : fm ∈ fams) {i : Nat} (hi : i < fm.count) (k w : Nat) : t.basicWord fm i k w = s.basicWord fm i k w := by
  obtain ⟨hcount, hptr⟩ := fams_ptr fm hfm
  unfold State.basicWord
  rw [Bool.eq_iff_iff, List.all_eq_true, List.all_eq_true]
  refine forall₂_congr fun f hf => ?_
  rw [h.keeps (hptr f (List.mem_filter.1 hf).1) (by omega)]

theorem expertSet (id : Nat) (pl : List Byte) : t.expertSet id pl = s.expertSet id pl := by
  unfold State.expertSet
  cases hd : setData id pl with
  | none => rfl
  | some x =>
    obtain ⟨o, i, ws⟩ := x
    obtain ⟨hfam, hi⟩ := setData_fam hd
    simp only [h.basicWord hfam hi]

theorem expertPoke (pl : List Byte) : t.expertPoke pl = s.expertPoke pl := by
  unfold State.expertPoke
  refine congrArg Bool.not ?_
  rw [Bool.eq_iff_iff, List.all_eq_true, List.all_eq_true]
  refine forall₂_congr fun x _ => ?_
  cases ha : findAddr (leNat (pl.take 4) + 4 * x.2) with
  | none => rfl
  | some y =>
    obtain ⟨fm, i, k⟩ := y
    obtain ⟨hfam, hi⟩ := findAddr_fam ha
    simp only [h.basicWord hfam hi]

theorem isExpert (op obj : Nat) (pl : List Byte) : t.isExpert op obj pl = s.isExpert op obj pl := by
  unfold State.isExpert
  rw [h.expertSet, h.expertPoke]

theorem needsOwner (op obj : Nat) (pl : List Byte) : t.needsOwner p op obj pl = s.needsOwner p op obj pl := by
  have hfires : t.firesOwnJob p obj pl = s.firesOwnJob p obj pl := by
    unfold State.firesOwnJob
    by_cases hjob : 0x0B10 ≤ obj ∧ obj < 0x0B18
    · rw [h.rd _ _ (by decide) (by omega), h.rd _ _ (by decide) (by omega)]
    · have hno : (decide (0x0B10 ≤ obj) && decide (obj < 0x0B18)) = false := by
        rw [← Bool.decide_and, decide_eq_false hjob]
      rw [hno]
      rfl
  unfold State.needsOwner
  rw [hfires]

theorem needsAv (op obj : Nat) (pl : List Byte) (b : Nat) : t.needsAv op obj pl b = s.needsAv op obj pl b := by
  unfold State.needsAv
  rw [h.isExpert]

/-- The checks 2 to 7 come to the same (R364). -/
theorem admitCheck (b0 op obj : Nat) (pl : List Byte) : t.admitCheck p b0 op obj pl = s.admitCheck p b0 op obj pl := by
  have hxon : t.on Reg.EXPERT_CTL_XON = s.on Reg.EXPERT_CTL_XON := by rw [on_eq, on_eq, h.rd _ _ (by decide) (by decide)]
  unfold State.admitCheck
  simp only [h.isOpen, h.av, h.outst, h.claim, h.mode, h.servedIl, h.needsAv, h.needsOwner, h.ownerNow, h.isExpert, hxon]

end AdmitsAlike

/-! ### The packet of a row on its way to the checks -/

/-- The pointer of a two-wire port returns to 0 with every packet (R409). -/
def ptrReset (s : State) (p : Port) : State := if p = .hsp then s else s.wr Reg.TWI_PSTAT_PTR p.idx 0

/-- The session's clock restarts with a packet that passed its CRC check (R363). -/
def clocked (s : State) (p : Port) : State := s.updSess p (fun x => { x with lastGood := s.now })

/-- An owner's lease restarts with its packet (R374). -/
def leased (s : State) (p : Port) : State := if s.isOwner p then s.renewLease else s

/-- A gap in SEQ counts (R364). -/
def gapCounted (s : State) (p : Port) (op seq : Nat) : State :=
  if (s.sess p).isOpen = true ∧ op ≠ 0x01 ∧ seq ≠ ((s.sess p).lastSeq + 1) % 65536 then s.updSess p (fun x => { x with seqGap := min (x.seqGap + 1) 255 }) else s

/-- An admitted packet's SEQ and its credit are taken (R364, R369). -/
def spent (s : State) (p : Port) (op tag seq crc : Nat) : State :=
  s.updSess p (fun x => { x with
    lastSeq := if x.isOpen then seq else x.lastSeq,
    lastPkt := if x.isOpen then some (seq, op, tag, crc) else x.lastPkt,
    outst := if credited op then x.outst ++ [tag] else x.outst })

theorem entered_eq (s : State) (p : Port) (h : Hdr) (op : Nat) (pl : List Byte) :
    s.entered p h op pl = ((((s.ptrReset p).clocked p).leased p).gapCounted p op h.seq.toNat).spent p op h.tag.toNat h.seq.toNat (rowCrc h op pl) := rfl

theorem AdmitsAlike.ptrReset (s : State) (p : Port) : AdmitsAlike p s (s.ptrReset p) := by
  unfold State.ptrReset
  split
  · exact refl ..
  · exact ptr ..

theorem AdmitsAlike.clocked (s : State) (p : Port) : AdmitsAlike p s (s.clocked p) := updSess p s (fun _ => rfl) (fun _ => rfl) (fun _ => rfl) (fun _ => rfl)

theorem AdmitsAlike.leased (s : State) (p : Port) : AdmitsAlike p s (s.leased p) := by
  unfold State.leased
  split
  · exact renewLease ..
  · exact refl ..

theorem AdmitsAlike.gapCounted (s : State) (p : Port) (op seq : Nat) : AdmitsAlike p s (s.gapCounted p op seq) := by
  unfold State.gapCounted
  split
  · exact updSess p s (fun _ => rfl) (fun _ => rfl) (fun _ => rfl) (fun _ => rfl)
  · exact refl ..

theorem AdmitsAlike.scStopped {p : Port} {s t : State} (h : AdmitsAlike p s t) : t.scStopped = s.scStopped := by
  unfold State.scStopped
  rw [on_eq, on_eq, on_eq, on_eq, h.rd _ _ (by decide) (by decide), h.rd _ _ (by decide) (by decide), h.mode]

theorem sess_ptrReset (s : State) (p q : Port) : (s.ptrReset p).sess q = s.sess q := by
  unfold ptrReset
  split
  · rfl
  · exact sess_wr ..

theorem leaseOver_ptrReset (s : State) (p : Port) : (s.ptrReset p).leaseOver = s.leaseOver := by
  unfold ptrReset
  split <;> rfl

/-- A receive buffer filled and emptied again is as it was. -/
theorem rx_filled_emptied {s : State} {p : Port} (h : (s.sess p).rx = []) (l : List (List Byte)) :
    (s.updSess p (fun x => { x with rx := l })).updSess p (fun x => { x with rx := [] }) = s := by
  cases p
  case twa => exact congrArg (fun l : List (List Byte) => ({ s with twa := { s.twa with rx := l } } : State)) h.symm
  case twb => exact congrArg (fun l : List (List Byte) => ({ s with twb := { s.twb with rx := l } } : State)) h.symm
  case hsp => exact congrArg (fun l : List (List Byte) => ({ s with hsp := { s.hsp with rx := l } } : State)) h.symm

/-- An empty receive buffer takes a packet that the SC admits at once (R359). -/
theorem deliver_taken {s : State} {p : Port} (hsc : s.scStopped = false) (hrx : (s.sess p).rx = []) {bs : List Byte} (h10 : 10 ≤ bs.length) (h258 : bs.length ≤ 258) :
    s.deliver p bs = (s.ptrReset p).admitOne p bs := by
  have hbusy : s.portBusy p = false := by
    unfold portBusy
    rw [hsc, hrx]
    rfl
  have hrx' : ((s.ptrReset p).sess p).rx = [] := by rw [sess_ptrReset, hrx]
  unfold deliver
  rw [if_neg (portBusy_false hbusy)]
  refine (if_neg (by omega)).trans ?_
  show ((s.ptrReset p).updSess p (fun x => { x with rx := x.rx ++ [bs] })).admitAll p = _
  have hset : (s.ptrReset p).updSess p (fun x => { x with rx := x.rx ++ [bs] }) = (s.ptrReset p).updSess p (fun x => { x with rx := [bs] }) := by
    exact congrArg (fun l => (s.ptrReset p).setSess p { (s.ptrReset p).sess p with rx := l ++ [bs] }) hrx'
  have hstopped : ((s.ptrReset p).updSess p (fun x => { x with rx := [bs] })).scStopped = false :=
    ((AdmitsAlike.ptrReset s p).trans (.updSess p _ (f := fun x => { x with rx := [bs] }) (fun _ => rfl) (fun _ => rfl) (fun _ => rfl) (fun _ => rfl))).scStopped.trans hsc
  rw [hset]
  unfold admitAll
  rw [hstopped, if_neg Bool.false_ne_true, rx_filled_emptied hrx', sess_updSess_same]
  rfl

theorem sess_leased (s : State) (p q : Port) : (s.leased p).sess q = s.sess q := by
  unfold leased renewLease
  split
  · split <;> exact sess_setV ..
  · rfl

/-- A well-formed packet that is no retransmission and passes the checks is admitted (R355, R364). -/
theorem admitOne_admits {s : State} {p : Port} {h : Hdr} {op : Nat} {pl : List Byte} (hlease : s.leaseOver = false) (hop : op < 256) (hpl : pl.length ≤ 248)
    (hflags : bits h.verFlags.toNat 3 0 = 0) (hnew : (s.sess p).isOpen = true → (s.sess p).lastPkt ≠ some (h.seq.toNat, op, h.tag.toNat, rowCrc h op pl))
    (hcheck : s.admitCheck p h.verFlags.toNat op h.objId.toNat pl = none) :
    s.admitOne p (packet h.verFlags.toNat op h.tag.toNat h.objId.toNat h.seq.toNat pl) =
      ((((s.clocked p).leased p).gapCounted p op h.seq.toNat).spent p op h.tag.toNat h.seq.toNat (rowCrc h op pl)).admitted p (s.rowCmd p h op pl) := by
  have hn := packet_length h.verFlags.toNat op h.tag.toNat h.objId.toNat h.seq.toNat pl
  have h0 := packet_byte0 (op := op) (tag := h.tag.toNat) (obj := h.objId.toNat) (seq := h.seq.toNat) (pl := pl) h.verFlags.isLt
  have h1 := packet_opcode (b0 := h.verFlags.toNat) (tag := h.tag.toNat) (obj := h.objId.toNat) (seq := h.seq.toNat) (pl := pl) hop
  have h2 := packet_tag (b0 := h.verFlags.toNat) (op := op) (obj := h.objId.toNat) (seq := h.seq.toNat) (pl := pl) h.tag.isLt
  have h3 := packet_len (b0 := h.verFlags.toNat) (op := op) (tag := h.tag.toNat) (obj := h.objId.toNat) (seq := h.seq.toNat) (pl := pl) (by omega)
  have h4 := packet_objId (b0 := h.verFlags.toNat) (op := op) (tag := h.tag.toNat) (seq := h.seq.toNat) (pl := pl) h.objId.isLt
  have h6 := packet_seq (b0 := h.verFlags.toNat) (op := op) (tag := h.tag.toNat) (obj := h.objId.toNat) (pl := pl) h.seq.isLt
  have hbody := packet_payload (b0 := h.verFlags.toNat) (op := op) (tag := h.tag.toNat) (obj := h.objId.toNat) (seq := h.seq.toNat) (pl := pl)
  have hcrc : fieldOf (packet h.verFlags.toNat op h.tag.toNat h.objId.toNat h.seq.toNat pl) (pl.length + 8) 2 = rowCrc h op pl := by
    unfold fieldOf rowCrc
    rw [List.take_of_length_le (by rw [List.length_drop, hn]; omega), Nat.add_comm]
  have hgood : rowCrc h op pl = crc16 ((packet h.verFlags.toNat op h.tag.toNat h.objId.toNat h.seq.toNat pl).take (pl.length + 8)) := by
    rw [← hcrc, packet_take_body, packet_crc]
  generalize packet h.verFlags.toNat op h.tag.toNat h.objId.toNat h.seq.toNat pl = bs at *
  unfold fieldOf at h0 h1 h2 h3 h4 h6 hcrc
  unfold admitOne
  dsimp only
  rw [hlease, if_neg Bool.false_ne_true]
  have e8 : bs.length - 2 = pl.length + 8 := by omega
  have e10 : bs.length - 10 = pl.length := by omega
  simp only [e8, e10, h0, h1, h2, h3, h4, h6, hcrc, hbody]
  rw [if_neg (by rw [hflags, ← hgood]; omega)]
  have hfresh : ¬ ((((s.clocked p).leased p).sess p).isOpen = true ∧ (((s.clocked p).leased p).sess p).lastPkt = some (h.seq.toNat, op, h.tag.toNat, rowCrc h op pl)) := by
    rw [sess_leased, clocked, sess_updSess_same]
    exact fun g => hnew g.1 g.2
  refine (if_neg hfresh).trans ?_
  have hpass : (((s.clocked p).leased p).gapCounted p op h.seq.toNat).admitCheck p h.verFlags.toNat op h.objId.toNat pl = none :=
    ((((AdmitsAlike.clocked s p).trans (.leased ..)).trans (.gapCounted ..)).admitCheck ..).trans hcheck
  split
  · next st hst => exact absurd (hst.symm.trans hpass) (Option.some_ne_none st)
  · rfl

theorem rowCmd_ptrReset (s : State) (p : Port) (h : Hdr) (op : Nat) (pl : List Byte) : (s.ptrReset p).rowCmd p h op pl = s.rowCmd p h op pl := by
  have halike := AdmitsAlike.ptrReset s p
  unfold rowCmd
  rw [halike.ownerNow, on_eq, on_eq, halike.rd _ _ (by decide) (by decide)]

/-- A packet that the SC admits enters its session, and its command acts or waits (R359, R364). -/
theorem deliver_admits {s : State} {p : Port} {h : Hdr} {op : Nat} {pl : List Byte} (hadm : s.Admits p h op pl) :
    s.deliver p (packet h.verFlags.toNat op h.tag.toNat h.objId.toNat h.seq.toNat pl) = (s.entered p h op pl).admitted p (s.rowCmd p h op pl) := by
  obtain ⟨-, hsc, hlease, hrx, hop, hpl, hflags, hnew, hcheck⟩ := hadm
  have hn := packet_length h.verFlags.toNat op h.tag.toNat h.objId.toNat h.seq.toNat pl
  rw [deliver_taken hsc hrx (by omega) (by omega), entered_eq, ← rowCmd_ptrReset]
  refine admitOne_admits ((leaseOver_ptrReset s p).trans hlease) hop hpl hflags ?_ (((AdmitsAlike.ptrReset s p).admitCheck ..).trans hcheck)
  rw [sess_ptrReset]
  exact hnew

/-- A command that acts later joins the end of its session's queue (R364). -/
theorem admitted_later {s : State} {p : Port} {c : Cmd} (hop : actsAtAdmission c.opcode = false) (hact : unknownAct c.opcode c.payload = false) :
    s.admitted p c = s.updSess p (fun x => { x with queue := x.queue ++ [c] }) := by
  obtain ⟨h1, h2, h3, h4, h5, h7, h8⟩ : c.opcode ≠ 1 ∧ c.opcode ≠ 2 ∧ c.opcode ≠ 3 ∧ c.opcode ≠ 4 ∧ c.opcode ≠ 5 ∧ c.opcode ≠ 7 ∧ c.opcode ≠ 8 := by
    simpa [actsAtAdmission] using hop
  unfold admitted
  rw [if_neg h1, if_neg h2, if_neg h3, if_neg h4, if_neg h5, if_neg h7, if_neg h8, hact, if_neg Bool.false_ne_true]

end Sys2Proof.Machine.State

namespace Sys2Proof.Proofs

open Machine Machine.State

/-- Settles O42: the packet passes from the receive buffer to the checks at once, and its command joins the queue. -/
theorem packetsAreAdmitted : Obligations.PacketsAreAdmitted := by
  intro p h op pl s hadm hop hact bs
  have hqueued {t : State} (ht : t.Admits p h op pl) : t.deliver p bs = (t.entered p h op pl).updSess p (fun x => { x with queue := x.queue ++ [t.rowCmd p h op pl] }) :=
    (deliver_admits ht).trans (admitted_later hop hact)
  refine ⟨fun hp => ?_, fun hp => ?_⟩
  · exact act_of_eq (f := fun s => s.pointerWrite p 0 bs) hadm.1 ((pointerWrite_packet s hp (List.ne_nil_of_length_pos (by rw [packet_length]; omega))).trans (hqueued hadm))
  · subst hp
    intro u
    have hout : ({ s with busOut := s.hspHead.take 1 ++ readOut [] bs.length } : State) = u := by
      rw [hspHead, List.take_take, readOut_nil]
      rfl
    exact act_of_eq (f := fun s => ({ s with busOut := s.hspHead.take 1 ++ readOut [] bs.length } : State).deliver .hsp bs) hadm.1 ((congrArg (fun t : State => t.deliver .hsp bs) hout).trans (hqueued (t := u) hadm))

end Sys2Proof.Proofs
end

section
/-!
PROOF. The session opcodes that act at admission (R369, R373 to R375, R389).
-/

namespace Sys2Proof.Machine.State

/-! ### What admission leaves -/

/-- What admission leaves of commands and claims: the time, who owns and who is granted, and every session's claim and queue. -/
structure SameCommands (s t : State) : Prop where
  now : t.now = s.now
  owner : t.owner = s.owner
  granting : t.granting = s.granting
  claim : ∀ p, (t.sess p).claim = (s.sess p).claim
  queue : ∀ p, (t.sess p).queue = (s.sess p).queue

namespace SameCommands

variable {s t u : State}

theorem refl (s : State) : SameCommands s s := ⟨rfl, rfl, rfl, fun _ => rfl, fun _ => rfl⟩

theorem trans (h : SameCommands s t) (g : SameCommands t u) : SameCommands s u :=
  ⟨g.now.trans h.now, g.owner.trans h.owner, g.granting.trans h.granting, fun p => (g.claim p).trans (h.claim p), fun p => (g.queue p).trans (h.queue p)⟩

/-- A change of one session that keeps its claim and its queue. -/
theorem updSess (s : State) (p : Port) {f : Session → Session} (hclaim : ∀ x, (f x).claim = x.claim) (hqueue : ∀ x, (f x).queue = x.queue) : SameCommands s (s.updSess p f) where
  now := now_updSess ..
  owner := owner_updSess ..
  granting := by cases p <;> rfl
  claim q := by
    rcases eq_or_ne p q with rfl | h
    · rw [sess_updSess_same, hclaim]
    · rw [sess_updSess_ne _ _ h]
  queue q := by
    rcases eq_or_ne p q with rfl | h
    · rw [sess_updSess_same, hqueue]
    · rw [sess_updSess_ne _ _ h]

theorem ptrReset (s : State) (p : Port) : SameCommands s (s.ptrReset p) := by
  unfold State.ptrReset
  split
  · exact refl s
  · exact ⟨rfl, rfl, rfl, fun q => by rw [sess_wr], fun q => by rw [sess_wr]⟩

theorem clocked (s : State) (p : Port) : SameCommands s (s.clocked p) := updSess s p (fun _ => rfl) (fun _ => rfl)

theorem spent (s : State) (p : Port) (op tag seq crc : Nat) : SameCommands s (s.spent p op tag seq crc) := updSess s p (fun _ => rfl) (fun _ => rfl)

theorem setV (s : State) (x : Var) (i : Nat) (n : Int) : SameCommands s (s.setV x i n) := ⟨rfl, rfl, rfl, fun q => by rw [sess_setV], fun q => by rw [sess_setV]⟩

theorem leased (s : State) (p : Port) : SameCommands s (s.leased p) := by
  unfold State.leased renewLease
  split
  · split <;> exact setV ..
  · exact refl s

theorem gapCounted (s : State) (p : Port) (op seq : Nat) : SameCommands s (s.gapCounted p op seq) := by
  unfold State.gapCounted
  split
  · exact updSess s p (fun _ => rfl) (fun _ => rfl)
  · exact refl s

theorem entered (s : State) (p : Port) (h : Hdr) (op : Nat) (pl : List Byte) : SameCommands s (s.entered p h op pl) := by
  rw [entered_eq]
  exact (((ptrReset s p).trans (clocked ..)).trans (leased ..)).trans ((gapCounted ..).trans (spent ..))

theorem bestClaim (h : SameCommands s t) (ok : Claim → Bool) : t.bestClaim ok = s.bestClaim ok := bestClaim_of_claims h.claim ok

theorem isOwner (h : SameCommands s t) (p : Port) : t.isOwner p = s.isOwner p := congrArg (· == some p) h.owner

end SameCommands

theorem isOwner_iff {s : State} {p : Port} : s.isOwner p = true ↔ s.owner = some p := beq_iff_eq

/-- The packet of an owner whose GRANT does not wait restarts the lease (R374). -/
theorem tLease_entered {s : State} {p : Port} (ho : s.owner = some p) (hg : s.granting = none) (h : Hdr) (op : Nat) (pl : List Byte) :
    (s.entered p h op pl).v .tLease = s.now + 1200000000 + 1 := by
  have hsame := (SameCommands.ptrReset s p).trans (SameCommands.clocked (s.ptrReset p) p)
  have hleased : (((s.ptrReset p).clocked p).leased p).v .tLease = s.now + 1200000000 + 1 := by
    unfold leased renewLease
    rw [if_pos (isOwner_iff.2 (hsame.owner.trans ho)), if_neg (by rw [hsame.granting, hg]; simp), v_setV_same, hsame.now]
  rw [entered_eq, spent, v_updSess, gapCounted]
  split
  · rw [v_updSess, hleased]
  · exact hleased

/-! ### The opcodes -/

section
variable {s : State} {p : Port} {c : Cmd} (ho : c.obj = 0xFFFF)
include ho

theorem doHeartbeat_ok (hl : c.payload.length = 0) : s.doHeartbeat p c = s.reply p false c stOk (leBytes 2 (if s.isOwner p then s.leaseMs else 0)) :=
  if_neg (by omega)

theorem doCredits_report (hl : c.payload = [0#8]) :
    s.doCredits p c = s.reply p false c stOk (leBytes 1 (s.sess p).cred ++ leBytes 1 (s.sess p).outst.length ++ (s.sess p).outst.flatMap (leBytes 1)) := by
  unfold doCredits
  rw [hl, ho]
  rfl

theorem doCredits_reclaim (hl : c.payload = [1#8]) :
    s.doCredits p c = (s.updSess p Session.reclaim).reply p false c stOk (leBytes 1 ((s.updSess p Session.reclaim).sess p).cred ++
      leBytes 1 ((s.updSess p Session.reclaim).sess p).outst.length ++ ((s.updSess p Session.reclaim).sess p).outst.flatMap (leBytes 1)) := by
  unfold doCredits
  rw [hl, ho]
  rfl

end

/-- The priority and the nonce that a CLAIM brings (R374). -/
def claims (s : State) (p : Port) (pl : List Byte) : State := s.updSess p (fun x => { x with prio := leNat (pl.take 1), nonce := leNat (pl.drop 1) })

section
variable {s : State} {p : Port} {c : Cmd} (ho : c.obj = 0xFFFF) (hl : c.payload.length = 5)
include ho hl

/-- A CLAIM of the owner renews the lease (R374). -/
theorem doClaim_owner (howner : s.owner = some p) : s.doClaim p c = (s.claims p c.payload).renewLease.reply p true c stOk [] := by
  have hown : (s.claims p c.payload).isOwner p = true := isOwner_iff.2 ((owner_updSess ..).trans howner)
  unfold doClaim
  exact (if_neg (by omega)).trans (if_pos hown)

/-- Without an owner the claimant becomes owner (R374). -/
theorem doClaim_free (howner : s.owner = none) : s.doClaim p c = ((s.claims p c.payload).passOwner (some p) meansClaim).reply p true c stOk [] := by
  have hnone : (s.claims p c.payload).owner = none := (owner_updSess ..).trans howner
  have hown : ¬ (s.claims p c.payload).isOwner p = true := fun g => by simp [isOwner_iff.1 g] at hnone
  unfold doClaim
  exact (if_neg (by omega)).trans ((if_neg hown).trans (if_pos (by rw [← Option.isNone_iff_eq_none] at hnone; exact hnone)))

/-- Against another owner the claim waits (R374). -/
theorem doClaim_waits {q : Port} (howner : s.owner = some q) (hq : q ≠ p) (hclaim : (s.sess p).claim = none) :
    s.doClaim p c = ((s.claims p c.payload).updSess p (fun x => { x with claim := some ⟨leNat (c.payload.take 1), leNat (c.payload.drop 1), c.tag, s.now⟩ })).reply p true c stAccepted [] := by
  have hsome : (s.claims p c.payload).owner = some q := (owner_updSess ..).trans howner
  have hown : ¬ (s.claims p c.payload).isOwner p = true := fun g => hq (Option.some.inj (hsome.symm.trans (isOwner_iff.1 g)))
  have hold : ((s.claims p c.payload).sess p).claim = none := by
    unfold claims
    rw [sess_updSess_same]
    exact hclaim
  have hnow : (s.claims p c.payload).now = s.now := now_updSess ..
  unfold doClaim
  refine (if_neg (by omega)).trans ((if_neg hown).trans ((if_neg (by rw [show (State.updSess s p _).owner = some q from hsome]; simp)).trans ?_))
  rw [← hnow, show (State.sess (State.updSess s p _) p).claim = none from hold]
  rfl

end

section
variable {s : State} {p : Port} {c : Cmd} (ho : c.obj = 0xFFFF) (hl : c.payload.length = 1)
include ho hl

/-- YIELD of a claimant withdraws its claim (R375). -/
theorem doYield_claimant (howner : s.owner ≠ some p) (ht : leNat c.payload ≤ 2 ∨ leNat c.payload = 0xFF) :
    s.doYield p c = ((s.endClaim p stFailed 0x09).reply p true c stOk []).checkGrant := by
  have hown : ¬ s.isOwner p = true := fun g => howner (isOwner_iff.1 g)
  unfold doYield
  exact (if_neg (by omega)).trans (if_pos hown)

/-- YIELD to anyone passes ownership to the best claim (R375). -/
theorem doYield_any (howner : s.owner = some p) (ht : leNat c.payload = 0xFF) :
    s.doYield p c = (s.passOwner (s.bestClaim (fun _ => true)) meansYield).reply p true c stOk [] := by
  have hown : s.isOwner p = true := isOwner_iff.2 howner
  unfold doYield
  exact (if_neg (by omega)).trans ((if_neg (not_not.2 hown)).trans (if_pos ht))

/-- YIELD to a port that claims passes ownership to it (R375). -/
theorem doYield_to (howner : s.owner = some p) (ht : leNat c.payload ≤ 2) (hclaim : (s.sess (Port.ofIdx (leNat c.payload))).claim.isSome = true) :
    s.doYield p c = (s.passOwner (some (Port.ofIdx (leNat c.payload))) meansYield).reply p true c stOk [] := by
  have hown : s.isOwner p = true := isOwner_iff.2 howner
  unfold doYield
  exact (if_neg (by omega)).trans ((if_neg (not_not.2 hown)).trans ((if_neg (by omega)).trans (if_pos hclaim)))

/-- ABORT of a command that waits takes it out of the queue (R373). -/
theorem doAbort_queued {d : Cmd} (hd : (s.sess p).queue.find? (fun d => d.tag == leNat c.payload) = some d) :
    s.doAbort p c = ((s.updSess p (fun x => { x with queue := x.queue.erase d })).reply p true d stFailed [0x01#8]).reply p true c stOk [] := by
  unfold doAbort
  refine (if_neg (by omega)).trans ?_
  rw [hd]

/-- ABORT of a long operation that ends at once (R373). -/
theorem doAbort_long (hd : (s.sess p).queue.find? (fun d => d.tag == leNat c.payload) = none) (hclaim : (s.sess p).claim = none) (hgrant : s.granting = none) {t : State}
    (hlong : s.abortLong p (leNat c.payload) = some (t, 0)) : s.doAbort p c = t.reply p true c stOk [] := by
  unfold doAbort
  refine (if_neg (by omega)).trans ?_
  rw [hd, hclaim, hgrant, hlong]
  exact (if_neg Bool.false_ne_true).trans (if_neg fun g => Bool.false_ne_true g.2)

end

/-- GRANT to a port that claims waits, and the lease stands still (R375). -/
theorem doGrant_waits {s : State} {p q : Port} {c : Cmd} (ho : c.obj = 0xFFFF) (hl : c.payload.length = 4) (hq : s.bestClaim (fun d => d.nonce == leNat c.payload) = some q) :
    s.doGrant p c = { s.setV .leaseLeft 0 (s.v .tLease - 1 - s.now) with granting := some (q, c) } := by
  unfold doGrant
  refine (if_neg (by omega)).trans ?_
  rw [hq]

/-- A command that requires ownership passes the checks only if its session acts as owner (R364, R377). -/
theorem ownerNow_of_admitCheck {s : State} {p : Port} {b0 op obj : Nat} {pl : List Byte} (h : s.admitCheck p b0 op obj pl = none) (hneeds : s.needsOwner p op obj pl = true) :
    s.ownerNow p = true := by
  by_contra hno
  unfold admitCheck at h
  dsimp only at h
  rw [if_pos (⟨hneeds, hno⟩ : s.needsOwner p op obj pl = true ∧ ¬ s.ownerNow p = true)] at h
  repeat' split at h
  all_goals exact absurd h (Option.some_ne_none _)

/-- Who sends GRANT is the owner, and no GRANT of its own waits (R375). -/
theorem granting_of_admits {s : State} {p : Port} {h : Hdr} {pl : List Byte} (hadm : s.Admits p h 0x04 pl) : s.owner = some p ∧ s.granting = none := by
  obtain ⟨-, -, -, -, -, -, -, -, hcheck⟩ := hadm
  obtain ⟨howner, hgrant⟩ := Bool.and_eq_true_iff.1 (ownerNow_of_admitCheck hcheck rfl)
  exact ⟨isOwner_iff.1 howner, Option.isNone_iff_eq_none.1 hgrant⟩

/-- A session row whose packet is admitted does what its opcode does at admission (R370). -/
theorem sessionRow_admitted {row : Instr} {op : Nat} {s : State} {p : Port} {h : Hdr} {pl : List Byte} (hrow : exec row s = act s (sessionRow op p h pl)) (hadm : s.Admits p h op pl)
    {t : State} (ht : (s.entered p h op pl).admitted p (s.rowCmd p h op pl) = t) : exec row s = .next t.after :=
  hrow.trans ((act_after hadm.1).trans (congrArg (fun u : State => Host.Outcome.next u.after) ((deliver_admits hadm).trans ht)))

end Sys2Proof.Machine.State

namespace Sys2Proof.Proofs

open Machine Machine.State

/-- Settles O44: what admission itself does leaves owner, claims and queues, so each opcode finds them as they were. -/
theorem sessionRowsAct : Obligations.SessionRowsAct := by
  intro p h s hobj
  have hno : h.objId.toNat = 0xFFFF := by rw [hobj]; rfl
  have hone (n : Byte) : leNat [n] = n.toNat := by simp [leNat]
  refine ⟨fun hadm => ?heartbeat, fun hadm => ?report, fun hadm => ?reclaim, fun pl hl hadm => ?claim, fun n hadm => ?yield, fun pl q hl hadm hq => ?grant, fun n hadm => ?abort⟩
  case heartbeat => exact sessionRow_admitted rfl hadm (doHeartbeat_ok (c := s.rowCmd p h 0x05 []) hno rfl)
  case report => exact sessionRow_admitted rfl hadm (doCredits_report (c := s.rowCmd p h 0x08 [0#8]) hno rfl)
  case reclaim => exact sessionRow_admitted rfl hadm (doCredits_reclaim (c := s.rowCmd p h 0x08 [1#8]) hno rfl)
  case claim =>
    have hsame := SameCommands.entered s p h 0x02 pl
    refine ⟨fun ho => ?_, fun ho => ?_, fun q ho hq hclaim => ?_⟩
    · exact sessionRow_admitted rfl hadm (doClaim_free (c := s.rowCmd p h 0x02 pl) hno hl (hsame.owner.trans ho))
    · exact sessionRow_admitted rfl hadm (doClaim_owner (c := s.rowCmd p h 0x02 pl) hno hl (hsame.owner.trans ho))
    · rw [← hsame.now]
      exact sessionRow_admitted rfl hadm (doClaim_waits (c := s.rowCmd p h 0x02 pl) hno hl (hsame.owner.trans ho) hq ((hsame.claim p).trans hclaim))
  case yield =>
    have hsame := SameCommands.entered s p h 0x03 [n]
    refine ⟨fun ho hn => ?_, fun ho hn hclaim => ?_, fun ho hn => ?_⟩
    · exact sessionRow_admitted rfl hadm (doYield_any (c := s.rowCmd p h 0x03 [n]) hno rfl (hsame.owner.trans ho) (by rw [hn]; rfl))
    · rw [← hone n] at hn hclaim ⊢
      exact sessionRow_admitted rfl hadm (doYield_to (c := s.rowCmd p h 0x03 [n]) hno rfl (hsame.owner.trans ho) hn ((congrArg Option.isSome (hsame.claim _)).trans hclaim))
    · refine sessionRow_admitted rfl hadm (doYield_claimant (c := s.rowCmd p h 0x03 [n]) hno rfl (fun g => ho (hsame.owner.symm.trans g)) ?_)
      exact hn.imp (fun g => (hone n).trans_le g) (fun g => by rw [g]; rfl)
  case grant =>
    have hsame := SameCommands.entered s p h 0x04 pl
    obtain ⟨howner, hgrant⟩ := granting_of_admits hadm
    have hlease : ((s.entered p h 0x04 pl).vn .tLease : Int) = (s.entered p h 0x04 pl).v .tLease := by
      rw [vn_eq, tLease_entered howner hgrant]
      omega
    intro u
    rw [hlease, ← hsame.now]
    exact sessionRow_admitted rfl hadm (doGrant_waits (c := s.rowCmd p h 0x04 pl) hno hl ((hsame.bestClaim _).trans hq))
  case abort =>
    have hsame := SameCommands.entered s p h 0x07 [n]
    refine ⟨fun d hd => ?_, fun t hd hclaim hgrant hlong => ?_⟩
    · rw [← hone n, ← hsame.queue] at hd
      exact sessionRow_admitted rfl hadm (doAbort_queued (c := s.rowCmd p h 0x07 [n]) hno rfl hd)
    · rw [← hone n, ← hsame.queue] at hd
      rw [← hone n] at hlong
      exact sessionRow_admitted rfl hadm (doAbort_long (c := s.rowCmd p h 0x07 [n]) hno rfl hd ((hsame.claim p).trans hclaim) (hsame.granting.trans hgrant) hlong)

end Sys2Proof.Proofs
end

section
/-!
PROOF. Which sessions are open: nothing that a mode entry, a capture or a rail does opens or closes one (R363).
-/

namespace Sys2Proof.Machine.State

/-- Which sessions are open, port by port. -/
def openSessions (s : State) : Bool × Bool × Bool := (s.twa.isOpen, s.twb.isOpen, s.hsp.isOpen)

theorem isOpen_of_openSessions {s t : State} (h : t.openSessions = s.openSessions) (p : Port) : (t.sess p).isOpen = (s.sess p).isOpen := by
  obtain ⟨h1, h2, h3⟩ : t.twa.isOpen = s.twa.isOpen ∧ t.twb.isOpen = s.twb.isOpen ∧ t.hsp.isOpen = s.hsp.isOpen := by
    simpa only [openSessions, Prod.mk.injEq] using h
  cases p
  · exact h1
  · exact h2
  · exact h3

/-! ### Words, times, records and causes -/

@[simp] theorem openSessions_ite {c : Prop} [Decidable c] {a b : State} : (if c then a else b).openSessions = if c then a.openSessions else b.openSessions := apply_ite ..

/-- Steps along a list that each leave the sessions open or closed leave them so. -/
theorem openSessions_foldl {α : Type} {f : State → α → State} (h : ∀ t a, (f t a).openSessions = t.openSessions) (l : List α) (s : State) : (l.foldl f s).openSessions = s.openSessions := by
  induction l generalizing s with
  | nil => rfl
  | cons a l ih => exact (ih _).trans (h s a)

@[simp] theorem openSessions_wr (s : State) (f : Fld) (i n : Nat) : (s.wr f i n).openSessions = s.openSessions := rfl
@[simp] theorem openSessions_wrB (s : State) (f : Fld) (i : Nat) (b : Bool) : (s.wrB f i b).openSessions = s.openSessions := rfl
@[simp] theorem openSessions_bump (s : State) (f : Fld) (i n : Nat) : (s.bump f i n).openSessions = s.openSessions := rfl
@[simp] theorem openSessions_setV (s : State) (x : Var) (i : Nat) (n : Int) : (s.setV x i n).openSessions = s.openSessions := rfl
@[simp] theorem openSessions_setOn (s : State) (x : Var) (i : Nat) (b : Bool) : (s.setOn x i b).openSessions = s.openSessions := rfl

/-- A change of one session that leaves it open or closed. -/
theorem openSessions_updSess (s : State) (p : Port) {f : Session → Session} (h : ∀ x, (f x).isOpen = x.isOpen) : (s.updSess p f).openSessions = s.openSessions := by
  cases p <;> simp [updSess, setSess, openSessions, State.sess, h]

theorem openSessions_updAll (s : State) {f : Session → Session} (h : ∀ x, (f x).isOpen = x.isOpen) : (s.updAll f).openSessions = s.openSessions :=
  (openSessions_updSess _ _ h).trans ((openSessions_updSess _ _ h).trans (openSessions_updSess _ _ h))

@[simp] theorem openSessions_irq (s : State) (n : Nat) : (s.irq n).openSessions = s.openSessions := by
  obtain ⟨u, h⟩ := s.irq_eq n
  rw [h]
  rfl

@[simp] theorem openSessions_event (s : State) (c sev : Nat) (d : List Byte) : (s.event c sev d).openSessions = s.openSessions := by
  unfold State.event
  dsimp only
  split <;> rfl

@[simp] theorem openSessions_alert (s : State) (b : Nat) : (s.alert b).openSessions = s.openSessions := openSessions_updAll s fun x => by split <;> rfl

@[simp] theorem openSessions_alertPort (s : State) (p : Port) (b : Nat) : (s.alertPort p b).openSessions = s.openSessions := openSessions_updSess s p fun x => by split <;> rfl

theorem isOpen_countRef (x : Session) (st : Nat) : (x.countRef st).isOpen = x.isOpen := by unfold Session.countRef; split <;> rfl

theorem isOpen_putEntry (x : Session) (e : Entry) : (x.putEntry e).isOpen = x.isOpen := by unfold Session.putEntry; split <;> rfl

theorem isOpen_putReply (x : Session) (k : Bool) (r : Reply) : (x.putReply k r).isOpen = x.isOpen := by
  unfold Session.putReply
  split
  · rfl
  · split <;> rfl

@[simp] theorem openSessions_complete (s : State) (a b c d e : Nat) : (s.complete a b c d e).openSessions = s.openSessions := by
  unfold complete
  split
  · rfl
  · refine openSessions_updSess s _ fun x => ?_
    split
    · rw [isOpen_countRef, isOpen_putEntry]
    · rfl

@[simp] theorem openSessions_reply (s : State) (p : Port) (k : Bool) (c : Cmd) (st : Nat) (d : List Byte) : (s.reply p k c st d).openSessions = s.openSessions :=
  openSessions_updSess (f := fun x => (x.putReply k ⟨s.finCtr, c.tag, packet ((if c.opcode = 1 ∨ ¬ (s.sess p).isOpen then 1 else (s.sess p).av) * 16 + 1) c.opcode c.tag c.obj c.seq (leBytes 1 st ++ d)⟩).countRef st)
    s p fun x => by rw [isOpen_countRef, isOpen_putReply]

/-! ### Captures -/

@[simp] theorem openSessions_putWord (s : State) (a w : Nat) : (s.putWord a w).openSessions = s.openSessions := by
  unfold putWord putBytes
  exact openSessions_foldl (fun t x => by rfl) _ s

@[simp] theorem openSessions_capIndex (s : State) (c : Nat) : (s.capIndex c).openSessions = s.openSessions := by simp [capIndex]

@[simp] theorem openSessions_jobProgress (s : State) (j : Nat) : (s.jobProgress j).openSessions = s.openSessions := by simp [jobProgress]

@[simp] theorem openSessions_markTrigger (s : State) (j : Nat) : (s.markTrigger j).openSessions = s.openSessions := by
  unfold markTrigger
  dsimp only
  split
  · exact (openSessions_jobProgress ..).trans ((openSessions_irq ..).trans (openSessions_foldl (fun t c => by simp) _ _))
  · rfl

@[simp] theorem openSessions_partGroup (s : State) (c w k : Nat) : (s.partGroup c w k).openSessions = s.openSessions := by simp [partGroup]

@[simp] theorem openSessions_levelTrigger (s : State) (c w : Nat) : (s.levelTrigger c w).openSessions = s.openSessions := by simp [levelTrigger]

@[simp] theorem openSessions_putSample (s : State) (c w : Nat) : (s.putSample c w).openSessions = s.openSessions := by
  unfold putSample
  simp

@[simp] theorem openSessions_takeSample (s : State) (c w : Nat) : (s.takeSample c w).openSessions = s.openSessions := by simp [takeSample]

@[simp] theorem openSessions_putRun (s : State) (c w m : Nat) : (s.putRun c w m).openSessions = s.openSessions := by
  have hsamples : ((List.range (min m (max 1 (s.recSize c)))).foldl (fun s _ => if s.recording c then s.putSample c w else s) s).openSessions = s.openSessions :=
    openSessions_foldl (fun t _ => by simp) _ s
  unfold putRun
  dsimp only
  split
  · exact (openSessions_capIndex ..).trans hsamples
  · exact hsamples

@[simp] theorem openSessions_takeRun (s : State) (c w k : Nat) : (s.takeRun c w k).openSessions = s.openSessions := by simp [takeRun]

@[simp] theorem openSessions_capSync (s : State) : s.capSync.openSessions = s.openSessions := openSessions_foldl (fun t c => by simp [cmpFill]) _ s

@[simp] theorem openSessions_capTrigger (s : State) (a b : Nat) : (s.capTrigger a b).openSessions = s.openSessions := openSessions_foldl (fun t c => by simp [triggerJob]) _ s

@[simp] theorem openSessions_loseTokens (s : State) (a n : Nat) : (s.loseTokens a n).openSessions = s.openSessions := by
  unfold loseTokens
  dsimp only
  rw [openSessions_foldl (fun t i => by simp)]
  rfl

@[simp] theorem openSessions_freeChan (s : State) (c : Nat) : (s.freeChan c).openSessions = s.openSessions := by
  unfold freeChan
  dsimp only
  rw [openSessions_foldl (fun t x => by simp), openSessions_foldl (fun t f => by simp)]
  simp [freeSpectrum]

@[simp] theorem openSessions_freeHolder (s : State) (c : Nat) : (s.freeHolder c).openSessions = s.openSessions := openSessions_foldl (fun t c => by simp) _ s

@[simp] theorem openSessions_spectra (s : State) (l : List Spectrum) : ({ s with spectra := l } : State).openSessions = s.openSessions := rfl

@[simp] theorem openSessions_freeJob (s : State) (c : Nat) : (s.freeJob c).openSessions = s.openSessions := by
  unfold freeJob
  dsimp only
  rw [openSessions_spectra, openSessions_foldl (fun t f => by simp), openSessions_foldl (fun t f => by simp)]

@[simp] theorem openSessions_releaseJobs (s : State) (p : Port) : (s.releaseJobs p).openSessions = s.openSessions := openSessions_foldl (fun t c => by simp) _ s

/-! ### The Cue link, the Hamper and the store -/

@[simp] theorem openSessions_outcome (s : State) (r fid out : Nat) : (s.outcome r fid out).openSessions = s.openSessions := by
  have hfacks (t : State) (l : List Fack) : ({ t with facks := l } : State).openSessions = t.openSessions := rfl
  simp [outcome, hfacks]

@[simp] theorem openSessions_liftTo (s : State) (r : Nat) (x : Int) (t1 : Nat) : (s.liftTo r x t1).openSessions = s.openSessions := by simp [liftTo]

@[simp] theorem openSessions_closeWindow (s : State) (r out : Nat) : (s.closeWindow r out).openSessions = s.openSessions := by simp [closeWindow]

@[simp] theorem openSessions_closeForecast (s : State) (r : Nat) : (s.closeForecast r).openSessions = s.openSessions := by
  unfold closeForecast
  dsimp only
  rw [openSessions_foldl (fun t x => by simp)]
  simp

@[simp] theorem openSessions_cueTimers (s : State) : s.cueTimers.openSessions = s.openSessions := rfl

@[simp] theorem openSessions_cueFollows (s : State) (m : Nat) : (s.cueFollows m).openSessions = s.openSessions := by
  have hclosed : ((List.range 4).foldl (fun s r => s.closeWindow r outClosed) s).openSessions = s.openSessions := openSessions_foldl (fun t r => by simp) _ s
  simp [cueFollows, hclosed]

@[simp] theorem openSessions_throttleTimer (s : State) : s.throttleTimer.openSessions = s.openSessions := by simp [throttleTimer]

@[simp] theorem openSessions_capRefresh (s : State) (r : Nat) : (s.capRefresh r).openSessions = s.openSessions := by simp [capRefresh]

@[simp] theorem openSessions_throttleRefresh (s : State) (r : Nat) : (s.throttleRefresh r).openSessions = s.openSessions := by simp [throttleRefresh, raiseCap, dropCap]

@[simp] theorem openSessions_headroomEnd (s : State) : s.headroomEnd.openSessions = s.openSessions := by
  unfold headroomEnd
  split
  · dsimp only
    rw [openSessions_foldl (fun t r => by simp [dropCap])]
    simp
  · rfl

@[simp] theorem openSessions_relaxCheck (s : State) : s.relaxCheck.openSessions = s.openSessions := by
  unfold relaxCheck
  split
  · split
    · exact openSessions_setV ..
    · rfl
  · exact (openSessions_setV ..).trans (openSessions_setV ..)

@[simp] theorem openSessions_showAmode (s : State) (m : Nat) : (s.showAmode m).openSessions = s.openSessions := by simp [showAmode]

@[simp] theorem openSessions_clearLane (s : State) (c : Nat) : (s.clearLane c).openSessions = s.openSessions := by
  unfold clearLane
  dsimp only
  rw [openSessions_foldl (fun t x => by simp), openSessions_foldl (fun t x => by simp)]

@[simp] theorem openSessions_holdEnd (s : State) : s.holdEnd.openSessions = s.openSessions := by simp [holdEnd]

@[simp] theorem openSessions_hamTake (s : State) (m c : Nat) : (s.hamTake m c).openSessions = s.openSessions := by simp [hamTake]

@[simp] theorem openSessions_hamAtOnce (s : State) : s.hamAtOnce.openSessions = s.openSessions := by simp [hamAtOnce]

@[simp] theorem openSessions_kickNvs (s : State) : s.kickNvs.openSessions = s.openSessions := by
  have hlate : s.dropLate.openSessions = s.openSessions := by
    unfold dropLate
    split <;> rfl
  unfold kickNvs
  dsimp only
  rw [← hlate]
  split
  · split
    · rfl
    · split <;> rfl
  · rfl

@[simp] theorem openSessions_queueSlot (s : State) (d : Nat) (b : List Byte) : (s.queueSlot d b).openSessions = s.openSessions := openSessions_kickNvs _

@[simp] theorem openSessions_saveTable (s : State) : s.saveTable.openSessions = s.openSessions := by
  unfold saveTable
  rw [openSessions_wrB, openSessions_setOn, openSessions_foldl (fun t i => by simp)]

@[simp] theorem openSessions_gaugeRecord (s : State) : s.gaugeRecord.openSessions = s.openSessions := by simp [gaugeRecord]

/-! ### Rails and procedures -/

@[simp] theorem openSessions_forceOff (s : State) (r : Nat) : (s.forceOff r).openSessions = s.openSessions := by
  unfold forceOff
  exact openSessions_foldl (fun t c => by simp) _ s

@[simp] theorem openSessions_setRole (s : State) (c n : Nat) : (s.setRole c n).openSessions = s.openSessions := by simp [setRole, identSpoil]

@[simp] theorem openSessions_phasesAside (s : State) (r : Nat) : (s.phasesAside r).openSessions = s.openSessions := by
  unfold phasesAside
  dsimp only
  simp only [openSessions_setV, openSessions_wr]
  exact openSessions_foldl (fun t c => by simp) _ s

@[simp] theorem openSessions_identAbort (s : State) (n : Nat) : (s.identAbort n).openSessions = s.openSessions := by
  unfold identAbort
  dsimp only
  split
  · simp only [openSessions_setV, openSessions_complete, openSessions_spectra, openSessions_freeHolder, openSessions_event, openSessions_wr]
  · rfl

@[simp] theorem openSessions_setDown (s : State) (r : Nat) (b : Bool) : (s.setDown r b).openSessions = s.openSessions := rfl

@[simp] theorem openSessions_setRail (s : State) (r n : Nat) : (s.setRail r n).openSessions = s.openSessions := rfl

@[simp] theorem openSessions_leaveService (s : State) (r : Nat) : (s.leaveService r).openSessions = s.openSessions := by
  have hleaves (t : State) : (t.identLeaves r).openSessions = t.openSessions := by simp [identLeaves]
  unfold leaveService
  dsimp only
  rw [hleaves, openSessions_phasesAside, openSessions_foldl (fun t x => by simp)]
  simp

@[simp] theorem openSessions_dropEn (s : State) (r : Nat) : (s.dropEn r).openSessions = s.openSessions := by simp [dropEn]

@[simp] theorem openSessions_endWaits (s : State) (r : Nat) (b : Bool) (st n : Nat) : (s.endWaits r b st n).openSessions = s.openSessions :=
  openSessions_foldl (fun t w => by simp) _ s

@[simp] theorem openSessions_endOn (s : State) (r st n : Nat) : (s.endOn r st n).openSessions = s.openSessions := openSessions_endWaits ..

@[simp] theorem openSessions_endOff (s : State) (r st n : Nat) : (s.endOff r st n).openSessions = s.openSessions := openSessions_endWaits ..

@[simp] theorem openSessions_clearOff (s : State) (r : Nat) : (s.clearOff r).openSessions = s.openSessions := by simp [clearOff]

@[simp] theorem openSessions_toDisabled (s : State) (r : Nat) : (s.toDisabled r).openSessions = s.openSessions := by simp [toDisabled]

@[simp] theorem openSessions_unstageOn (s : State) (r n : Nat) : (s.unstageOn r n).openSessions = s.openSessions := by simp [unstageOn]

@[simp] theorem openSessions_restAbort (s : State) (n : Nat) : (s.restAbort n).openSessions = s.openSessions := by
  have hnotice (t : State) (k : Nat) : (t.restNotice k).openSessions = t.openSessions := by simp [restNotice]
  simp [restAbort, hnotice]

@[simp] theorem openSessions_haltCore (s : State) (c : CoreId) (n : Nat) : (s.haltCore c n).openSessions = s.openSessions := by simp [haltCore]

@[simp] theorem openSessions_bistStop (s : State) (n : Nat) : (s.bistStop n).openSessions = s.openSessions := by simp [bistStop, testHalts]

@[simp] theorem openSessions_charAbort (s : State) (n e : Nat) : (s.charAbort n e).openSessions = s.openSessions := by simp [charAbort, charFree]

@[simp] theorem openSessions_burstEnd (s : State) : s.burstEnd.openSessions = s.openSessions := by
  have hburst (t : State) (r : Nat) (b : Bool) : (t.setBurst r b).openSessions = t.openSessions := by
    unfold setBurst
    rw [openSessions_foldl (fun t c => by simp)]
    rfl
  unfold burstEnd
  exact openSessions_foldl (fun t r => by simp [hburst]) _ s

@[simp] theorem openSessions_startRamp (s : State) (r : Nat) : (s.startRamp r).openSessions = s.openSessions := by
  unfold startRamp
  dsimp only
  simp only [openSessions_throttleRefresh, openSessions_setV]
  rw [openSessions_foldl (fun t c => by simp)]
  simp

@[simp] theorem openSessions_refreshOoe (s : State) : s.refreshOoe.openSessions = s.openSessions := by simp [refreshOoe]

@[simp] theorem openSessions_lockExpert (s : State) : s.lockExpert.openSessions = s.openSessions := by
  rw [lockExpert, clearAuto_eq, openSessions_refreshOoe, openSessions_foldl (fun t r => by rfl)]
  rfl

/-! ### A mode entry -/

@[simp] theorem openSessions_endModeCommand (s : State) (m : Nat) : (s.endModeCommand m).openSessions = s.openSessions := by simp [endModeCommand]

@[simp] theorem openSessions_runFollows (s : State) (old m : Nat) : (s.runFollows old m).openSessions = s.openSessions := by
  unfold runFollows
  split
  · split <;> rfl
  · rfl

/-- Each thing that a mode entry ends leaves the sessions as they are. -/
@[simp] theorem openSessions_enterMode (s : State) (m cause : Nat) : (s.enterMode m cause).openSessions = s.openSessions := by
  unfold enterMode
  extract_lets old ended shown reason recorded linked entry burst held update rails ident rest rehearsal bist char table
  have hlinked : linked.openSessions = s.openSessions := by simp [linked, recorded, reason, shown, ended]
  have hheld : held.openSessions = s.openSessions := by simp [held, burst, entry, hlinked]
  have hoff : (List.foldl (fun s r => if s.railLive r then (s.forceOff r).toDisabled r else s) held (List.range 4)).openSessions = held.openSessions :=
    openSessions_foldl (fun t r => by simp) _ _
  have hupdate : update.openSessions = s.openSessions := by simp [update, hoff, hheld]
  have hunstaged : (List.foldl (fun s r => s.unstageOn r 0x0B) update (List.range 4)).openSessions = update.openSessions := openSessions_foldl (fun t r => by simp) _ _
  have hrails : rails.openSessions = s.openSessions := by simp [rails, hunstaged, hupdate]
  have hrest : rest.openSessions = s.openSessions := by simp [rest, ident, hrails]
  have hbist : bist.openSessions = s.openSessions := by simp [bist, rehearsal, hrest]
  have htable : table.openSessions = s.openSessions := by simp [table, char, hbist]
  simp [htable]

@[simp] theorem openSessions_safeStart (s : State) : s.safeStart.openSessions = s.openSessions := by simp [safeStart]

/-! ### Closing -/

theorem openSessions_forgetPort (s : State) (p : Port) : (s.forgetPort p).openSessions = s.openSessions := by
  have hwaits (t : State) (w : List RailWait) (u : Option Update) : ({ t with railWaits := w, update := u } : State).openSessions = t.openSessions := rfl
  unfold forgetPort
  dsimp only
  rw [hwaits, openSessions_foldl (fun t x => by simp)]

/-- The session of a port closed, with the command that retunes for it. -/
def shutSession (s : State) (p : Port) : State := { s.updSess p (fun x => { Session.none with rx := x.rx }) with retuning := s.retuning.filter (fun x => x.1 != p) }

theorem isOpen_shutSession (s : State) (p q : Port) : ((s.shutSession p).sess q).isOpen = if p = q then false else (s.sess q).isOpen := by
  cases p <;> cases q <;> rfl

theorem dropSession_open {s : State} {p : Port} (h : (s.sess p).isOpen = true) (cause : Nat) :
    s.dropSession p cause = (((s.releaseJobs p).forgetPort p).shutSession p).event 0x7002 0 (leBytes 1 p.idx ++ leBytes 1 cause) := by
  unfold dropSession
  exact if_pos h

/-- A session that is dropped is closed, and no other is opened or closed. -/
theorem isOpen_dropSession (s : State) (p q : Port) (cause : Nat) : ((s.dropSession p cause).sess q).isOpen = if p = q then false else (s.sess q).isOpen := by
  by_cases h : (s.sess p).isOpen = true
  · rw [dropSession_open h, event_sess, isOpen_shutSession, isOpen_of_openSessions (openSessions_forgetPort ..), isOpen_of_openSessions (openSessions_releaseJobs ..)]
  · rw [show s.dropSession p cause = s by unfold dropSession; exact if_neg h]
    split
    · next hpq => rw [← hpq]; simpa using h
    · rfl

theorem isOpen_dropAll (s : State) (p : Port) : (s.dropAll.sess p).isOpen = false := by
  have hunowned (t : State) : ({ t with owner := none, granting := none, draining := none } : State).openSessions = t.openSessions := rfl
  unfold dropAll
  dsimp only
  rw [isOpen_of_openSessions (hunowned _), isOpen_of_openSessions (openSessions_lockExpert _), isOpen_dropSession, isOpen_dropSession, isOpen_dropSession]
  cases p <;> rfl

/-- Steps that open no session of a port: one that is closed stays closed. -/
def StaysClosed (p : Port) (s t : State) : Prop := (s.sess p).isOpen = false → (t.sess p).isOpen = false

theorem StaysClosed.trans {p : Port} {s t u : State} (h : StaysClosed p s t) (g : StaysClosed p t u) : StaysClosed p s u := g ∘ h

theorem StaysClosed.of_kept {s t : State} (h : t.openSessions = s.openSessions) (p : Port) : StaysClosed p s t := (isOpen_of_openSessions h p).trans

/-- The update that runs is forgotten, and its UPDATE_COMMIT fails (R65). -/
def updateFails (s : State) (u : Update) (n : Nat) : State :=
  if u.committing then ({ s with update := none } : State).complete u.port u.tag 0x7E stFailed n else { s with update := none }

theorem openSessions_updateFails (s : State) (u : Update) (n : Nat) : (s.updateFails u n).openSessions = s.openSessions := by
  unfold updateFails
  split
  · exact openSessions_complete ..
  · rfl

theorem abortUpdate_some {s : State} {u : Update} (h : s.update = some u) (n : Nat) : s.abortUpdate n =
    if (s.updateFails u n).mode = 11 then (if u.source = 2 then ((s.updateFails u n).enterMode u.source 0x0C).dropAll.safeStart else (s.updateFails u n).enterMode u.source 0x0C)
    else s.updateFails u n := by
  unfold abortUpdate updateFails
  rw [h]

/-- An update that is aborted may drop every session, and opens none (R65). -/
theorem staysClosed_abortUpdate (s : State) (p : Port) (n : Nat) : StaysClosed p s (s.abortUpdate n) := by
  cases h : s.update with
  | none => rw [abortUpdate_none h]; exact id
  | some u =>
    rw [abortUpdate_some h]
    split
    · split
      · exact fun _ => (isOpen_of_openSessions (openSessions_safeStart _) p).trans (isOpen_dropAll _ p)
      · exact .of_kept ((openSessions_enterMode ..).trans (openSessions_updateFails ..)) p
    · exact .of_kept (openSessions_updateFails ..) p

theorem openSessions_dropGrant (s : State) (r : Option Nat) : (s.dropGrant r).openSessions = s.openSessions := by
  unfold dropGrant
  split
  · dsimp only
    split
    · exact openSessions_reply ..
    · rfl
  · rfl

theorem openSessions_checkGrant (s : State) : s.checkGrant.openSessions = s.openSessions := by
  unfold checkGrant
  split
  · split
    · rfl
    · exact openSessions_dropGrant ..
  · rfl

theorem openSessions_endClaim (s : State) (p : Port) (st n : Nat) : (s.endClaim p st n).openSessions = s.openSessions := by
  unfold endClaim
  split
  · rfl
  · exact (openSessions_complete ..).trans (openSessions_updSess s p (f := fun x => { x with claim := none }) fun _ => rfl)

theorem openSessions_renewLease (s : State) : s.renewLease.openSessions = s.openSessions := by
  unfold renewLease
  split <;> exact openSessions_setV ..

theorem openSessions_ownerTakes (s : State) (new : Option Port) : (s.ownerTakes new).openSessions = s.openSessions := by
  cases new with
  | none => rfl
  | some p => exact (openSessions_renewLease _).trans ((openSessions_setV ..).trans ((openSessions_endClaim ..).trans (openSessions_alertPort ..)))

theorem openSessions_leaveOwner (s : State) (p : Port) : (s.leaveOwner p).openSessions = s.openSessions :=
  openSessions_updSess s p (f := fun x => { x with queue := x.queue.map markOld }) fun _ => rfl

theorem openSessions_ownerLeft (s : State) (p : Port) (new : Option Port) (means : Nat) : (s.ownerLeft p new means).openSessions = s.openSessions := by
  unfold ownerLeft
  dsimp only
  rw [openSessions_lockExpert, openSessions_alertPort, openSessions_leaveOwner, openSessions_event]
  rfl

/-- Ownership that passes from an owner opens no session. -/
theorem staysClosed_passOwner {s : State} {q : Port} (ho : s.owner = some q) (p : Port) (new : Option Port) (means : Nat) : StaysClosed p s (s.passOwner new means) := by
  rw [passOwner_owned ho]
  exact (StaysClosed.of_kept ((openSessions_ownerTakes ..).trans (openSessions_ownerLeft ..)) p).trans (staysClosed_abortUpdate _ p _)

/-- A session as it closes, before ownership passes (R363). -/
def droppedFrom (s : State) (p : Port) (cause : Nat) : State := ((if s.isOwner p then s.dropGrant none else s).dropSession p cause).checkGrant

/-- A session that closes is closed, whatever its close passes on (R363). -/
theorem isOpen_closeSession (s : State) (p : Port) (cause : Nat) : ((s.closeSession p cause).sess p).isOpen = false := by
  have hdropped : ((s.droppedFrom p cause).sess p).isOpen = false := by
    rw [droppedFrom, isOpen_of_openSessions (openSessions_checkGrant _), isOpen_dropSession, if_pos rfl]
  by_cases hopen : (s.sess p).isOpen = true
  · have hclose : s.closeSession p cause =
        if (s.droppedFrom p cause).isOwner p then (s.droppedFrom p cause).passOwner ((s.droppedFrom p cause).bestClaim (fun _ => true)) meansClose else s.droppedFrom p cause := by
      unfold closeSession
      exact if_pos hopen
    rw [hclose]
    split
    · next howner => exact staysClosed_passOwner (beq_iff_eq.1 howner) p _ _ hdropped
    · exact hdropped
  · rw [show s.closeSession p cause = s by unfold closeSession; exact if_neg hopen]
    simpa using hopen

end Sys2Proof.Machine.State
end

section
/-!
PROOF. HELLO (R361, R389).
-/

namespace Sys2Proof.Machine.State

/-- The highest version that both sides know, given the part's (R361). -/
def helloVpart (s : State) : Nat := if s.mode = 2 then 1 else 3

/-- The session that HELLO opens: its version, alert mask and first SEQ, with its record (R361). -/
def helloOpened (s : State) (p : Port) (c : Cmd) : State :=
  (s.updSess p (fun x => { x with isOpen := true, av := min (leNat (c.payload.take 1)) s.helloVpart, almask := leNat (c.payload.drop 1), lastSeq := c.seq, lastPkt := some (c.seq, c.opcode, c.tag, leNat ((packet (c.ver * 16) c.opcode c.tag c.obj c.seq c.payload).drop (8 + c.payload.length))), lastGood := s.now })).event 0x7001 0 (leBytes 1 p.idx ++ leBytes 1 (min (leNat (c.payload.take 1)) s.helloVpart))

/-- The data of HELLO's reply: versions, interface level, credits and port (R389). -/
def helloData (s : State) (p : Port) (av vpart : Nat) : List Byte :=
  leBytes 1 av ++ leBytes 1 vpart ++ leBytes 1 (s.rd Reg.SYS_IMAGE_EFFIL) ++ leBytes 1 (s.sess p).cred ++ leBytes 1 p.idx

/-- HELLO closes the session; a version above 0 opens it anew (R361). -/
def helloed (s : State) (p : Port) (c : Cmd) : State :=
  if leNat (c.payload.take 1) = 0 then s.closeSession p 0 else (s.closeSession p 0).helloOpened p c

theorem doHello_eq {s : State} {p : Port} {c : Cmd} (hl : c.payload.length = 3) (ho : c.obj = 0xFFFF) (hv : leNat (c.payload.take 1) ≤ 15) (hm : leNat (c.payload.drop 1) < 512) :
    s.doHello p c = (s.helloed p c).reply p false c stOk ((s.helloed p c).helloData p (min (leNat (c.payload.take 1)) (s.closeSession p 0).helloVpart) (s.closeSession p 0).helloVpart) := by
  unfold doHello
  exact if_neg (by omega)

theorem helloed_opens {s : State} {p : Port} {c : Cmd} (h : leNat (c.payload.take 1) ≠ 0) : s.helloed p c = (s.closeSession p 0).helloOpened p c := if_neg h

theorem helloed_closes {s : State} {p : Port} {c : Cmd} (h : leNat (c.payload.take 1) = 0) : s.helloed p c = s.closeSession p 0 := if_pos h

theorem closeSession_closed {s : State} {p : Port} (h : (s.sess p).isOpen = false) (cause : Nat) : s.closeSession p cause = s := by
  unfold closeSession
  exact if_neg (by rw [h]; exact Bool.false_ne_true)

/-- The session that HELLO has opened. -/
theorem sess_helloOpened (s : State) (p : Port) (c : Cmd) : ((s.helloOpened p c).sess p) =
    { s.sess p with isOpen := true, av := min (leNat (c.payload.take 1)) s.helloVpart, almask := leNat (c.payload.drop 1), lastSeq := c.seq, lastPkt := some (c.seq, c.opcode, c.tag, leNat ((packet (c.ver * 16) c.opcode c.tag c.obj c.seq c.payload).drop (8 + c.payload.length))), lastGood := s.now } := by
  rw [helloOpened, event_sess, sess_updSess_same]

/-- A reply that reports no refusal leaves its session but for the store (R366). -/
theorem sess_reply_ok (s : State) (p : Port) (c : Cmd) (d : List Byte) : ((s.reply p false c stOk d).sess p) =
    (s.sess p).putReply false ⟨s.finCtr, c.tag, packet ((if c.opcode = 1 ∨ ¬ (s.sess p).isOpen then 1 else (s.sess p).av) * 16 + 1) c.opcode c.tag c.obj c.seq (leBytes 1 stOk ++ d)⟩ :=
  sess_reply_same ..

/-- An uncredited reply is the newest in its store, which alone it changes, but for the account of a loss (R366). -/
theorem putReply_newest (x : Session) (r : Reply) : (x.putReply false r).uncredited.getLast? = some r ∧ (x.putReply false r).isOpen = x.isOpen ∧ (x.putReply false r).av = x.av ∧
    (x.putReply false r).almask = x.almask ∧ (x.putReply false r).lastSeq = x.lastSeq := by
  unfold Session.putReply
  rw [if_neg Bool.false_ne_true]
  split
  · exact ⟨List.getLast?_concat, rfl, rfl, rfl, rfl⟩
  · exact ⟨List.getLast?_concat, rfl, rfl, rfl, rfl⟩

section
variable {s : State} {p : Port} {c : Cmd} (hl : c.payload.length = 3) (ho : c.obj = 0xFFFF) (hv : leNat (c.payload.take 1) ≤ 15) (hm : leNat (c.payload.drop 1) < 512)
include hl ho hv hm

/-- Version 0 only closes (R361). -/
theorem doHello_closes (h0 : leNat (c.payload.take 1) = 0) : ((s.doHello p c).sess p).isOpen = false := by
  rw [doHello_eq hl ho hv hm, helloed_closes h0, isOpen_of_openSessions (openSessions_reply ..)]
  exact isOpen_closeSession ..

/-- A version above 0 opens the session anew (R361). -/
theorem doHello_opens (h0 : leNat (c.payload.take 1) ≠ 0) :
    ((s.doHello p c).sess p).isOpen = true ∧ ((s.doHello p c).sess p).almask = leNat (c.payload.drop 1) ∧ ((s.doHello p c).sess p).lastSeq = c.seq := by
  rw [doHello_eq hl ho hv hm, helloed_opens h0, sess_reply_ok]
  obtain ⟨-, hopen, -, hmask, hseq⟩ := putReply_newest (((s.closeSession p 0).helloOpened p c).sess p) _
  rw [hopen, hmask, hseq, sess_helloOpened]
  exact ⟨rfl, rfl, rfl⟩

/-- Where no session was open, the version is the highest that both sides know, and the reply names versions, interface level, credits and port (R361, R389). -/
theorem doHello_replies (hop : c.opcode = 0x01) (h0 : leNat (c.payload.take 1) ≠ 0) (hclosed : (s.sess p).isOpen = false) :
    ((s.doHello p c).sess p).av = min (leNat (c.payload.take 1)) s.helloVpart ∧
      ((s.doHello p c).sess p).uncredited.getLast?.map Reply.bytes = some (packet 0x11 0x01 c.tag 0xFFFF c.seq (leBytes 1 stOk ++ (leBytes 1 (min (leNat (c.payload.take 1)) s.helloVpart) ++
        leBytes 1 s.helloVpart ++ leBytes 1 (s.rd Reg.SYS_IMAGE_EFFIL) ++ leBytes 1 (8 - (s.sess p).outst.length) ++ leBytes 1 p.idx))) := by
  have hlevel : (s.helloOpened p c).rd Reg.SYS_IMAGE_EFFIL = s.rd Reg.SYS_IMAGE_EFFIL := (rd_event _ _ _ _ (by decide) (by decide)).trans (rd_updSess ..)
  have hcred : ((s.helloOpened p c).sess p).cred = 8 - (s.sess p).outst.length := by
    rw [sess_helloOpened]
    rfl
  rw [doHello_eq hl ho hv hm, helloed_opens h0, closeSession_closed hclosed, sess_reply_ok]
  obtain ⟨hlast, -, hav, -, -⟩ := putReply_newest ((s.helloOpened p c).sess p) _
  rw [hav, hlast, helloData, hlevel, hcred, ho, hop, if_pos (Or.inl rfl), sess_helloOpened]
  exact ⟨rfl, rfl⟩

end

/-- Admission of a HELLO takes no credit (R369). -/
theorem AdmitsAlike.entered_hello (s : State) (p : Port) (h : Hdr) (pl : List Byte) : AdmitsAlike p s (s.entered p h 0x01 pl) := by
  rw [entered_eq]
  exact ((((ptrReset s p).trans (clocked _ p)).trans (leased _ p)).trans (gapCounted ..)).trans (updSess p _ (fun _ => rfl) (fun _ => rfl) (fun _ => rfl) (fun _ => rfl))

end Sys2Proof.Machine.State

namespace Sys2Proof.Proofs

open Machine Machine.State

/-- Settles O43: a HELLO that is admitted closes its session and, unless its version is 0, opens it anew; where none was open its reply is the newest in the store. -/
theorem helloOpensSession : Obligations.HelloOpensSession := by
  intro p h vmax m0 m1 s hadm hobj hv hm
  have hno : (s.rowCmd p h 0x01 [vmax, m0, m1]).obj = 0xFFFF := by rw [rowCmd, hobj]; rfl
  have hvmax : leNat ([vmax, m0, m1].take 1) = vmax.toNat := by simp [leNat]
  have hmask : leNat ([vmax, m0, m1].drop 1) = m0.toNat + 256 * m1.toNat := by simp [leNat]
  have hle : leNat ((s.rowCmd p h 0x01 [vmax, m0, m1]).payload.take 1) ≤ 15 := hvmax.trans_le hv
  have hlt : leNat ((s.rowCmd p h 0x01 [vmax, m0, m1]).payload.drop 1) < 512 := by
    refine hmask.trans_lt ?_
    have := m0.isLt
    omega
  have hrow : exec (.hello p h [vmax, m0, m1]) s = .next ((s.entered p h 0x01 [vmax, m0, m1]).doHello p (s.rowCmd p h 0x01 [vmax, m0, m1])).after := sessionRow_admitted rfl hadm rfl
  have halike := AdmitsAlike.entered_hello s p h [vmax, m0, m1]
  refine ⟨fun h0 => ⟨_, hrow, ?_⟩, fun h0 => ⟨_, hrow, ?_⟩⟩
  · have hnz : leNat ((s.rowCmd p h 0x01 [vmax, m0, m1]).payload.take 1) ≠ 0 := fun g => h0 (BitVec.eq_of_toNat_eq (hvmax.symm.trans g))
    have hvpart : (s.entered p h 0x01 [vmax, m0, m1]).helloVpart = if s.mode = mMinimal then 1 else 3 := by
      unfold helloVpart
      rw [halike.mode]
      rfl
    beta_reduce
    rw [after_sess]
    obtain ⟨hopen, hal, hseq⟩ := doHello_opens (s := s.entered p h 0x01 [vmax, m0, m1]) (p := p) (c := s.rowCmd p h 0x01 [vmax, m0, m1]) rfl hno hle hlt hnz
    refine ⟨hopen, hal.trans hmask, hseq, fun hclosed => ?_⟩
    have hreply := doHello_replies (s := s.entered p h 0x01 [vmax, m0, m1]) (p := p) (c := s.rowCmd p h 0x01 [vmax, m0, m1]) rfl hno hle hlt rfl hnz (halike.isOpen.trans hclosed)
    rw [hvpart, halike.outst, halike.rd _ _ (by decide) (by decide), show leNat ((s.rowCmd p h 0x01 [vmax, m0, m1]).payload.take 1) = vmax.toNat from hvmax] at hreply
    refine ⟨hreply.1, ?_⟩
    simp only [List.append_assoc] at hreply ⊢
    exact hreply.2
  · beta_reduce
    rw [after_sess]
    exact doHello_closes (c := s.rowCmd p h 0x01 [vmax, m0, m1]) rfl hno hle hlt (hvmax.trans (by rw [h0]; rfl))

end Sys2Proof.Proofs
end
